-- ==== Sys2Proof/Word.lean ====
section
/-! DEFINITION. The word types of the 1890VM3T (10_state.md R31, 20_memory.md R200, 00_scope.md R6). -/

namespace Sys2Proof

/-- A 64-bit doubleword: a general register, an FPU container, a virtual address (R31, R41, R34). -/
abbrev Word := BitVec 64

/-- A 32-bit word: an instruction, a 32-bit CP0 register (R6, R300). -/
abbrev HalfWord := BitVec 32

/-- A byte of memory (R6). -/
abbrev Byte := BitVec 8

/-- A 36-bit physical address (R200). -/
abbrev PAddr := BitVec 36

/-- The number of a general, FPU or CP0 register in an instruction (R301, R302). -/
abbrev RegNum := BitVec 5

end Sys2Proof
end

