-- ==== Sys2Proof/Machine/Bits.lean ====
section
/-! DEFINITION. Bit fields, sign extension, and the bytes of a value (00_scope.md R11, R12). -/

namespace Sys2Proof.Machine

/-- The low 32 bits of a register: the operand of a 32-bit operation (R35). -/
def low32 (v : Word) : HalfWord := v.setWidth 32

/-- The result of a 32-bit operation: bit 31 fills the upper half (R35). -/
def sext32 (v : HalfWord) : Word := v.signExtend 64

/-- `sext_64` of a 16-bit immediate (30_encoding.md R303). -/
def sext16 (v : BitVec 16) : Word := v.signExtend 64

/-- `zext_64` of a 16-bit immediate (30_encoding.md R303). -/
def zext16 (v : BitVec 16) : Word := v.setWidth 64

/-- A field at bit `k` of a 32-bit register. -/
def place {n : Nat} (k : Nat) (v : BitVec n) : HalfWord := v.setWidth 32 <<< k

/-- A one-bit field at bit `k` of a 32-bit register. -/
def placeBit (k : Nat) (b : Bool) : HalfWord := place k (BitVec.ofBool b)

/-- The value of bytes, the first one most significant. -/
def joinBytes (bs : List Byte) : Word := bs.foldl (fun a b => (a <<< 8) ||| b.setWidth 64) 0

/-- The low `n` bytes of a value, the most significant one first. -/
def splitBytes (n : Nat) (v : Word) : List Byte := (List.range n).map fun i => v.extractLsb' (8 * (n - 1 - i)) 8

/-- Where the byte lanes of an access of `n` bytes at physical address `pa` start. Lanes are numbered over the whole of
memory, lane 0 of a doubleword being its bits 63:56 (20_memory.md R201): with `be` the lane is the address, without it the
lanes of a doubleword run the other way. -/
def laneKey (be : Bool) (pa n : Nat) : Nat :=
  if be then pa else pa / 8 * 8 + (8 - (pa % 8 + n))

end Sys2Proof.Machine
end

