-- ==== Sys2Proof/Config.lean ====
section
/-! DEFINITION. What an implementation fixes: the named parameters of 92_eei_decisions.md as plain data (State holds one copy,
no step changes it), and the constants without a body that stand for values the spec leaves open. -/

namespace Sys2Proof

/-- The free values: the n-th value of which the spec says nothing (00_scope.md R16, `ANY_n`). DESIGN CHOICE, safe: a claim
about the model is true whatever function this is (log 4). -/
opaque Config.any : Nat → Word

/-- RandomMap: the TLB entry TLBWR writes, from Random and Wired (10_state.md R75, D41). The model keeps it in Wired..47. -/
opaque Config.randomMap : BitVec 6 → BitVec 6 → BitVec 6

/-- Which address an exception of LUXC1 reports in BadVAddr: the aligned one (48_fpu_load_store_move.md R729) or the one before
its low three bits are cleared (60_exceptions.md R824). The spec states both and names no winner, so the model says neither.
DESIGN CHOICE, safe: a claim about the model is true of both machines (log 25). -/
opaque Config.luxc1ReportsAligned : Bool

/-- A range of physical addresses whose reads the platform answers with a bus error (20_memory.md R237, R259). -/
structure BusErrorRange where
  base : Nat
  size : Nat
deriving DecidableEq, Repr, Inhabited

/-- The bit positions of the implementation fields of Config0 (CONFIG0_IMPL_LAYOUT, D4): the lowest bit of each field. -/
structure Config0Layout where
  te : Nat
  wp : Nat
  bw : Nat
  adp : Nat
  isd : Nat
  bbl : Nat
  tr : Nat
  did : Nat
  bm : Nat
deriving DecidableEq, Repr, Inhabited

/-- The named parameters a model takes as arguments (92_eei_decisions.md, second table). -/
structure Params where
  /-- STATUS_TIP_BIT: 16, 17 or 18 (D3). -/
  statusTipBit : Nat
  /-- CONFIG0_IMPL_LAYOUT (D4). -/
  config0 : Config0Layout
  /-- ERRCTL_LAYOUT: the position of VG (10_state.md R117). -/
  errCtlVg : Nat
  /-- ERRCTL_LAYOUT: the position of WSE (10_state.md R117). -/
  errCtlWse : Nat
  /-- TAGLO_DIRTY_LSB: 6 to 22 (10_state.md R120). -/
  tagLoDirtyLsb : Nat
  /-- UNIMPL_FPU_ENCODING: true for FPE_E, false for RI (D9). -/
  unimplFpuIsFpe : Bool
  /-- FPU_MOVE64_FAULT: true for RI, false for FPE_E (D24). -/
  fpuMove64IsRi : Bool
  /-- WORD_OPERAND_STRICT: a 32-bit operation on a register that is no sign-extended word gives any value (D27). -/
  wordOperandStrict : Bool
  /-- READ_OVERTAKES_WRITES: false where a read on the bus waits for the write buffer (D5). -/
  readOvertakesWrites : Bool
  /-- ERL_USEG_UNMAPPED (D20). -/
  erlUsegUnmapped : Bool
  /-- RESET_VECTOR (D11). -/
  resetVector : Word
  /-- DBE_SKID: how many instructions may complete after a load whose bus error is reported late (60_exceptions.md R808). -/
  dbeSkid : Nat
  /-- Which reads of the platform are answered with a bus error (20_memory.md R237). -/
  busErrors : List BusErrorRange
deriving DecidableEq, Repr, Inhabited

end Sys2Proof
end

