-- ==== Sys2Proof/Machine/State.lean ====
section
/-! DEFINITION. The state of the machine (10_state.md), its reset value (70_reset_and_hazards.md R882, R885, R886), and the
reasons a step can stop. Plain data throughout. -/

namespace Sys2Proof.Machine

/-- FCSR by field (R51 to R57). `fcc` bit i is FCCi; `cause` is E V Z O U I, `enables` and `flags` V Z O U I, each with its
first letter in the most significant bit. -/
structure Fcsr where
  fcc : BitVec 8
  fs : Bool
  cause : BitVec 6
  enables : BitVec 5
  flags : BitVec 5
  rm : BitVec 2
deriving DecidableEq, Repr, Inhabited

/-- CP0 Index (R74). -/
structure IndexReg where
  p : Bool
  index : BitVec 6
deriving DecidableEq, Repr, Inhabited

/-- CP0 EntryLo0 and EntryLo1 (R76). -/
structure EntryLo where
  pfn : BitVec 24
  c : BitVec 3
  d : Bool
  v : Bool
  g : Bool
deriving DecidableEq, Repr, Inhabited

/-- CP0 Context (R77). -/
structure ContextReg where
  pteBase : BitVec 41
  badVpn2 : BitVec 19
deriving DecidableEq, Repr, Inhabited

/-- CP0 EntryHi (R82). -/
structure EntryHi where
  r : BitVec 2
  vpn2 : BitVec 27
  asid : BitVec 8
deriving DecidableEq, Repr, Inhabited

/-- CP0 Status, the fields that hold a value (R84 to R97). TIP is the timer request. -/
structure Status where
  cu1 : Bool
  cu0 : Bool
  rp : Bool
  fr : Bool
  re : Bool
  px : Bool
  bev : Bool
  ts : Bool
  sr : Bool
  nmi : Bool
  im : BitVec 8
  kx : Bool
  sx : Bool
  ux : Bool
  ksu : BitVec 2
  erl : Bool
  exl : Bool
  ie : Bool
deriving DecidableEq, Repr, Inhabited

/-- CP0 Cause, the fields that hold a value (R98 to R102). `ip` is IP1 and IP0; IP7 to IP2 are computed. -/
structure Cause where
  bd : Bool
  ce : BitVec 2
  iv : Bool
  ip : BitVec 2
  excCode : BitVec 5
deriving DecidableEq, Repr, Inhabited

/-- CP0 Config0, the fields software writes (R105 to R109). -/
structure Config0 where
  te : Bool
  wp : BitVec 2
  adp : BitVec 2
  isd : Bool
  bbl : Bool
  tr : Bool
  did : Bool
  k0 : BitVec 3
deriving DecidableEq, Repr, Inhabited

/-- CP0 XContext (R111). -/
structure XContext where
  pteBase : BitVec 31
  r : BitVec 2
  badVpn2 : BitVec 27
deriving DecidableEq, Repr, Inhabited

/-- A performance counter control register (R114). -/
structure PerfCtl where
  event : BitVec 4
  ie : Bool
  u : Bool
  s : Bool
  k : Bool
  exl : Bool
deriving DecidableEq, Repr, Inhabited

/-- CP0 ErrCtl (R117). -/
structure ErrCtl where
  vg : Bool
  dmh : Bool
  imh : Bool
  wst : Bool
  wse : Bool
deriving DecidableEq, Repr, Inhabited

/-- The CP0 registers that hold a value (R71). Cause.IP7 to IP2, PrID, Config1, TagHi and DataHi are views or constants. -/
structure Cp0 where
  index : IndexReg
  random : BitVec 6
  entryLo0 : EntryLo
  entryLo1 : EntryLo
  context : ContextReg
  pageMask : BitVec 12
  wired : BitVec 6
  badVAddr : Word
  count : HalfWord
  entryHi : EntryHi
  compare : HalfWord
  status : Status
  cause : Cause
  epc : Word
  config0 : Config0
  xcontext : XContext
  debug : HalfWord
  depc : Word
  perfCtl0 : PerfCtl
  perfCnt0 : HalfWord
  perfCtl1 : PerfCtl
  perfCnt1 : HalfWord
  errCtl : ErrCtl
  tagLo : BitVec 26
  dataLo : Word
  errorEpc : Word
  desave : Word
deriving DecidableEq, Repr, Inhabited

/-- One page of a TLB entry (R130). -/
structure TlbPage where
  pfn : BitVec 24
  c : BitVec 3
  d : Bool
  v : Bool
deriving DecidableEq, Repr, Inhabited

/-- One TLB entry with its hidden valid bit (R130, R131). -/
structure TlbEntry where
  mask : BitVec 12
  r : BitVec 2
  vpn2 : BitVec 27
  g : Bool
  asid : BitVec 8
  even : TlbPage
  odd : TlbPage
  valid : Bool
deriving DecidableEq, Repr, Inhabited

/-- One cache line (R140, R141, R143). `data` is in byte lanes: byte 8d is the most significant byte of doubleword d. The
instruction cache does not use `dirty`. -/
structure CacheLine where
  tag : BitVec 24
  v : Bool
  l : Bool
  dirty : Bool
  data : Vector Byte 32
deriving DecidableEq, Repr, Inhabited

/-- One cache (R140, R143, R146): the lines that differ from the blank line, by 128 * way + line; the Way Select words that
differ from 0, by line; and the model's own record of the tags and words software has initialised (U20). -/
structure Cache where
  lines : List (Nat × CacheLine)
  ws : List (Nat × BitVec 6)
  tagInit : BitVec 512
  wsInit : BitVec 128
deriving DecidableEq, Repr, Inhabited

/-- A write on its way to the bus: the byte lane it starts at and its bytes (R150, 20_memory.md R251). -/
structure BusWrite where
  key : Nat
  bytes : List Byte
deriving DecidableEq, Repr, Inhabited

/-- The format an FPU register was last written in; `raw` after a load, a move from the integer side, or reset (R43). -/
inductive FprFormat where
  | raw
  | s
  | w
  | d
  | l
deriving DecidableEq, Repr, Inhabited

/-- A destination of a load, and a register an instruction reads: of an FPU register `wide` for 64 bits, else 32 (R45). -/
inductive Dest where
  | gpr (r : RegNum)
  | fpr (r : RegNum) (wide : Bool)
  | none
deriving DecidableEq, Repr, Inhabited

/-- A data bus error not yet reported (R151, 60_exceptions.md R808): how many instructions still complete, the destination of
the load, and, while the instruction at `pc` is in the delay slot of one of them, the general registers before that branch. -/
structure LateError where
  left : Nat
  dest : Dest
  regs : Option (Vector Word 32)
deriving DecidableEq, Repr, Inhabited

/-- The model's own record of one store to a 32-byte line: the offset of its first byte in the line, and what the bytes were
before it (20_memory.md R256; log 29). -/
structure CodeStore where
  off : Nat
  before : List Byte
deriving DecidableEq, Repr, Inhabited

/-- The model's own record of the stores to a 32-byte line that a fetch need not see yet, newest first, and how far the recipe
that makes them visible has gone (20_memory.md R256, D6; log 29). A step of the recipe serves every store before it, so each
count is the number of the newest stores that the step has not served. -/
structure CodeLine where
  stores : List CodeStore
  /-- Those after the last SYNC that had the line in memory. -/
  unsynced : Nat
  /-- Those not in memory when Hit Invalidate last cleared the line in the instruction cache. -/
  uninvalidated : Nat
  /-- Those not in memory at the last taken jump: an uncached fetch need not see them. -/
  unjumped : Nat
deriving DecidableEq, Repr, Inhabited

/-- The mode latches of the cold reset (R158, 70_reset_and_hazards.md R881). -/
structure Latches where
  bigEndian : Bool
  bus32 : Bool
  clockMult : BitVec 3
deriving DecidableEq, Repr, Inhabited

/-- The two reset events; a cold reset brings the mode inputs (70_reset_and_hazards.md R880 to R883). -/
inductive ResetKind where
  | cold (modes : Latches)
  | warm
deriving DecidableEq, Repr, Inhabited

/-- What the outside world does at one instruction boundary (80_external_interface.md R945; log 5). -/
structure HostInput where
  /-- The pins Int*[5:0], 1 for active (R155). -/
  intPins : BitVec 6
  /-- The pin NMI*, true for active (R156). -/
  nmi : Bool
  /-- A due interrupt still waits at this boundary (60_exceptions.md R831). -/
  holdInt : Bool
  /-- A reset seen on the pins. -/
  reset : Option ResetKind
  /-- How far Count advances (60_exceptions.md R850). -/
  count : Nat
  /-- How many events counter 0 counts if it is enabled (60_exceptions.md R855). -/
  perf0 : Nat
  /-- How many events counter 1 counts if it is enabled. -/
  perf1 : Nat
  /-- How many buffered writes reach the bus (20_memory.md R251). -/
  drain : Nat
  /-- Bytes of memory that a device or an external bus master changes (20_memory.md R247). -/
  dma : List BusWrite
deriving DecidableEq, Repr, Inhabited

/-- The state of the machine (10_state.md R30). -/
structure State where
  /-- The general registers (R31). -/
  gpr : Vector Word 32
  hi : Word
  lo : Word
  /-- The address of the instruction about to execute (R34). -/
  pc : Word
  /-- The pending target while the instruction at `pc` is in a delay slot (R37). -/
  delay : Option Word
  llbit : Bool
  /-- The FPU containers (R41). -/
  fpr : Vector Word 32
  /-- The format each container was last written in (R43). -/
  fprFormat : Vector FprFormat 32
  fcsr : Fcsr
  cp0 : Cp0
  tlb : Vector TlbEntry 48
  icache : Cache
  dcache : Cache
  /-- The Branch Prediction RAM words that differ from 0, by address (R149). -/
  brRam : List (Nat × BitVec 20)
  /-- The write buffer, oldest first (R150). -/
  wbuf : List BusWrite
  /-- Physical memory by byte lane (20_memory.md R200, R201). -/
  mem : List Host.Cell
  /-- The stores a fetch need not see yet, by line: bus address / 32 (log 29). -/
  codeStores : List (Nat × CodeLine)
  /-- A late data bus error (R151). -/
  lateError : Option LateError
  /-- The sampled interrupt pins, 1 for active (R155). -/
  intPins : BitVec 6
  /-- The sampled NMI pin, true for active (R156). -/
  nmiPin : Bool
  nmiPending : Bool
  /-- The host lets a due interrupt wait at this boundary (60_exceptions.md R831). -/
  intHeld : Bool
  /-- The timer request, Status.TIP (R157, R93). -/
  timerRequest : Bool
  /-- The processor sleeps (60_exceptions.md R860). -/
  sleeping : Bool
  resetRequest : Option ResetKind
  latches : Latches
  /-- The named parameters; no step changes them. -/
  conf : Params
  /-- The environment, one entry for each instruction boundary (log 5). -/
  host : List HostInput
  /-- How many free values have been used (log 4). -/
  draws : Nat
deriving DecidableEq, Repr, Inhabited

/-- Why a program stops: it does what the spec says has no effect it gives. Each is safe: the chip may go on. -/
inductive Fault where
  /-- A branch, jump, ERET or DERET in a delay slot (43_branch_jump_nop.md R503, D39). -/
  | branchInDelaySlot
  /-- A linking branch whose source is register 31, or JALR with rd = rs (43_branch_jump_nop.md R504, D39). -/
  | linkRegisterIsSource
  /-- A 64-bit or arithmetic FPU operand names an odd register while Status.FR = 0 (R47, D22). -/
  | oddFprWithFr0
  /-- Format L while Status.FR = 0 (R47, D23). -/
  | longFormatWithFr0
  /-- CFC1 or CTC1 names a control register the chip does not have (R63, U14). -/
  | unknownFcr
  /-- An access through a cache policy code 4 to 7 (20_memory.md R233, U4). -/
  | reservedCachePolicy
  /-- An instruction is executed with KSU = 3 and EXL = ERL = 0 (R96, U5). -/
  | reservedKsu
  /-- A lookup or TLBP examines a valid TLB entry whose Mask is none of the seven (R78, U6). -/
  | illegalPageMask
  /-- TLBWR with Wired above 47 (R79, U7). -/
  | wiredAbove47
  /-- TLBWI with Index above 47 (R74, D32). -/
  | indexAbove47
  /-- A TLB instruction or a mapped access while Config0.TR = 1 (R108, U8). -/
  | tlbHeldInReset
  /-- MTC0 or DMTC0 changes Config0.K0 while running in kseg0 (R109, U9). -/
  | k0ChangedInKseg0
  /-- An uncached access to a line with a valid cached copy (20_memory.md R244, U10). -/
  | mixedCachePolicy
  /-- A fill in a set whose four lines are locked (20_memory.md R245, U11). -/
  | allWaysLocked
  /-- A cached access before tags and Way Select have been initialised (70_reset_and_hazards.md R890, U20). -/
  | cacheNotInitialised
  /-- CACHE with WST = 1 and an operation Table 3.53 does not list (46_cp0.md R646 b, D35). -/
  | cacheOpUndefined
  /-- A CACHE address operation on an uncached address (46_cp0.md R646 c, D35). -/
  | cacheOpUncached
deriving DecidableEq, Repr

/-- Why an instruction has no meaning in this model. Each is safe. -/
inductive Refusal where
  /-- The instruction is not modelled yet. -/
  | notModelled (mnemonic : String)
  /-- SDBBP, DERET and the registers Debug, DEPC, DESAVE act on the EJTAG unit, whose document is not in the spec
  (00_scope.md R9, D14). -/
  | ejtag
deriving DecidableEq, Repr

/-- What a step or a meaning answers. -/
abbrev Out := Host.Outcome State Fault Refusal

/-- Everything a reset leaves unspecified (70_reset_and_hazards.md R886, D12, D56): the n-th state of which the spec says
nothing. DESIGN CHOICE, safe (log 4, log 13). -/
opaque Config.anyState : Nat → State

/-- The values of a cold reset for the CP0 registers (70_reset_and_hazards.md R885); zero where the spec gives none, DESIGN
CHOICE (log 1). -/
def Cp0.reset : Cp0 where
  index := { p := false, index := 0 }
  random := 47
  entryLo0 := { pfn := 0, c := 0, d := false, v := false, g := false }
  entryLo1 := { pfn := 0, c := 0, d := false, v := false, g := false }
  context := { pteBase := 0, badVpn2 := 0 }
  pageMask := 0
  wired := 0
  badVAddr := 0
  count := 0
  entryHi := { r := 0, vpn2 := 0, asid := 0 }
  compare := 0
  status := { cu1 := false, cu0 := false, rp := false, fr := false, re := false, px := false, bev := true, ts := false,
              sr := false, nmi := false, im := 0, kx := false, sx := false, ux := false, ksu := 0, erl := true,
              exl := false, ie := false }
  cause := { bd := false, ce := 0, iv := false, ip := 0, excCode := 0 }
  epc := 0
  config0 := { te := false, wp := 3, adp := 3, isd := false, bbl := false, tr := false, did := false, k0 := 2 }
  xcontext := { pteBase := 0, r := 0, badVpn2 := 0 }
  debug := 0
  depc := 0
  perfCtl0 := { event := 0, ie := false, u := false, s := false, k := false, exl := false }
  perfCnt0 := 0
  perfCtl1 := { event := 0, ie := false, u := false, s := false, k := false, exl := false }
  perfCnt1 := 0
  errCtl := { vg := false, dmh := false, imh := false, wst := false, wse := false }
  tagLo := 0
  dataLo := 0
  errorEpc := 0
  desave := 0

/-- A TLB entry after reset: the hidden valid bit is 0 (R133); the other fields are zero, DESIGN CHOICE (log 1). -/
def TlbEntry.reset : TlbEntry where
  mask := 0
  r := 0
  vpn2 := 0
  g := false
  asid := 0
  even := { pfn := 0, c := 0, d := false, v := false }
  odd := { pfn := 0, c := 0, d := false, v := false }
  valid := false

/-- A cache after reset: nothing listed, nothing initialised by software (R152; DESIGN CHOICE, log 1, log 12). -/
def Cache.reset : Cache where
  lines := []
  ws := []
  tagInit := 0
  wsInit := 0

/-- The parameters of the machine: the spec's defaults, and positions this model names where the spec gives none (DESIGN
CHOICE, log 7, log 8). -/
def Params.reset : Params where
  statusTipBit := 16
  config0 := { te := 30, wp := 28, bw := 27, adp := 25, isd := 24, bbl := 23, tr := 22, did := 21, bm := 16 }
  errCtlVg := 4
  errCtlWse := 3
  tagLoDirtyLsb := 16
  unimplFpuIsFpe := false
  fpuMove64IsRi := false
  wordOperandStrict := false
  readOvertakesWrites := true
  erlUsegUnmapped := true
  resetVector := 0xFFFFFFFFBFC00000
  dbeSkid := 0
  busErrors := []

/-- The machine right after a cold reset (70_reset_and_hazards.md R882, R885). Where the spec gives a field no value the
value here is zero, DESIGN CHOICE and unsafe (log 1); the mode latches are the platform's (log 6). -/
def State.reset : State where
  gpr := Vector.replicate 32 0
  hi := 0
  lo := 0
  pc := 0xFFFFFFFFBFC00000
  delay := none
  llbit := false
  fpr := Vector.replicate 32 0
  fprFormat := Vector.replicate 32 .raw
  fcsr := { fcc := 0, fs := false, cause := 0, enables := 0, flags := 0, rm := 0 }
  cp0 := Cp0.reset
  tlb := Vector.replicate 48 TlbEntry.reset
  icache := Cache.reset
  dcache := Cache.reset
  brRam := []
  wbuf := []
  mem := []
  codeStores := []
  lateError := none
  intPins := 0
  nmiPin := false
  nmiPending := false
  intHeld := false
  timerRequest := false
  sleeping := false
  resetRequest := none
  latches := { bigEndian := true, bus32 := false, clockMult := 0 }
  conf := Params.reset
  host := []
  draws := 0

end Sys2Proof.Machine
end

