-- ==== Sys2Proof/Machine/Store.lean ====
section
/-! DEFINITION. Sparse data in one canonical form: keys strictly rising, no entry equal to the default. Memory, cache lines,
Way Select words and the Branch Prediction RAM are held so. -/

namespace Sys2Proof.Machine

/-- The value at a key; `d` where none is listed. -/
def storeGet {α : Type} (d : α) : List (Nat × α) → Nat → α
  | [], _ => d
  | (k, v) :: t, x => if x = k then v else storeGet d t x

/-- Set the value at a key; the default is not listed. -/
def storeSet {α : Type} [DecidableEq α] (d : α) : List (Nat × α) → Nat → α → List (Nat × α)
  | [], x, v => if v = d then [] else [(x, v)]
  | (k, w) :: t, x, v =>
    if x < k then (if v = d then (k, w) :: t else (x, v) :: (k, w) :: t)
    else if x = k then (if v = d then t else (x, v) :: t)
    else (k, w) :: storeSet d t x v

/-- A change of every entry; what becomes the default is not listed. -/
def storeMap {α : Type} [DecidableEq α] (d : α) (f : Nat → α → α) : List (Nat × α) → List (Nat × α)
  | [] => []
  | (k, v) :: t => if f k v = d then storeMap d f t else (k, f k v) :: storeMap d f t

/-- Keys from `lo` up, strictly rising, and no entry equal to the default. -/
def storeWfFrom {α : Type} [DecidableEq α] (d : α) : Nat → List (Nat × α) → Bool
  | _, [] => true
  | lo, (k, v) :: t => decide (lo ≤ k) && decide (v ≠ d) && storeWfFrom d (k + 1) t

/-- The canonical form. -/
def storeWf {α : Type} [DecidableEq α] (d : α) (m : List (Nat × α)) : Bool := storeWfFrom d 0 m

/-- Any list of entries in canonical form, with keys below `n`. -/
def storeNormal {α : Type} [DecidableEq α] (d : α) (n : Nat) (m : List (Nat × α)) : List (Nat × α) :=
  (List.range n).foldl (fun acc k => storeSet d acc k (storeGet d m k)) []

/-- What a byte of memory that nothing has written reads as. DESIGN CHOICE, unsafe (log 2). -/
def blankByte : Byte := 0

/-- Memory is in canonical form. -/
def Memory.wf (m : List Host.Cell) : Bool := storeWf blankByte m

/-- One byte lane of memory. -/
def readByte (m : List Host.Cell) (key : Nat) : Byte := storeGet blankByte m key

/-- Write one byte lane of memory. -/
def writeByte (m : List Host.Cell) (key : Nat) (b : Byte) : List Host.Cell := storeSet blankByte m key b

/-- `n` byte lanes from `key` up. -/
def readBytes (m : List Host.Cell) (key n : Nat) : List Byte := (List.range n).map fun i => readByte m (key + i)

/-- Write byte lanes from `key` up. -/
def writeBytes : List Host.Cell → Nat → List Byte → List Host.Cell
  | m, _, [] => m
  | m, key, b :: bs => writeBytes (writeByte m key b) (key + 1) bs

/-- A write transaction reaches memory. -/
def applyWrite (m : List Host.Cell) (w : BusWrite) : List Host.Cell := writeBytes m w.key w.bytes

/-- Memory as the processor's own loads see it: the buffered writes done in order (20_memory.md R250, R251). -/
def memView (s : State) : List Host.Cell := s.wbuf.foldl applyWrite s.mem

/-- Put a write into the write buffer (20_memory.md R251). -/
def enqueue (s : State) (w : BusWrite) : State := { s with wbuf := s.wbuf ++ [w] }

/-- The oldest `n` buffered writes reach the bus (20_memory.md R251). -/
def drain (n : Nat) (s : State) : State :=
  { s with mem := (s.wbuf.take n).foldl applyWrite s.mem, wbuf := s.wbuf.drop n }

/-- The write buffer is emptied (20_memory.md R253). -/
def drainAll (s : State) : State := { s with mem := memView s, wbuf := [] }

end Sys2Proof.Machine
end

