-- ==== Sys2Proof/Machine/Basics.lean ====
section
/-! DEFINITION. Access to the registers, the free values, the privilege mode, and what an operation of the machine can answer
(10_state.md R31 to R48, 60_exceptions.md R802, R840). -/

namespace Sys2Proof.Machine

/-- The ordinary exceptions, with what their entry records (60_exceptions.md R801, R802, R824). `store` says that the access
was a store; `va` is the failing address. -/
inductive Exc where
  | int
  | mod (va : Word)
  | tlbRefill (store : Bool) (va : Word)
  | tlbInvalid (store : Bool) (va : Word)
  | addressError (store : Bool) (va : Word)
  | ibe
  | dbe
  | sys
  | bp
  | ri
  | cpu (ce : BitVec 2)
  | ov
  | tr
  | fpe
  | mcheck
deriving DecidableEq, Repr

/-- What an operation inside an instruction answers: a value and a state; an exception to take in a state; a data read the
bus answered with an error (60_exceptions.md R808); or a stop. -/
inductive Res (α : Type) where
  | ok (a : α) (s : State)
  | trap (e : Exc) (s : State)
  | busError (s : State)
  | stop (f : Fault)

/-- The next operation, on the value and the state of the one before it. -/
def Res.bind {α β : Type} (r : Res α) (f : α → State → Res β) : Res β :=
  match r with
  | .ok a s => f a s
  | .trap e s => .trap e s
  | .busError s => .busError s
  | .stop e => .stop e

/-- General register `r`; register 0 reads 0 (R31). -/
def gprRead (s : State) (r : RegNum) : Word := if r = 0 then 0 else s.gpr[r.toNat]'r.isLt

/-- Write general register `r`; a write to register 0 is discarded (R31). -/
def gprWrite (s : State) (r : RegNum) (v : Word) : State :=
  if r = 0 then s else { s with gpr := s.gpr.set r.toNat v r.isLt }

/-- The `k`-th free value from here on (log 4). -/
def freeWord (s : State) (k : Nat) : Word := Config.any (s.draws + k)

/-- The next `n` free values have been used (log 4). -/
def spend (n : Nat) (s : State) : State := { s with draws := s.draws + n }

/-- The privilege modes in scope (60_exceptions.md R840; Debug mode is out of scope, log 14). -/
inductive Mode where
  | kernel
  | supervisor
  | user
deriving DecidableEq, Repr

/-- `CurrentMode()` (60_exceptions.md R840). The reserved KSU = 3 never gets here: the step stops first (U5). -/
def currentMode (s : State) : Mode :=
  let st := s.cp0.status
  if st.exl || st.erl || st.ksu == 0 then .kernel else if st.ksu == 1 then .supervisor else .user

/-- `Exec64()`: the MIPS-64 level instructions are available (30_encoding.md R320). -/
def exec64 (s : State) : Bool :=
  !(currentMode s == .user && !s.cp0.status.ux && !s.cp0.status.px)

/-- `CP0Usable()` (46_cp0.md R610). -/
def cp0Usable (s : State) : Bool := currentMode s == .kernel || s.cp0.status.cu0

/-- The byte order of data accesses, true for big-endian: Status.RE reverses it in User mode (20_memory.md R203). -/
def dataBigEndian (s : State) : Bool :=
  s.latches.bigEndian != (currentMode s == .user && s.cp0.status.re)

/-- `Fpr32(i)`: the low half of a container (48_fpu_load_store_move.md R720). -/
def fpr32 (s : State) (i : RegNum) : HalfWord := low32 (s.fpr[i.toNat]'i.isLt)

/-- The other register of a pair, `i + 1` for an even `i` (R45). -/
def pairUp (i : RegNum) : RegNum := i ||| 1

/-- `Fpr64(i)` where it is defined: with FR = 0 the pair of an even number (R720). -/
def fpr64 (s : State) (i : RegNum) : Word :=
  if s.cp0.status.fr then s.fpr[i.toNat]'i.isLt else fpr32 s (pairUp i) ++ fpr32 s i

/-- A 64-bit or arithmetic operand may not name an odd register while FR = 0 (R47, D22). -/
def fprNumberOk (s : State) (i : RegNum) : Bool := s.cp0.status.fr || !i.getLsbD 0

/-- Put a value and its format into container `i`. -/
def setContainer (s : State) (i : RegNum) (v : Word) (f : FprFormat) : State :=
  { s with fpr := s.fpr.set i.toNat v i.isLt, fprFormat := s.fprFormat.set i.toNat f i.isLt }

/-- `SetFpr32(i, w)`: with FR = 1 the upper half becomes any value, with FR = 0 it stays (R720, R43). -/
def setFpr32 (s : State) (i : RegNum) (w : HalfWord) (f : FprFormat) : State :=
  if s.cp0.status.fr then spend 1 (setContainer s i ((freeWord s 0).extractLsb' 32 32 ++ w) f)
  else setContainer s i ((s.fpr[i.toNat]'i.isLt).extractLsb' 32 32 ++ w) f

/-- `SetFpr64(i, d)` where it is defined (R720). -/
def setFpr64 (s : State) (i : RegNum) (d : Word) (f : FprFormat) : State :=
  if s.cp0.status.fr then setContainer s i d f
  else
    let low := setContainer s i ((s.fpr[i.toNat]'i.isLt).extractLsb' 32 32 ++ low32 d) f
    setContainer low (pairUp i) ((s.fpr[(pairUp i).toNat]'(pairUp i).isLt).extractLsb' 32 32 ++ d.extractLsb' 32 32) f

/-- The format of container `i` fits a read as format `f` (R43). -/
def formatFits (s : State) (i : RegNum) (f : FprFormat) : Bool :=
  let t := s.fprFormat[i.toNat]'i.isLt
  t == .raw || t == f

/-- The value of a 32-bit operand in format `f`; read in another format than the last written it is the `k`-th free value
(R43, R660). -/
def operand32 (s : State) (k : Nat) (f : FprFormat) (i : RegNum) : HalfWord :=
  if formatFits s i f then fpr32 s i else low32 (freeWord s k)

/-- The value of a 64-bit operand in format `f` (R43, R660). -/
def operand64 (s : State) (k : Nat) (f : FprFormat) (i : RegNum) : Word :=
  if formatFits s i f then fpr64 s i else freeWord s k

end Sys2Proof.Machine
end

