-- ==== Sys2Proof/Machine/Mmu.lean ====
section
/-! DEFINITION. Segments and address translation (20_memory.md R220 to R234). -/

namespace Sys2Proof.Machine

/-- The kinds of access (R220). -/
inductive Access where
  | fetch
  | load
  | store
deriving DecidableEq, Repr

/-- Whether an exception of the access uses the store codes (60_exceptions.md R805, R806). -/
def Access.isStore (k : Access) : Bool := k == .store

/-- The virtual segments (R229); `none` is an address of no segment. -/
inductive Segment where
  | useg
  | xuseg
  | xsseg
  | xkphys
  | xkseg
  | ckseg0
  | ckseg1
  | csseg
  | ckseg3
  | none
deriving DecidableEq, Repr

/-- The segment of an address (R229). An xkphys address with a bit of 58:36 set lies in no segment (R223). -/
def segmentOf (va : Word) : Segment :=
  let n := va.toNat
  if n < 0x80000000 then .useg
  else if n < 0x10000000000 then .xuseg
  else if n < 0x4000000000000000 then .none
  else if n < 0x4000010000000000 then .xsseg
  else if n < 0x8000000000000000 then .none
  else if n < 0xC000000000000000 then (if va.extractLsb' 36 23 == 0 then .xkphys else .none)
  else if n < 0xC00000FF80000000 then .xkseg
  else if n < 0xFFFFFFFF80000000 then .none
  else if n < 0xFFFFFFFFA0000000 then .ckseg0
  else if n < 0xFFFFFFFFC0000000 then .ckseg1
  else if n < 0xFFFFFFFFE0000000 then .csseg
  else .ckseg3

/-- Whether the current mode may use a segment: the columns "modes" and "needs" of R229. -/
def segmentAccessible (s : State) (g : Segment) : Bool :=
  let st := s.cp0.status
  let m := currentMode s
  match g with
  | .useg => true
  | .xuseg => st.ux
  | .xsseg => m != .user && st.sx
  | .xkphys => m == .kernel && st.kx
  | .xkseg => m == .kernel && st.kx
  | .ckseg0 => m == .kernel
  | .ckseg1 => m == .kernel
  | .csseg => m != .user
  | .ckseg3 => m == .kernel
  | .none => false

/-- Whether the segment of an address is in 64-bit addressing: the last column of R229 (60_exceptions.md R823). -/
def addressing64 (s : State) (va : Word) : Bool :=
  let st := s.cp0.status
  match segmentOf va with
  | .useg | .xuseg => st.ux
  | .xsseg | .csseg => st.sx
  | _ => st.kx

/-- The seven legal values of PageMask.Mask (10_state.md R78). -/
def legalMask (m : BitVec 12) : Bool :=
  m == 0 || m == 0x003 || m == 0x00F || m == 0x03F || m == 0x0FF || m == 0x3FF || m == 0xFFF

/-- The address bit that selects the even or the odd page (10_state.md R78). -/
def selectBit (m : BitVec 12) : Nat :=
  if m == 0 then 12 else if m == 0x003 then 14 else if m == 0x00F then 16 else if m == 0x03F then 18
  else if m == 0x0FF then 20 else if m == 0x3FF then 22 else 24

/-- VPN2 under a mask (R230). -/
def maskVpn2 (vpn2 : BitVec 27) (m : BitVec 12) : BitVec 27 := vpn2 &&& ~~~(m.setWidth 27)

/-- An entry matches a page number, the hidden valid bit included (R230). -/
def TlbEntry.matches (e : TlbEntry) (r : BitVec 2) (vpn2 : BitVec 27) (asid : BitVec 8) : Bool :=
  e.valid && e.r == r && maskVpn2 e.vpn2 e.mask == maskVpn2 vpn2 e.mask && (e.g || e.asid == asid)

/-- A valid entry with an illegal mask stands in the TLB (U6). -/
def illegalMaskPresent (s : State) : Bool := s.tlb.toList.any fun e => e.valid && !legalMask e.mask

/-- The numbers of the entries that match a page number under the current ASID (R230). -/
def tlbMatches (s : State) (r : BitVec 2) (vpn2 : BitVec 27) : List (Fin 48) :=
  (List.finRange 48).filter fun i => s.tlb[i].matches r vpn2 s.cp0.entryHi.asid

/-- What a translation answers: a physical address and a cache policy code, an exception, or a stop (R220). -/
inductive Translation where
  | ok (pa : PAddr) (cca : BitVec 3)
  | trap (e : Exc)
  | stop (f : Fault)
deriving DecidableEq, Repr

/-- The physical address of a page and an offset in it (R231). -/
def pageAddress (m : BitVec 12) (pfn : BitVec 24) (va : Word) : PAddr :=
  ((pfn &&& ~~~(m.setWidth 24)) ++ (0 : BitVec 12)) ||| (va &&& BitVec.ofNat 64 (2 ^ selectBit m - 1)).setWidth 36

/-- The access to a matching entry (R231). -/
def pageAccess (e : TlbEntry) (va : Word) (k : Access) : Translation :=
  let p := if va.getLsbD (selectBit e.mask) then e.odd else e.even
  if !p.v then .trap (.tlbInvalid k.isStore va)
  else if k.isStore && !p.d then .trap (.mod va)
  else .ok (pageAddress e.mask p.pfn va) p.c

/-- `TLBLookup(va, kind)` (R230 to R232). While Config0.TR = 1 a mapped access stops (U8). -/
def tlbLookup (s : State) (va : Word) (k : Access) : Translation :=
  if s.cp0.config0.tr then .stop .tlbHeldInReset
  else if illegalMaskPresent s then .stop .illegalPageMask
  else match tlbMatches s (va.extractLsb' 62 2) (va.extractLsb' 13 27) with
    | [] => .trap (.tlbRefill k.isStore va)
    | [i] => pageAccess s.tlb[i] va k
    | _ => .trap .mcheck

/-- `Translate(va, kind)` (R220). With ERL = 1 and ERL_USEG_UNMAPPED the low 2 GB are unmapped and uncached (R234). -/
def translate (s : State) (va : Word) (k : Access) : Translation :=
  let g := segmentOf va
  if !segmentAccessible s g then .trap (.addressError k.isStore va)
  else match g with
    | .ckseg0 => .ok ((va.extractLsb' 0 29).setWidth 36) s.cp0.config0.k0
    | .ckseg1 => .ok ((va.extractLsb' 0 29).setWidth 36) 2
    | .xkphys => .ok (va.extractLsb' 0 36) (va.extractLsb' 59 3)
    | .useg =>
      if s.cp0.status.erl && s.conf.erlUsegUnmapped then .ok ((va.extractLsb' 0 31).setWidth 36) 2
      else tlbLookup s va k
    | _ => tlbLookup s va k

end Sys2Proof.Machine
end

