-- ==== Sys2Proof/Machine/CacheMem.lean ====
section
/-! DEFINITION. The two caches, physical accesses by cache policy, and instruction fetch (10_state.md R140 to R152,
20_memory.md R200 to R259, 80_external_interface.md R945). -/

namespace Sys2Proof.Machine

/-- The two caches. -/
inductive Side where
  | inst
  | data
deriving DecidableEq, Repr

/-- The line that is not listed: all zero (DESIGN CHOICE for the state at reset, log 1). -/
def blankLine : CacheLine := { tag := 0, v := false, l := false, dirty := false, data := Vector.replicate 32 0 }

/-- One of the two caches. -/
def getCache (s : State) : Side → Cache
  | .inst => s.icache
  | .data => s.dcache

/-- Replace one of the two caches. -/
def setCache (s : State) (d : Side) (c : Cache) : State :=
  match d with
  | .inst => { s with icache := c }
  | .data => { s with dcache := c }

/-- The line of a way (R140). -/
def getLine (c : Cache) (way line : Nat) : CacheLine := storeGet blankLine c.lines (128 * way + line)

/-- Replace the line of a way. -/
def setLine (c : Cache) (way line : Nat) (x : CacheLine) : Cache :=
  { c with lines := storeSet blankLine c.lines (128 * way + line) x }

/-- The line number of a physical address, bits 11:5 (R142, R145). -/
def lineOf (pa : PAddr) : Nat := (pa.extractLsb' 5 7).toNat

/-- The tag of a physical address, bits 35:12 (R142, R145). -/
def tagOf (pa : PAddr) : BitVec 24 := pa.extractLsb' 12 24

/-- The ways that hold the line of a physical address (20_memory.md R245). -/
def hitWays (c : Cache) (pa : PAddr) : List Nat :=
  (List.range 4).filter fun w => (getLine c w (lineOf pa)).v && (getLine c w (lineOf pa)).tag == tagOf pa

/-- The ways a fill may replace (20_memory.md R245, R246). -/
def unlockedWays (c : Cache) (pa : PAddr) : List Nat :=
  (List.range 4).filter fun w => !(getLine c w (lineOf pa)).l

/-- Software has initialised every tag and every Way Select word of the cache (70_reset_and_hazards.md R890, U20). -/
def cacheReady (c : Cache) : Bool := c.tagInit == ~~~0 && c.wsInit == ~~~0

/-- The cache, initialised, holds a valid copy of the line of a physical address: one that an earlier cached access left
(20_memory.md R244, U10). Before the initialisation of R890 its lines are junk and hold no copy. -/
def holdsCopy (c : Cache) (pa : PAddr) : Bool := cacheReady c && !(hitWays c pa).isEmpty

/-- One of a list by a free value. -/
def choose (v : Word) (l : List Nat) : Nat := l.getD (v.toNat % l.length) 0

/-- The 24 legal Way Select words (R147). -/
def legalWs : List (BitVec 6) :=
  [0b000000, 0b000001, 0b000010, 0b010010, 0b010001, 0b010011, 0b000100, 0b000101, 0b100100, 0b101100, 0b001101, 0b101101,
   0b100010, 0b110010, 0b100110, 0b101110, 0b111010, 0b111110, 0b011001, 0b011011, 0b011101, 0b111101, 0b111011, 0b111111]

/-- An access updates the Way Select word of its line; an illegal word in use sets ErrCtl.WSE (R146, R147). The new word is a
free value, legal or not (93_implementation_defined.md U16; log 11). -/
def touchWs (s : State) (d : Side) (line : Nat) : State :=
  let c := getCache s d
  let old := storeGet 0 c.ws line
  let new : BitVec 6 := (freeWord s 0).extractLsb' 0 6
  let e := s.cp0.errCtl
  let s1 := setCache s d { c with ws := storeSet 0 c.ws line new }
  spend 1 { s1 with cp0 := { s1.cp0 with errCtl := { e with wse := e.wse || !legalWs.contains old } } }

/-- Several ways hold the address: ErrCtl.DMH or IMH is set (R117, 20_memory.md R245). -/
def noteMultiHit (s : State) (d : Side) : State :=
  let e := s.cp0.errCtl
  { s with cp0 := { s.cp0 with errCtl := (match d with
      | .inst => { e with imh := true }
      | .data => { e with dmh := true }) } }

/-- The way that serves a hit: the one match, or a free one of several (20_memory.md R245, log 11). -/
def hitWay (s : State) (d : Side) (ways : List Nat) : Nat × State :=
  match ways with
  | [w] => (w, s)
  | _ => (choose (freeWord s 0) ways, spend 1 (noteMultiHit s d))

/-- The address that reaches the bus: 32 bits on the 32-bit bus (20_memory.md R200). -/
def busAddress (s : State) (pa : Nat) : Nat := if s.latches.bus32 then pa % 0x100000000 else pa

/-- A read on the bus waits for the write buffer where READ_OVERTAKES_WRITES is false (20_memory.md R252, D5). -/
def waitForWrites (s : State) : State := if s.conf.readOvertakesWrites then s else drainAll s

/-- A data read on the bus while the bus error of an earlier one is not reported yet: at most one is outstanding, so the read
waits and the error is reported first (10_state.md R151; log 16). -/
def needBus {α : Type} (s : State) (k : Res α) : Res α := if s.lateError.isSome then .trap .dbe s else k

/-- The address the bus names the byte lanes from `key` on with, in the base byte order: PAddr, or PAddr xor (8 - n) in an access
whose order Status.RE reverses (80_external_interface.md R931). -/
def drivenAddress (s : State) (key n : Nat) : Nat := busAddress s (laneKey s.latches.bigEndian key n)

/-- The read of `n` bytes at a bus address is answered with a bus error (20_memory.md R259). -/
def readFails (s : State) (a n : Nat) : Bool :=
  s.conf.busErrors.any fun r => decide (a < r.base + r.size) && decide (r.base < a + n)

/-- The first byte lane of the 32-byte line of a tag and a line number. -/
def lineKey (s : State) (tag : BitVec 24) (line : Nat) : Nat := busAddress s (tag.toNat * 4096 + line * 32)

/-- Write a dirty line to memory: a block write (46_cp0.md R633). -/
def writeBack (s : State) (x : CacheLine) (line : Nat) : State :=
  enqueue s { key := lineKey s x.tag line, bytes := x.data.toList }

/-- The 32 bytes a fill reads. The data cache sees the write buffer (20_memory.md R250), the instruction cache does not
(R256); in little-endian mode its two words of a doubleword change places (R205). -/
def fillData (s : State) (d : Side) (key : Nat) : Vector Byte 32 :=
  match d with
  | .data => let m := memView s; Vector.ofFn fun i => readByte m (key + i.val)
  | .inst =>
    Vector.ofFn fun i => readByte s.mem (key + (if s.latches.bigEndian then i.val else i.val ^^^ 4))

/-- Fill the line of a physical address and answer its way (20_memory.md R245): a free choice among the unlocked ways; a valid
dirty victim of the data cache is in memory, behind every write before it, before the line is read (R144). The bus error is
tested before the choice of a way: a fill answered with it finds no set with four locked lines, and leaves the victim and the
Way Select word alone (DESIGN CHOICE, log 33). -/
def fillLine (s : State) (d : Side) (pa : PAddr) : Res Nat :=
  let line := lineOf pa
  let key := lineKey s (tagOf pa) line
  let s0 := waitForWrites s
  if readFails s key 32 then .busError s0
  else match unlockedWays (getCache s d) pa with
    | [] => .stop .allWaysLocked
    | ways =>
      let w := choose (freeWord s 0) ways
      let old := getLine (getCache s d) w line
      let s1 := spend 1 s0
      let s2 := if d == .data && old.v && old.dirty then drainAll (writeBack s1 old line) else s1
      let new : CacheLine := { tag := tagOf pa, v := true, l := false, dirty := false, data := fillData s2 d key }
      .ok w (touchWs (setCache s2 d (setLine (getCache s2 d) w line new)) d line)

/-- Find the line of a cached access, filling it on a miss (20_memory.md R245); a miss of the data cache waits for the bus. -/
def lookupOrFill (s : State) (d : Side) (pa : PAddr) : Res Nat :=
  if !cacheReady (getCache s d) then .stop .cacheNotInitialised
  else match hitWays (getCache s d) pa with
    | [] => if d == .data then needBus s (fillLine s d pa) else fillLine s d pa
    | ways => let (w, s1) := hitWay s d ways; .ok w (touchWs s1 d (lineOf pa))

/-- `n` bytes of a line from byte `off` up. -/
def lineBytes (x : CacheLine) (off n : Nat) : List Byte := (List.range n).map fun i => x.data.toList.getD (off + i) 0

/-- Replace bytes of a line from byte `off` up. -/
def patchLine (x : CacheLine) (off : Nat) (bs : List Byte) : CacheLine :=
  { x with data := Vector.ofFn fun i =>
      if off ≤ i.val && i.val < off + bs.length then bs.getD (i.val - off) 0 else x.data[i] }

/-- `PhysRead` of `n` bytes at `pa` in the data order in force (20_memory.md R233, R241 to R244). -/
def physRead (s : State) (pa : PAddr) (n : Nat) (cca : BitVec 3) : Res Word :=
  let key := laneKey (dataBigEndian s) pa.toNat n
  if cca.getLsbD 2 then .stop .reservedCachePolicy
  else if cca == 2 then
    if holdsCopy s.dcache pa then .stop .mixedCachePolicy
    else needBus s (
      if readFails s (drivenAddress s key n) n then .busError (waitForWrites s)
      else .ok (joinBytes (readBytes (memView s) (busAddress s key) n)) (waitForWrites s))
  else (lookupOrFill s .data pa).bind fun w s1 =>
    .ok (joinBytes (lineBytes (getLine s1.dcache w (lineOf pa)) (key % 32) n)) s1

/-- `n` bytes from a byte lane on as the program's own loads see them: the data cache, then the buffered writes, then memory
(20_memory.md R250). -/
def programBytes (s : State) (pa : PAddr) (key n : Nat) : List Byte :=
  match (if cacheReady s.dcache then hitWays s.dcache pa else []) with
  | w :: _ => lineBytes (getLine s.dcache w (lineOf pa)) (key % 32) n
  | [] => readBytes (memView s) (busAddress s key) n

/-- A line without a store that a fetch need not see. -/
def blankCode : CodeLine := { stores := [], unsynced := 0, uninvalidated := 0, unjumped := 0 }

/-- The record after one more store, at `off`, given what its bytes were before: no step of the recipe has served this store;
how far it has gone for the others stays (20_memory.md R256). -/
def CodeLine.stored (x : CodeLine) (off : Nat) (before : List Byte) : CodeLine :=
  { stores := { off := off, before := before } :: x.stores
    unsynced := x.unsynced + 1
    uninvalidated := x.uninvalidated + 1
    unjumped := x.unjumped + 1 }

/-- The record after a SYNC that finds the line in memory. -/
def CodeLine.sync (x : CodeLine) : CodeLine := { x with unsynced := 0 }

/-- The record after Hit Invalidate of the instruction cache: it serves the stores a SYNC has served. -/
def CodeLine.invalidate (x : CodeLine) : CodeLine := { x with uninvalidated := x.unsynced }

/-- The record after a taken jump: a store in memory is sure to be seen by an uncached fetch, and by every fetch, so that it is
no longer recorded, if Hit Invalidate has served it too. -/
def CodeLine.jump (x : CodeLine) : CodeLine :=
  { x with stores := x.stores.take x.uninvalidated, unjumped := x.unsynced }

/-- The stores that a cached or an uncached fetch need not see, newest first. -/
def CodeLine.pending (x : CodeLine) (cached : Bool) : List CodeStore := if cached then x.stores else x.stores.take x.unjumped

/-- A store covers a byte of its line. -/
def CodeStore.covers (x : CodeStore) (i : Nat) : Bool := x.off ≤ i && i < x.off + x.before.length

/-- The four bytes from `off` on in a line before a store, given what they are after it. -/
def CodeStore.undo (x : CodeStore) (off : Nat) (word : List Byte) : List Byte :=
  (List.range 4).map fun i => if x.covers (off + i) then x.before.getD (off + i - x.off) 0 else word.getD i 0

/-- The word at `off` in a line before each of the stores, newest first, that covers a byte of it, given the word after them
all. -/
def earlierWords (off : Nat) : List Byte → List CodeStore → List (List Byte)
  | _, [] => []
  | word, x :: t =>
    if (List.range 4).any fun i => x.covers (off + i) then x.undo off word :: earlierWords off (x.undo off word) t
    else earlierWords off word t

/-- A store of `n` bytes at the byte lane `key` is about to happen: fetches of them may give the old word or the new one
(20_memory.md R256, D6; log 29). -/
def noteStore (s : State) (pa : PAddr) (key n : Nat) : State :=
  let k := busAddress s key
  let x := (storeGet blankCode s.codeStores (k / 32)).stored (k % 32) (programBytes s pa key n)
  { s with codeStores := storeSet blankCode s.codeStores (k / 32) x }

/-- A store that goes to the bus: into the write buffer (20_memory.md R251). -/
def storeOut (s : State) (pa : PAddr) (key : Nat) (bs : List Byte) : State :=
  enqueue (noteStore s pa key bs.length) { key := busAddress s key, bytes := bs }

/-- Write bytes into a line of the data cache. -/
def writeLine (s : State) (pa : PAddr) (w off : Nat) (bs : List Byte) (dirty : Bool) : State :=
  let x := patchLine (getLine s.dcache w (lineOf pa)) off bs
  setCache s .data (setLine s.dcache w (lineOf pa) { x with dirty := x.dirty || dirty })

/-- A store that goes to the bus and, where the line is in the cache, into the line (20_memory.md R241, R242). If the fill of
a store that allocates gets a bus error, its word leaves the buffer unwritten (44_load_store.md R540: a store that raises an
exception does not change memory), while the writes before it are in memory, the buffer being drained before the fill. A miss
without allocation uses no line and leaves the Way Select word as it is (DESIGN CHOICE, log 11). -/
def writeThrough (s : State) (pa : PAddr) (key : Nat) (bs : List Byte) (allocate : Bool) : Res Unit :=
  if !cacheReady s.dcache then .stop .cacheNotInitialised
  else
    let s1 := storeOut s pa key bs
    match hitWays s.dcache pa with
    | [] =>
      if allocate then needBus s (match fillLine (drainAll s1) .data pa with
        | .busError _ => .busError (drainAll s)
        | r => r.bind fun _ s2 => .ok () s2)
      else .ok () s1
    | ways =>
      let (w, s2) := hitWay s1 .data ways
      .ok () (touchWs (writeLine s2 pa w (key % 32) bs false) .data (lineOf pa))

/-- `PhysWrite` of the low `n` bytes of a value at `pa` (20_memory.md R233, R241 to R244). A store of fewer bytes of a larger
value passes the value shifted (44_load_store.md). A store whose fill gets a bus error writes nothing, neither to a line nor to
the bus (44_load_store.md R540). -/
def physWrite (s : State) (pa : PAddr) (n : Nat) (v : Word) (cca : BitVec 3) : Res Unit :=
  let key := laneKey (dataBigEndian s) pa.toNat n
  let bs := splitBytes n v
  if cca.getLsbD 2 then .stop .reservedCachePolicy
  else if cca == 2 then
    if holdsCopy s.dcache pa then .stop .mixedCachePolicy
    else .ok () (storeOut s pa key bs)
  else if cca == 3 then
    (lookupOrFill s .data pa).bind fun w s1 => .ok () (writeLine (noteStore s1 pa key n) pa w (key % 32) bs true)
  else writeThrough s pa key bs (cca == 1)

/-- A translation as a result. -/
def Translation.toRes (t : Translation) (s : State) : Res (PAddr × BitVec 3) :=
  match t with
  | .ok pa cca => .ok (pa, cca) s
  | .trap e => .trap e s
  | .stop f => .stop f

/-- The byte lane on the bus of the first byte of the instruction word at a physical address. -/
def fetchLane (s : State) (pa : PAddr) : Nat := busAddress s (laneKey s.latches.bigEndian pa.toNat 4)

/-- The words that a fetch at a physical address may give because the program has stored there without the recipe: the new one
and, newest first, the one before each store that the fetch need not see; none where it need not miss any. For an uncached fetch
SYNC and a taken jump complete the recipe; a cached one also needs Hit Invalidate (20_memory.md R256, D6; log 29). -/
def storedWords (s : State) (pa : PAddr) (cached : Bool) : List HalfWord :=
  let k := fetchLane s pa
  let new := programBytes s pa (laneKey s.latches.bigEndian pa.toNat 4) 4
  match earlierWords (k % 32) new ((storeGet blankCode s.codeStores (k / 32)).pending cached) with
  | [] => []
  | old => (new :: old).map fun l => low32 (joinBytes l)

/-- The word a fetch gives: what the cache or memory holds, or, of a location the program has stored to without the recipe, an
old word or the new one: a free choice (20_memory.md R256, 70_reset_and_hazards.md R902, D6; log 29). -/
def fetched (s : State) (pa : PAddr) (cached : Bool) (w : HalfWord) : Res HalfWord :=
  match storedWords s pa cached with
  | [] => .ok w s
  | l => .ok ((w :: l).getD ((freeWord s 0).toNat % (l.length + 1)) w) (spend 1 s)

/-- The data cache holds newer bytes of a 32-byte line than memory: SYNC does not bring them there (20_memory.md R253). -/
def heldDirty (s : State) (k : Nat) : Bool :=
  cacheReady s.dcache && (List.range 4).any fun w =>
    let x := getLine s.dcache w (k % 128)
    x.v && x.dirty && lineKey s x.tag (k % 128) == 32 * k

/-- SYNC has emptied the write buffer: the lines stored to are in memory, but for those the data cache holds dirty
(20_memory.md R253, R256). -/
def noteSync (s : State) : State :=
  { s with codeStores := storeMap blankCode (fun k x => if heldDirty s k then x else x.sync) s.codeStores }

/-- Hit Invalidate on the instruction cache: what SYNC has brought to memory before it is what a fill reads (20_memory.md
R256). -/
def noteInvalidate (s : State) (pa : PAddr) : State :=
  let k := lineKey s (tagOf pa) (lineOf pa) / 32
  { s with codeStores := storeSet blankCode s.codeStores k (storeGet blankCode s.codeStores k).invalidate }

/-- A taken jump: the stores whose recipe is done are no longer recorded (20_memory.md R256). -/
def noteJump (s : State) : State :=
  { s with codeStores := storeMap blankCode (fun _ => CodeLine.jump) s.codeStores }

/-- The instruction word at a virtual address, or AdEL, a TLB exception or IBE (20_memory.md R204, R205, R211;
60_exceptions.md R807). An uncached fetch reads one word of four bytes (91_not_in_source.md N24 leaves a doubleword open; DESIGN
CHOICE, log 34). -/
def fetchWord (s : State) (va : Word) : Res HalfWord :=
  if va.extractLsb' 0 2 != 0 then .trap (.addressError false va) s
  else ((translate s va .fetch).toRes s).bind fun (pa, cca) s0 =>
    if cca.getLsbD 2 then .stop .reservedCachePolicy
    else if cca == 2 then
      if holdsCopy s0.icache pa then .stop .mixedCachePolicy
      else
        let s1 := waitForWrites s0
        if readFails s1 (busAddress s1 pa.toNat) 4 then .trap .ibe s1
        else fetched s1 pa false
          (low32 (joinBytes (readBytes s1.mem (fetchLane s1 pa) 4)))
    else match lookupOrFill s0 .inst pa with
      | .ok w s1 => fetched s1 pa true (low32 (joinBytes (lineBytes (getLine s1.icache w (lineOf pa)) (pa.toNat % 32) 4)))
      | .trap e s1 => .trap e s1
      | .busError s1 => .trap .ibe s1
      | .stop f => .stop f

end Sys2Proof.Machine
end

