-- ==== Sys2Proof/Machine/Ops.lean ====
section
/-! DEFINITION. The shared operations: taking an exception and returning from one (60_exceptions.md R820 to R835), sleep
(R860), resets (70_reset_and_hazards.md R882, R883), the end of an instruction, loads and stores at virtual addresses
(00_scope.md R14), and the tests instructions begin with (30_encoding.md R319 to R321). -/

namespace Sys2Proof.Machine

/-- Cause.ExcCode of an exception (60_exceptions.md R802). -/
def Exc.code : Exc → BitVec 5
  | .int => 0
  | .mod _ => 1
  | .tlbRefill store _ => if store then 3 else 2
  | .tlbInvalid store _ => if store then 3 else 2
  | .addressError store _ => if store then 5 else 4
  | .ibe => 6
  | .dbe => 7
  | .sys => 8
  | .bp => 9
  | .ri => 10
  | .cpu _ => 11
  | .ov => 12
  | .tr => 13
  | .fpe => 15
  | .mcheck => 24

/-- The vector base (60_exceptions.md R822). -/
def vectorBase (s : State) : Word := if s.cp0.status.bev then 0xFFFFFFFFBFC00200 else 0xFFFFFFFF80000000

/-- The vector offset of an exception (60_exceptions.md R820, R822, R823). -/
def vectorOffset (s : State) (e : Exc) : Word :=
  if s.cp0.status.exl then 0x180
  else match e with
    | .tlbRefill _ va => if addressing64 s va then 0x080 else 0x000
    | .int => if s.cp0.cause.iv then 0x200 else 0x180
    | _ => 0x180

/-- The address at which an interrupted program is resumed: the branch when the instruction at `pc` is in its delay slot
(60_exceptions.md R820). -/
def restartPc (s : State) : Word := if s.delay.isSome then s.pc - 4 else s.pc

/-- The address registers after a TLB exception (60_exceptions.md R824). -/
def recordTlb (c : Cp0) (va : Word) : Cp0 :=
  { c with
    badVAddr := va
    entryHi := { c.entryHi with r := va.extractLsb' 62 2, vpn2 := va.extractLsb' 13 27 }
    context := { c.context with badVpn2 := va.extractLsb' 13 19 }
    xcontext := { c.xcontext with r := va.extractLsb' 62 2, badVpn2 := va.extractLsb' 13 27 } }

/-- The address registers after an address error: all but BadVAddr hold free values (60_exceptions.md R824, U17). -/
def recordAddressError (s : State) (c : Cp0) (va : Word) : Cp0 :=
  { c with
    badVAddr := va
    entryHi := { c.entryHi with r := (freeWord s 1).extractLsb' 62 2, vpn2 := (freeWord s 1).extractLsb' 13 27 }
    context := { c.context with badVpn2 := (freeWord s 2).extractLsb' 13 19 }
    xcontext := { c.xcontext with r := (freeWord s 3).extractLsb' 62 2, badVpn2 := (freeWord s 3).extractLsb' 13 27 } }

/-- The address registers at the entry of an exception (60_exceptions.md R824). -/
def recordAddress (s : State) (e : Exc) : Cp0 :=
  match e with
  | .mod va => recordTlb s.cp0 va
  | .tlbRefill _ va => recordTlb s.cp0 va
  | .tlbInvalid _ va => recordTlb s.cp0 va
  | .addressError _ va => recordAddressError s s.cp0 va
  | _ => s.cp0

/-- Cause.CE at the entry of an exception: a free value unless the exception is CpU (60_exceptions.md R820). -/
def exceptionCe (s : State) (e : Exc) : BitVec 2 :=
  match e with
  | .cpu ce => ce
  | _ => (freeWord s 0).extractLsb' 0 2

/-- `ExceptionEntry(X, info)` (60_exceptions.md R820). EPC and Cause.BD keep their values when EXL is already 1. MCheck sets
Status.TS (R816). A bus error not yet reported stays so across an interrupt; any other exception is taken where none is, or is
the report itself (log 16). -/
def takeException (e : Exc) (s : State) : State :=
  let c := recordAddress s e
  let nested := s.cp0.status.exl
  { spend 4 s with
    pc := vectorBase s + vectorOffset s e
    delay := none
    lateError := if e == .int then s.lateError.map fun l => { l with regs := none } else none
    cp0 := { c with
      epc := if nested then c.epc else restartPc s
      cause := { c.cause with
        bd := if nested then c.cause.bd else s.delay.isSome
        ce := exceptionCe s e
        excCode := e.code }
      status := { c.status with exl := true, ts := c.status.ts || e == .mcheck } } }

/-- `raise X`: the instruction ends with the entry of an exception (00_scope.md R15). -/
def raise (e : Exc) (s : State) : Out := .next (takeException e s)

/-- Replace Status. -/
def setStatus (s : State) (st : Status) : State := { s with cp0 := { s.cp0 with status := st } }

/-- `SpecialEntry(kind)`, the part all three kinds share (60_exceptions.md R821); `sr` and `nmi` tell the kind. -/
def specialEntry (sr nmi : Bool) (s : State) : State :=
  { s with
    pc := s.conf.resetVector
    delay := none
    sleeping := false
    cp0 := { s.cp0 with
      errorEpc := restartPc s
      status := { s.cp0.status with erl := true, bev := true, ts := false, rp := false, sr := sr, nmi := nmi } } }

/-- A pending NMI is taken (60_exceptions.md R835). A bus error not yet reported stays so (log 16). -/
def takeNmi (s : State) : State :=
  specialEntry false true { s with nmiPending := false, lateError := s.lateError.map fun l => { l with regs := none } }

/-- The CP0 registers after a reset event: the values of R885, free values elsewhere (70_reset_and_hazards.md R882 to R886). -/
def resetCp0 (a : Cp0) (warm : Bool) (errorEpc : Word) : Cp0 :=
  { a with
    random := 47
    wired := 0
    config0 := { te := false, wp := 3, adp := 3, isd := false, bbl := false, tr := false, did := false, k0 := 2 }
    perfCtl0 := { a.perfCtl0 with ie := false }
    perfCtl1 := { a.perfCtl1 with ie := false }
    errCtl := { a.errCtl with wst := false }
    errorEpc := errorEpc
    status := { a.status with rp := false, bev := true, ts := false, sr := warm, nmi := false, erl := true } }

/-- A cache after a reset event: free contents in canonical form, nothing initialised (10_state.md R152, U20). -/
def resetCache (a : Cache) : Cache :=
  { lines := storeNormal blankLine 512 a.lines, ws := storeNormal 0 128 a.ws, tagInit := 0, wsInit := 0 }

/-- A reset event (70_reset_and_hazards.md R882, R883). Everything it leaves unspecified is a free value (log 13); memory, the
parameters and the environment are not the chip's. A warm reset keeps the mode latches and the TLB valid bits. A bus error of
an earlier load not yet reported is dropped: of a warm reset R883 does not say so (DESIGN CHOICE, log 13). -/
def takeReset (k : ResetKind) (s : State) : State :=
  let a := Config.anyState s.draws
  let warm := k == .warm
  { s with
    gpr := a.gpr.set 0 0
    hi := a.hi
    lo := a.lo
    pc := s.conf.resetVector
    delay := none
    llbit := a.llbit
    fpr := a.fpr
    fprFormat := a.fprFormat
    fcsr := a.fcsr
    cp0 := resetCp0 a.cp0 warm (if warm then restartPc s else a.cp0.errorEpc)
    tlb := Vector.ofFn fun i => { a.tlb[i] with valid := warm && s.tlb[i].valid }
    icache := resetCache a.icache
    dcache := resetCache a.dcache
    brRam := storeNormal 0 1024 a.brRam
    wbuf := []
    codeStores := []
    lateError := none
    nmiPending := false
    timerRequest := false
    sleeping := false
    resetRequest := none
    latches := match k with
      | .cold m => m
      | .warm => s.latches
    draws := s.draws + 1 }

/-- The end of an instruction that is no branch: the next address, or the pending target (00_scope.md R15, R500). -/
def advance (s : State) : State :=
  match s.delay with
  | some t => { s with pc := t, delay := none }
  | none => { s with pc := s.pc + 4 }

/-- An instruction that completes in a state. -/
def done (s : State) : Out := .next (advance s)

/-- Cause.IP7 to IP0 (60_exceptions.md R832). -/
def causeIp (s : State) : BitVec 8 :=
  let c := s.cp0
  let ip7 := s.intPins.getLsbD 5 || (s.timerRequest && c.config0.te)
    || (c.perfCtl0.ie && c.perfCnt0.getLsbD 31) || (c.perfCtl1.ie && c.perfCnt1.getLsbD 31)
  BitVec.ofBool ip7 ++ s.intPins.extractLsb' 0 5 ++ c.cause.ip

/-- An interrupt is to be taken before the instruction at `pc`: pending, enabled, and not held back by the host
(60_exceptions.md R831). -/
def interruptDue (s : State) : Bool :=
  let st := s.cp0.status
  !s.intHeld && st.ie && !st.exl && !st.erl && (causeIp s &&& st.im) != 0

/-- `Sleep()` (60_exceptions.md R860): the write buffer is drained and the processor sleeps, unless a pin is active already.
In a delay slot the instruction stays the one to restart. -/
def enterSleep (s : State) : State :=
  let s1 := drainAll s
  if s.intPins != 0 then setStatus (advance s1) { s1.cp0.status with rp := false }
  else { (if s.delay.isSome then s1 else advance s1) with sleeping := true }

/-- The sleep ends (60_exceptions.md R860): Status.RP is cleared; a sleep in a delay slot goes on after it, unless an interrupt
is to be taken there. -/
def wake (s : State) : State :=
  let s1 := setStatus { s with sleeping := false } { s.cp0.status with rp := false }
  if s1.delay.isSome && !interruptDue s1 then advance s1 else s1

/-- The end of an instruction whose data read was answered with a bus error; the destination already holds a free value. With
Config0.ISD = 1 DBE is taken at once, else after up to DBE_SKID more instructions (60_exceptions.md R808). -/
def lateBusError (dest : Dest) (s : State) : State :=
  if s.cp0.config0.isd then takeException .dbe s
  else
    let e : LateError := { left := (freeWord s 0).toNat % (s.conf.dbeSkid + 1), dest := dest, regs := none }
    spend 1 { advance s with lateError := some e }

/-- The destination of a load answered with a bus error receives any value, the whole register (60_exceptions.md R808, log
20). -/
def freeDest (d : Dest) (s : State) : State :=
  match d with
  | .gpr r => gprWrite (spend 1 s) r (freeWord s 0)
  | .fpr r wide =>
    if wide then setFpr64 (spend 1 s) r (freeWord s 0) .raw else setFpr32 (spend 1 s) r (low32 (freeWord s 0)) .raw
  | .none => s

/-- The end of an instruction that loads a value: it is written, or, after a bus error, a free value is (R808). -/
def loadInto (dest : Dest) (r : Res Word) (write : Word → State → State) : Out :=
  match r with
  | .ok v s => done (write v s)
  | .trap e s => raise e s
  | .busError s => .next (lateBusError dest (freeDest dest s))
  | .stop f => .fault f

/-- The end of an instruction that has no destination. -/
def finish (r : Res Unit) : Out :=
  match r with
  | .ok _ s => done s
  | .trap e s => raise e s
  | .busError s => .next (lateBusError .none s)
  | .stop f => .fault f

/-- A data address that is no multiple of `n` raises AdEL or AdES (20_memory.md R210). -/
def checkAligned (s : State) (va : Word) (n : Nat) (k : Access) : Res Unit :=
  if va.toNat % n == 0 then .ok () s else .trap (.addressError k.isStore va) s

/-- An exception of an access with another address to report (60_exceptions.md R824). -/
def Exc.at (va : Word) : Exc → Exc
  | .mod _ => .mod va
  | .tlbRefill store _ => .tlbRefill store va
  | .tlbInvalid store _ => .tlbInvalid store va
  | .addressError store _ => .addressError store va
  | e => e

/-- An access whose exceptions report another address (60_exceptions.md R824). -/
def Res.reporting {α : Type} (va : Word) (r : Res α) : Res α :=
  match r with
  | .trap e s => .trap (e.at va) s
  | r => r

/-- `MemRead(vaddr, n)` of an aligned datum (00_scope.md R14, 44_load_store.md R540). -/
def memRead (s : State) (va : Word) (n : Nat) : Res Word :=
  (checkAligned s va n .load).bind fun _ s0 =>
    ((translate s0 va .load).toRes s0).bind fun (pa, cca) s1 => physRead s1 pa n cca

/-- `MemWrite(vaddr, n, v)` of an aligned datum (00_scope.md R14, 44_load_store.md R540). -/
def memWrite (s : State) (va : Word) (n : Nat) (v : Word) : Res Unit :=
  (checkAligned s va n .store).bind fun _ s0 =>
    ((translate s0 va .store).toRes s0).bind fun (pa, cca) s1 => physWrite s1 pa n v cca

/-- The physical address in the same doubleword whose low three bits are those of `addr` (44_load_store.md R549). -/
def withinDoubleword (pa : PAddr) (addr : Word) : PAddr := pa.extractLsb' 3 33 ++ addr.extractLsb' 0 3

/-- The read of `n` bytes from `addr` on, in the doubleword of `va`; exceptions report `va` (44_load_store.md R549). -/
def memReadPart (s : State) (va addr : Word) (n : Nat) : Res Word :=
  ((translate s va .load).toRes s).bind fun (pa, cca) s1 => physRead s1 (withinDoubleword pa addr) n cca

/-- The write of `n` bytes from `addr` on, in the doubleword of `va`; exceptions report `va` (44_load_store.md R549). -/
def memWritePart (s : State) (va addr : Word) (n : Nat) (v : Word) : Res Unit :=
  ((translate s va .store).toRes s).bind fun (pa, cca) s1 => physWrite s1 (withinDoubleword pa addr) n v cca

/-- `Need64()`: a MIPS-64 level instruction raises RI when `Exec64()` is false (30_encoding.md R320, R321). -/
def need64 (s : State) (k : Out) : Out := if exec64 s then k else raise .ri s

/-- Coprocessor 0 is tested first (46_cp0.md R610). -/
def needCp0 (s : State) (k : Out) : Out := if cp0Usable s then k else raise (.cpu 0) s

/-- Coprocessor 1 is tested first (30_encoding.md R319, 60_exceptions.md R811). -/
def needCu1 (s : State) (k : Out) : Out := if s.cp0.status.cu1 then k else raise (.cpu 1) s

/-- Replace FCSR.Cause (10_state.md R54). -/
def setFpuCause (s : State) (c : BitVec 6) : State := { s with fcsr := { s.fcsr with cause := c } }

/-- The Cause bit E (10_state.md R51). -/
def causeE : BitVec 6 := 0b100000

/-- `Signal(C)`: FCSR.Cause becomes C and FPE is raised (47_fpu_arithmetic.md R662). -/
def signalFpe (c : BitVec 6) (s : State) : Out := raise .fpe (setFpuCause s c)

/-- The MIPS-64 level test of FPU arithmetic: E (30_encoding.md R321). -/
def need64Arith (s : State) (k : Out) : Out := if exec64 s then k else signalFpe causeE s

/-- `Need64F()`: the MIPS-64 level test of the FPU transfers, E or RI by the parameter FPU_MOVE64_FAULT
(48_fpu_load_store_move.md R720, D24). -/
def need64Move (s : State) (k : Out) : Out :=
  if exec64 s then k else if s.conf.fpuMove64IsRi then raise .ri s else signalFpe causeE s

/-- A 64-bit or arithmetic operand names register `i` (10_state.md R47, D22). -/
def needFpr (s : State) (i : RegNum) (k : Out) : Out := if fprNumberOk s i then k else .fault .oddFprWithFr0

/-- Format L needs FR = 1 (10_state.md R47, D23). -/
def needLong (s : State) (k : Out) : Out := if s.cp0.status.fr then k else .fault .longFormatWithFr0

/-- A branch, jump or return may not stand in a delay slot (43_branch_jump_nop.md R503). -/
def needNoSlot (s : State) (k : Out) : Out := if s.delay.isSome then .fault .branchInDelaySlot else k

/-- A jump, or a branch that is no likely one: the next instruction is its delay slot (43_branch_jump_nop.md R500). -/
def branch (c : Bool) (target : Word) (s : State) : State :=
  { s with pc := s.pc + 4, delay := some (if c then target else s.pc + 8) }

/-- A likely branch: not taken it nullifies its delay slot (43_branch_jump_nop.md R500, R502). -/
def branchLikely (c : Bool) (target : Word) (s : State) : State :=
  if c then branch true target s else { s with pc := s.pc + 8 }

/-- ERET (46_cp0.md R626): to ErrorEPC with ERL cleared, or to EPC with EXL cleared; LLbit is cleared; no delay slot. -/
def returnFromException (s : State) : State :=
  let st := s.cp0.status
  if st.erl then { setStatus s { st with erl := false } with pc := s.cp0.errorEpc, llbit := false }
  else { setStatus s { st with exl := false } with pc := s.cp0.epc, llbit := false }

end Sys2Proof.Machine
end

