-- ==== Sys2Proof/Machine/Flags.lean ====
section
/-! DEFINITION. The flag computations: signed overflow (40_integer_arithmetic.md R400), the FPU condition codes (10_state.md
R52), and FCSR with its views (R50 to R61). The integer unit has no flag register. -/

namespace Sys2Proof.Machine

/-- The sum of two signed numbers needs one bit more than they have (R401, R407). -/
def addOverflows {n : Nat} (a b : BitVec n) : Bool :=
  let t := a.signExtend (n + 1) + b.signExtend (n + 1)
  t.getLsbD n != t.getLsbD (n - 1)

/-- The difference of two signed numbers needs one bit more than they have (R432, R419). -/
def subOverflows {n : Nat} (a b : BitVec n) : Bool :=
  let t := a.signExtend (n + 1) - b.signExtend (n + 1)
  t.getLsbD n != t.getLsbD (n - 1)

/-- FCC[cc] (R52). -/
def fccBit (s : State) (cc : BitVec 3) : Bool := s.fcsr.fcc.getLsbD cc.toNat

/-- FCC with bit `cc` set to a value (R52). -/
def fccWith (fcc : BitVec 8) (cc : BitVec 3) (b : Bool) : BitVec 8 :=
  let m : BitVec 8 := 1 <<< cc.toNat
  if b then fcc ||| m else fcc &&& ~~~m

/-- FIR, constant (R50). -/
def firWord : HalfWord := 0x00038101

/-- FCSR as a register (R51). -/
def packFcsr (f : Fcsr) : HalfWord :=
  place 25 (f.fcc.extractLsb' 1 7) ||| placeBit 24 f.fs ||| place 23 (f.fcc.extractLsb' 0 1) ||| place 12 f.cause
    ||| place 7 f.enables ||| place 2 f.flags ||| place 0 f.rm

/-- FCCR (R58). -/
def packFccr (f : Fcsr) : HalfWord := place 0 f.fcc

/-- FEXR (R59). -/
def packFexr (f : Fcsr) : HalfWord := place 12 f.cause ||| place 2 f.flags

/-- FENR (R60). -/
def packFenr (f : Fcsr) : HalfWord := place 7 f.enables ||| placeBit 2 f.fs ||| place 0 f.rm

/-- A write of FCSR; bits 22:18 stay 0 (R51, 48_fpu_load_store_move.md R745). -/
def unpackFcsr (v : HalfWord) : Fcsr where
  fcc := v.extractLsb' 25 7 ++ v.extractLsb' 23 1
  fs := v.getLsbD 24
  cause := v.extractLsb' 12 6
  enables := v.extractLsb' 7 5
  flags := v.extractLsb' 2 5
  rm := v.extractLsb' 0 2

/-- A write of FCCR: the conditions come from bits 7:0 as 48_fpu_load_store_move.md R745 writes it, whatever bits 31:8 hold; R58
calls a write with one of those set UNPREDICTABLE (DEDUCED, log 35). -/
def writeFccr (f : Fcsr) (v : HalfWord) : Fcsr := { f with fcc := v.extractLsb' 0 8 }

/-- A write of FEXR (R59). -/
def writeFexr (f : Fcsr) (v : HalfWord) : Fcsr := { f with cause := v.extractLsb' 12 6, flags := v.extractLsb' 2 5 }

/-- A write of FENR (R60). -/
def writeFenr (f : Fcsr) (v : HalfWord) : Fcsr :=
  { f with enables := v.extractLsb' 7 5, fs := v.getLsbD 2, rm := v.extractLsb' 0 2 }

/-- FCSR holds the Cause bit E, or a Cause bit whose Enable is set (R61). -/
def fcsrTraps (f : Fcsr) : Bool := f.cause.getLsbD 5 || (f.cause.extractLsb' 0 5 &&& f.enables) != 0

end Sys2Proof.Machine
end

