-- ==== Sys2Proof/Machine/Operands.lean ====
section
/-! DEFINITION. The operand forms: effective addresses (20_memory.md R214), the byte range of the partial-word instructions
(44_load_store.md R549), branch and jump targets (43_branch_jump_nop.md R501), shift amounts (42_shift.md R480). -/

namespace Sys2Proof.Machine

/-- `x[base] + sext_64(offset)` (R214). -/
def baseOffset (s : State) (base : RegNum) (offset : BitVec 16) : Word := gprRead s base + sext16 offset

/-- `x[base] + x[index]` (R214). -/
def baseIndex (s : State) (base index : RegNum) : Word := gprRead s base + gprRead s index

/-- The address of LUXC1 and SUXC1: the low three bits are dropped (48_fpu_load_store_move.md R729, R730). -/
def alignDown8 (va : Word) : Word := va.extractLsb' 3 61 ++ (0 : BitVec 3)

/-- `Left(vaddr, w)`: the first address and the number of bytes (44_load_store.md R549). -/
def leftPart (be : Bool) (va : Word) (w : Nat) : Word × Nat :=
  let b := va.toNat % w
  if be then (va, w - b) else (va - BitVec.ofNat 64 b, b + 1)

/-- `Right(vaddr, w)`: the first address and the number of bytes (44_load_store.md R549). -/
def rightPart (be : Bool) (va : Word) (w : Nat) : Word × Nat :=
  let b := va.toNat % w
  if be then (va - BitVec.ofNat 64 b, b + 1) else (va, w - b)

/-- `BranchTarget(pc, offset)` (43_branch_jump_nop.md R501). -/
def branchTarget (pc : Word) (offset : BitVec 16) : Word := pc + 4 + (offset ++ (0 : BitVec 2)).signExtend 64

/-- `JumpTarget(pc, index)` (43_branch_jump_nop.md R501). -/
def jumpTarget (pc : Word) (index : BitVec 26) : Word := (pc + 4).extractLsb' 28 36 ++ index ++ (0 : BitVec 2)

/-- The count of a 32-bit variable shift: the low five bits (42_shift.md R480). -/
def shiftCount5 (v : Word) : Nat := (v.extractLsb' 0 5).toNat

/-- The count of a 64-bit variable shift: the low six bits (42_shift.md R480). -/
def shiftCount6 (v : Word) : Nat := (v.extractLsb' 0 6).toNat

/-- `n` bytes of memory put over the upper end of a register of `w` bytes (LWL, LDL; 44_load_store.md R550, R552). -/
def mergeLeft (w n : Nat) (v old : Word) : Word :=
  let keep := 8 * (w - n)
  (v <<< keep) ||| (old &&& BitVec.ofNat 64 (2 ^ keep - 1))

/-- `n` bytes of memory put over the lower end of a register (LWR, LDR; 44_load_store.md R551, R553). -/
def mergeRight (n : Nat) (v old : Word) : Word :=
  let put := BitVec.ofNat 64 (2 ^ (8 * n) - 1)
  (v &&& put) ||| (old &&& ~~~put)

end Sys2Proof.Machine
end

