-- ==== Sys2Proof/Machine/Branch.lean ====
section
/-! DEFINITION. The jumps and branches, NOP and SSNOP (43_branch_jump_nop.md R500 to R526), and the branches on the FPU conditions
(49_fpu_convert_compare_branch.md R782 to R786). -/

namespace Sys2Proof.Machine

/-- A conditional branch (R500, R503). -/
def takeBranch (s : State) (c : Bool) (offset : BitVec 16) : Out :=
  needNoSlot s (.next (branch c (branchTarget s.pc offset) s))

/-- A likely conditional branch (R502, R503). -/
def takeLikely (s : State) (c : Bool) (offset : BitVec 16) : Out :=
  needNoSlot s (.next (branchLikely c (branchTarget s.pc offset) s))

/-- The link is written to x31 whether or not the branch is taken; register 31 may not be the source (R504). -/
def withLink (s : State) (rs : RegNum) (k : State → Out) : Out :=
  if rs == 31 then .fault .linkRegisterIsSource else k (gprWrite s 31 (s.pc + 8))

/-- J: jump (R505). -/
def execJ (target : BitVec 26) (s : State) : Out :=
  needNoSlot s (.next (branch true (jumpTarget s.pc target) s))

/-- JAL: jump and link (R506). -/
def execJal (target : BitVec 26) (s : State) : Out :=
  needNoSlot s (.next (branch true (jumpTarget s.pc target) (gprWrite s 31 (s.pc + 8))))

/-- JR: jump to a register (R507). -/
def execJr (rs : RegNum) (_hint : BitVec 5) (s : State) : Out :=
  needNoSlot s (.next (branch true (gprRead s rs) s))

/-- JALR: jump to a register and link (R508). -/
def execJalr (rs : RegNum) (rd : RegNum) (_hint : BitVec 5) (s : State) : Out :=
  needNoSlot s (if rd == rs then .fault .linkRegisterIsSource
    else .next (branch true (gprRead s rs) (gprWrite s rd (s.pc + 8))))

/-- BEQ: branch if equal (R509). -/
def execBeq (rs : RegNum) (rt : RegNum) (offset : BitVec 16) (s : State) : Out :=
  takeBranch s (gprRead s rs == gprRead s rt) offset

/-- BEQL: branch likely if equal (R517). -/
def execBeql (rs : RegNum) (rt : RegNum) (offset : BitVec 16) (s : State) : Out :=
  takeLikely s (gprRead s rs == gprRead s rt) offset

/-- BNE: branch if not equal (R510). -/
def execBne (rs : RegNum) (rt : RegNum) (offset : BitVec 16) (s : State) : Out :=
  takeBranch s (gprRead s rs != gprRead s rt) offset

/-- BNEL: branch likely if not equal (R518). -/
def execBnel (rs : RegNum) (rt : RegNum) (offset : BitVec 16) (s : State) : Out :=
  takeLikely s (gprRead s rs != gprRead s rt) offset

/-- BLEZ: branch if less than or equal to zero (R511). -/
def execBlez (rs : RegNum) (offset : BitVec 16) (s : State) : Out :=
  takeBranch s ((gprRead s rs).sle 0) offset

/-- BLEZL: branch likely if less than or equal to zero (R519). -/
def execBlezl (rs : RegNum) (offset : BitVec 16) (s : State) : Out :=
  takeLikely s ((gprRead s rs).sle 0) offset

/-- BGTZ: branch if greater than zero (R512). -/
def execBgtz (rs : RegNum) (offset : BitVec 16) (s : State) : Out :=
  takeBranch s (!(gprRead s rs).sle 0) offset

/-- BGTZL: branch likely if greater than zero (R520). -/
def execBgtzl (rs : RegNum) (offset : BitVec 16) (s : State) : Out :=
  takeLikely s (!(gprRead s rs).sle 0) offset

/-- BLTZ: branch if less than zero (R513). -/
def execBltz (rs : RegNum) (offset : BitVec 16) (s : State) : Out :=
  takeBranch s (gprRead s rs).msb offset

/-- BLTZL: branch likely if less than zero (R521). -/
def execBltzl (rs : RegNum) (offset : BitVec 16) (s : State) : Out :=
  takeLikely s (gprRead s rs).msb offset

/-- BGEZ: branch if greater than or equal to zero (R514). -/
def execBgez (rs : RegNum) (offset : BitVec 16) (s : State) : Out :=
  takeBranch s (!(gprRead s rs).msb) offset

/-- BGEZL: branch likely if greater than or equal to zero (R522). -/
def execBgezl (rs : RegNum) (offset : BitVec 16) (s : State) : Out :=
  takeLikely s (!(gprRead s rs).msb) offset

/-- BLTZAL: branch and link if less than zero (R515). -/
def execBltzal (rs : RegNum) (offset : BitVec 16) (s : State) : Out :=
  withLink s rs fun t => needNoSlot s (.next (branch (gprRead s rs).msb (branchTarget s.pc offset) t))

/-- BLTZALL: branch likely and link if less than zero (R523). -/
def execBltzall (rs : RegNum) (offset : BitVec 16) (s : State) : Out :=
  withLink s rs fun t => needNoSlot s (.next (branchLikely (gprRead s rs).msb (branchTarget s.pc offset) t))

/-- BGEZAL: branch and link if greater than or equal to zero (R516). -/
def execBgezal (rs : RegNum) (offset : BitVec 16) (s : State) : Out :=
  withLink s rs fun t => needNoSlot s (.next (branch (!(gprRead s rs).msb) (branchTarget s.pc offset) t))

/-- BGEZALL: branch likely and link if greater than or equal to zero (R524). -/
def execBgezall (rs : RegNum) (offset : BitVec 16) (s : State) : Out :=
  withLink s rs fun t => needNoSlot s (.next (branchLikely (!(gprRead s rs).msb) (branchTarget s.pc offset) t))

/-- NOP: nothing (R525). -/
def execNop (s : State) : Out :=
  done s

/-- SSNOP: nothing; its timing is not modelled (R526). -/
def execSsnop (s : State) : Out :=
  done s

/-- BC1T: branch on an FPU condition true (R783). -/
def execBc1t (cc : BitVec 3) (offset : BitVec 16) (s : State) : Out :=
  needCu1 s (takeBranch s (fccBit s cc) offset)

/-- BC1F: branch on an FPU condition false (R784). -/
def execBc1f (cc : BitVec 3) (offset : BitVec 16) (s : State) : Out :=
  needCu1 s (takeBranch s (!fccBit s cc) offset)

/-- BC1TL: branch likely on an FPU condition true (R785). -/
def execBc1tl (cc : BitVec 3) (offset : BitVec 16) (s : State) : Out :=
  needCu1 s (takeLikely s (fccBit s cc) offset)

/-- BC1FL: branch likely on an FPU condition false (R786). -/
def execBc1fl (cc : BitVec 3) (offset : BitVec 16) (s : State) : Out :=
  needCu1 s (takeLikely s (!fccBit s cc) offset)

end Sys2Proof.Machine
end

