-- ==== Sys2Proof/Machine/CacheInstr.lean ====
section
/-! DEFINITION. The CACHE instruction (46_cp0.md R630 to R647). -/

namespace Sys2Proof.Machine

/-- `way`, `line` and `dw` of an index operand (R631). -/
def indexWay (ea : Word) : Nat := (ea.extractLsb' 12 2).toNat

/-- The line of an index operand, bits 11:5 (R631). -/
def indexLine (ea : Word) : Nat := (ea.extractLsb' 5 7).toNat

/-- The doubleword of an index operand, bits 4:3 (R631). -/
def indexDword (ea : Word) : Nat := (ea.extractLsb' 3 2).toNat

/-- The Branch Prediction RAM word of an index operand, bits 12:3 (R642). -/
def indexBrRam (ea : Word) : Nat := (ea.extractLsb' 3 10).toNat

/-- Software has given a tag its V bit (70_reset_and_hazards.md R890, U20). -/
def markTag (c : Cache) (way line : Nat) : Cache := { c with tagInit := c.tagInit ||| (1 <<< (128 * way + line)) }

/-- A line with V and L clear (R632). -/
def invalidated (x : CacheLine) : CacheLine := { x with v := false, l := false }

/-- Index Invalidate, and Index Write-Back Invalidate on the data cache (R632, R633). -/
def indexInvalidate (s : State) (d : Side) (ea : Word) : State :=
  let x := getLine (getCache s d) (indexWay ea) (indexLine ea)
  let s1 := if d == .data && x.v && x.dirty then writeBack s x (indexLine ea) else s
  setCache s1 d (markTag (setLine (getCache s1 d) (indexWay ea) (indexLine ea) (invalidated x)) (indexWay ea) (indexLine ea))

/-- Index Load Tag/Data (R634). -/
def indexLoadTag (s : State) (d : Side) (ea : Word) : State :=
  let x := getLine (getCache s d) (indexWay ea) (indexLine ea)
  { s with cp0 := { s.cp0 with
    tagLo := BitVec.ofBool x.l ++ BitVec.ofBool x.v ++ x.tag
    dataLo := joinBytes (lineBytes x (8 * indexDword ea) 8) } }

/-- A line with the tag, V and L of TagLo in its normal format (R635). -/
def taggedLine (t : BitVec 26) (x : CacheLine) : CacheLine :=
  { x with tag := t.extractLsb' 0 24, v := t.getLsbD 24, l := t.getLsbD 25 }

/-- Index Store Tag; with `data` also the doubleword of DataLo, Index Store Tag/Data (R635, R645). -/
def indexStoreTag (s : State) (d : Side) (ea : Word) (data : Bool) : State :=
  let c := getCache s d
  let x := taggedLine s.cp0.tagLo (getLine c (indexWay ea) (indexLine ea))
  let y := if data then patchLine x (8 * indexDword ea) (splitBytes 8 s.cp0.dataLo) else x
  setCache s d (markTag (setLine c (indexWay ea) (indexLine ea) y) (indexWay ea) (indexLine ea))

/-- Index Load WS & BrRAM, Index Load WS & Dirty (R642, R643): the bits the format does not name are free values. -/
def indexLoadWs (s : State) (d : Side) (ea : Word) : State :=
  let line := indexLine ea
  let ws : BitVec 26 := (storeGet 0 (getCache s d).ws line).setWidth 26
  let k := s.conf.tagLoDirtyLsb
  let dirty : BitVec 4 :=
    BitVec.ofBool (getLine s.dcache 3 line).dirty ++ BitVec.ofBool (getLine s.dcache 2 line).dirty
      ++ BitVec.ofBool (getLine s.dcache 1 line).dirty ++ BitVec.ofBool (getLine s.dcache 0 line).dirty
  let free : BitVec 26 := (freeWord s 0).setWidth 26
  let mask : BitVec 26 := match d with
    | .inst => 0x3F
    | .data => 0x3F ||| ((0xF : BitVec 26) <<< k)
  let known : BitVec 26 := match d with
    | .inst => ws
    | .data => ws ||| (dirty.setWidth 26 <<< k)
  let s1 := spend 1 s
  { s1 with cp0 := { s1.cp0 with tagLo := (known &&& mask) ||| (free &&& ~~~mask) } }

/-- A way's Dirty bit set to a value (R644). -/
def setDirty (c : Cache) (way line : Nat) (b : Bool) : Cache :=
  setLine c way line { getLine c way line with dirty := b }

/-- Index Store WS & BrRAM, Index Store WS & Dirty (R644). The Branch Prediction RAM takes bits 25:6 of TagLo (log 19). -/
def indexStoreWs (s : State) (d : Side) (ea : Word) : State :=
  let line := indexLine ea
  let t := s.cp0.tagLo
  let k := s.conf.tagLoDirtyLsb
  let c := getCache s d
  let c1 : Cache := { c with ws := storeSet 0 c.ws line (t.extractLsb' 0 6), wsInit := c.wsInit ||| (1 <<< line) }
  match d with
  | .inst => { setCache s .inst c1 with brRam := storeSet 0 s.brRam (indexBrRam ea) (t.extractLsb' 6 20) }
  | .data =>
    setCache s .data (setDirty (setDirty (setDirty (setDirty c1 0 line (t.getLsbD k)) 1 line (t.getLsbD (k + 1)))
      2 line (t.getLsbD (k + 2))) 3 line (t.getLsbD (k + 3)))

/-- `CacheTranslate(ea)`: as a load; an uncached address stops (R647, R646 c). -/
def cacheTranslate (s : State) (ea : Word) : Res PAddr :=
  ((translate s ea .load).toRes s).bind fun (pa, cca) s1 =>
    if cca.getLsbD 2 then .stop .reservedCachePolicy
    else if cca == 2 then .stop .cacheOpUncached
    else .ok pa s1

/-- The way that holds an address, if any (R637). -/
def findWay (s : State) (d : Side) (pa : PAddr) : Option (Nat × State) :=
  match hitWays (getCache s d) pa with
  | [] => none
  | ways => some (hitWay s d ways)

/-- Hit Invalidate, Hit Write-Back Invalidate and Hit Write-Back on a line that is in the cache (R637, R639, R640). -/
def hitOp (s : State) (d : Side) (pa : PAddr) (w : Nat) (store invalidate : Bool) : State :=
  let x := getLine (getCache s d) w (lineOf pa)
  let s1 := if store && x.dirty then writeBack s x (lineOf pa) else s
  let y := if invalidate then invalidated x else if store then { x with dirty := false } else x
  setCache s1 d (setLine (getCache s1 d) w (lineOf pa) y)

/-- A hit operation at an address (R637, R639, R640). Hit Invalidate of the instruction cache is the step of the recipe of
20_memory.md R256 that makes stored code visible. -/
def hitAt (s : State) (d : Side) (ea : Word) (store invalidate : Bool) : Res Unit :=
  (cacheTranslate s ea).bind fun pa s1 =>
    let s2 := if d == .inst then noteInvalidate s1 pa else s1
    match findWay s2 d pa with
    | none => .ok () s2
    | some (w, s3) => .ok () (hitOp s3 d pa w store invalidate)

/-- A line with L set (R641). -/
def lockLine (s : State) (d : Side) (pa : PAddr) (w : Nat) : State :=
  setCache s d (setLine (getCache s d) w (lineOf pa) { getLine (getCache s d) w (lineOf pa) with l := true })

/-- Fill, and Fetch And Lock (R638, R641). They count as cached accesses: before the cache is initialised they stop, as U20 has
it (DESIGN CHOICE, log 12). The block read counts as a data read (60_exceptions.md R808). -/
def fillAt (s : State) (d : Side) (ea : Word) (lock : Bool) : Res Unit :=
  (cacheTranslate s ea).bind fun pa s1 =>
    if !cacheReady (getCache s1 d) then .stop .cacheNotInitialised
    else match findWay s1 d pa with
      | some (w, s2) => .ok () (if lock then lockLine s2 d pa w else s2)
      | none => (needBus s1 (fillLine s1 d pa)).bind fun w s2 => .ok () (if lock then lockLine s2 d pa w else s2)

/-- The standard operations, WST = 0, by the operation code (R630). -/
def cacheStandard (s : State) (d : Side) (code : BitVec 3) (ea : Word) : Res Unit :=
  match code with
  | 0 => .ok () (indexInvalidate s d ea)
  | 1 => .ok () (indexLoadTag s d ea)
  | 2 => .ok () (indexStoreTag s d ea false)
  | 3 => .ok () s
  | 4 => hitAt s d ea false true
  | 5 => if d == .inst then fillAt s d ea false else hitAt s d ea true true
  | 6 => if d == .inst then .ok () s else hitAt s d ea true false
  | _ => fillAt s d ea true

/-- The diagnostic operations, WST = 1, by the operation code (R630, R646 b). -/
def cacheDiagnostic (s : State) (d : Side) (code : BitVec 3) (ea : Word) : Res Unit :=
  match code with
  | 1 => .ok () (indexLoadWs s d ea)
  | 2 => .ok () (indexStoreWs s d ea)
  | 3 => .ok () (indexStoreTag s d ea true)
  | _ => .stop .cacheOpUndefined

/-- The cache bits 17:16 name: 0 instruction, 1 data, 2 and 3 none (R630). -/
def cacheSide (op : BitVec 5) : Option Side :=
  if op.extractLsb' 0 2 == 0 then some .inst else if op.extractLsb' 0 2 == 1 then some .data else none

/-- CACHE: the operation of ErrCtl.WST, the code and the cache; with no such cache a NOP (R646 a) (R630). -/
def execCache (base : RegNum) (op : BitVec 5) (offset : BitVec 16) (s : State) : Out :=
  needCp0 s (match cacheSide op with
    | none => done s
    | some d =>
      let ea := baseOffset s base offset
      let code := op.extractLsb' 2 3
      finish (if s.cp0.errCtl.wst then cacheDiagnostic s d code ea else cacheStandard s d code ea))

end Sys2Proof.Machine
end

