-- ==== Sys2Proof/Machine/Fpu.lean ====
section
/-! DEFINITION. The arithmetic of the FPU: formats and classes (47_fpu_arithmetic.md R660, R661), exact results, rounding
(R672, R673), the six exceptions (R664 to R671), and the template of an arithmetic instruction (R662). Results are computed
exactly in Nat and Int and rounded once. -/

namespace Sys2Proof.Machine

/-- The two floating-point formats (R660). -/
inductive Fmt where
  | s
  | d
deriving DecidableEq, Repr

/-- The number of fraction bits (R660). -/
def Fmt.frac : Fmt → Nat
  | .s => 23
  | .d => 52

/-- The number of exponent bits (R660). -/
def Fmt.expBits : Fmt → Nat
  | .s => 8
  | .d => 11

/-- The number p of significant bits (R660). -/
def Fmt.precision (f : Fmt) : Nat := f.frac + 1

/-- The bias, which is Emax (R660). -/
def Fmt.bias : Fmt → Nat
  | .s => 127
  | .d => 1023

/-- Emin (R660). -/
def Fmt.emin (f : Fmt) : Int := 1 - (f.bias : Int)

/-- The container tag of a format (10_state.md R43). -/
def Fmt.tag : Fmt → FprFormat
  | .s => .s
  | .d => .d

/-- The class of a value (R661). A normal number is (-1)^sign times m times 2^e with m of p bits. -/
inductive FpValue where
  | zero (sign : Bool)
  | denormal
  | normal (sign : Bool) (m : Nat) (e : Int)
  | inf (sign : Bool)
  | nan
deriving DecidableEq, Repr

/-- The bit pattern of sign, biased exponent and fraction (R660). -/
def assemble (f : Fmt) (sign : Bool) (exponent fraction : Nat) : Word :=
  BitVec.ofNat 64 ((if sign then 2 ^ (f.frac + f.expBits) else 0) + exponent * 2 ^ f.frac + fraction)

/-- The class of a bit pattern (R661). -/
def classify (f : Fmt) (v : Word) : FpValue :=
  let sign := v.getLsbD (f.frac + f.expBits)
  let e := v.toNat / 2 ^ f.frac % 2 ^ f.expBits
  let m := v.toNat % 2 ^ f.frac
  if e = 2 ^ f.expBits - 1 then (if m = 0 then .inf sign else .nan)
  else if e = 0 then (if m = 0 then .zero sign else .denormal)
  else .normal sign (2 ^ f.frac + m) ((e : Int) - f.bias - f.frac)

/-- `Zero(s)` (R661). -/
def zeroWord (f : Fmt) (sign : Bool) : Word := assemble f sign 0 0

/-- `Inf(s)` (R661). -/
def infWord (f : Fmt) (sign : Bool) : Word := assemble f sign (2 ^ f.expBits - 1) 0

/-- `MaxFin(s)` (R661). -/
def maxFinWord (f : Fmt) (sign : Bool) : Word := assemble f sign (2 ^ f.expBits - 2) (2 ^ f.frac - 1)

/-- `MinNorm(s)` (R661). -/
def minNormWord (f : Fmt) (sign : Bool) : Word := assemble f sign 1 0

/-- A non-zero exact result: (-1)^sign times (num + a fraction, if `sticky`, between 0 and 1) times 2^exp. -/
structure Exact where
  sign : Bool
  num : Nat
  exp : Int
  sticky : Bool
deriving DecidableEq, Repr

/-- What the computation of an instruction ends in (R662 step 8). -/
inductive FpResult where
  | invalid
  | divByZero (sign : Bool)
  | deliver (v : Word)
  | finish (x : Exact)
deriving DecidableEq, Repr

/-- What an arithmetic instruction does to the FPU: it traps with a set of Cause bits, or it writes a value, sets Cause and
accumulates the same bits into Flags (R671). -/
inductive FpEnd where
  | trap (cause : BitVec 6)
  | write (v : Word) (cause : BitVec 6)
deriving DecidableEq, Repr

/-- The Cause bits V, Z, O and I, U and I, I (10_state.md R51). -/
def causeV : BitVec 6 := 0b010000

/-- Cause Z. -/
def causeZ : BitVec 6 := 0b001000

/-- Cause O and I. -/
def causeOI : BitVec 6 := 0b000101

/-- Cause U and I. -/
def causeUI : BitVec 6 := 0b000011

/-- Cause I. -/
def causeI : BitVec 6 := 0b000001

/-- Enables V, Z, O, U, I by position (10_state.md R51). -/
def enabled (f : Fcsr) (k : Nat) : Bool := f.enables.getLsbD k

/-- `Invalid()` (R664). -/
def endInvalid (c : Fcsr) : FpEnd := if enabled c 4 then .trap causeV else .trap causeE

/-- `DivByZero(s)` (R665). -/
def endDivByZero (c : Fcsr) (f : Fmt) (sign : Bool) : FpEnd :=
  if enabled c 3 then .trap causeZ else .write (infWord f sign) causeZ

/-- The rounded result with I alone (R666). -/
def endInexact (c : Fcsr) (v : Word) : FpEnd := if enabled c 0 then .trap causeI else .write v causeI

/-- The default result of an overflow, S1 Table 3.20 (R667). -/
def overflowResult (f : Fmt) (rm : BitVec 2) (sign : Bool) : Word :=
  if rm == 0 then infWord f sign
  else if rm == 1 then maxFinWord f sign
  else if rm == 2 then (if sign then maxFinWord f true else infWord f false)
  else (if sign then infWord f true else maxFinWord f false)

/-- Overflow (R667). -/
def endOverflow (c : Fcsr) (f : Fmt) (sign : Bool) : FpEnd :=
  if enabled c 2 || enabled c 0 then .trap causeOI else .write (overflowResult f c.rm sign) causeOI

/-- The flushed result of an underflow, S1 Table 3.21 (R668). -/
def underflowResult (f : Fmt) (rm : BitVec 2) (sign : Bool) : Word :=
  if rm == 2 then (if sign then zeroWord f true else minNormWord f false)
  else if rm == 3 then (if sign then minNormWord f true else zeroWord f false)
  else zeroWord f sign

/-- Underflow (R668). -/
def endUnderflow (c : Fcsr) (f : Fmt) (sign : Bool) : FpEnd :=
  if enabled c 1 then .trap causeUI
  else if !c.fs then .trap causeE
  else if enabled c 0 then .trap causeE
  else .write (underflowResult f c.rm sign) causeUI

/-- Whether a magnitude is rounded up: `q` is what is kept, `rem` of 2^k what is dropped, `sticky` that still more is dropped
(R672). -/
def roundsUp (rm : BitVec 2) (sign : Bool) (q rem k : Nat) (sticky : Bool) : Bool :=
  let inexact := rem != 0 || sticky
  if rm == 0 then
    decide (2 ^ k < 2 * rem) || (2 * rem == 2 ^ k && k != 0 && (sticky || q % 2 == 1))
  else if rm == 1 then false
  else if rm == 2 then !sign && inexact
  else sign && inexact

/-- A magnitude divided by 2^k and rounded, and whether that lost anything (R672). -/
def roundShift (rm : BitVec 2) (sign : Bool) (num k : Nat) (sticky : Bool) : Nat × Bool :=
  let q := num / 2 ^ k
  let rem := num % 2 ^ k
  (if roundsUp rm sign q rem k sticky then q + 1 else q, rem != 0 || sticky)

/-- `Finish(x, fmt)` for a non-zero exact result (R673). A result with `sticky` has at least p + 2 bits. -/
def endFinish (c : Fcsr) (f : Fmt) (x : Exact) : FpEnd :=
  let p := f.precision
  let len := x.num.log2 + 1
  let top : Int := x.exp + (x.num.log2 : Int)
  let k := len - p
  let up := p - len
  let (r0, inexact) := roundShift c.rm x.sign (x.num * 2 ^ up) k x.sticky
  let carry := r0 == 2 ^ p
  let r := if carry then 2 ^ (p - 1) else r0
  let e : Int := if carry then top + 1 else top
  if top < f.emin then endUnderflow c f x.sign
  else if (f.bias : Int) < e then endOverflow c f x.sign
  else
    let v := assemble f x.sign (e + f.bias).toNat (r - 2 ^ f.frac)
    if inexact then endInexact c v else .write v 0

/-- The end of a computation (R662 step 8, R671). -/
def endOf (c : Fcsr) (f : Fmt) (r : FpResult) : FpEnd :=
  match r with
  | .invalid => endInvalid c
  | .divByZero sign => endDivByZero c f sign
  | .deliver v => .write v 0
  | .finish x => endFinish c f x

/-- The sign of an exact zero sum of values of unlike sign (R673). -/
def cancelSign (rm : BitVec 2) : Bool := rm == 3

/-- A signed exact number. -/
def exactOfInt (n : Int) (e : Int) : Exact := { sign := decide (n < 0), num := n.natAbs, exp := e, sticky := false }

/-- (-1)^sign times a natural number. -/
def signed (sign : Bool) (m : Nat) : Int := if sign then -(m : Int) else m

/-- The sum of two normal numbers (R680). -/
def addNormal (f : Fmt) (rm : BitVec 2) (sa : Bool) (ma : Nat) (ea : Int) (sb : Bool) (mb : Nat) (eb : Int) : FpResult :=
  let e := min ea eb
  let n := signed sa (ma * 2 ^ (ea - e).toNat) + signed sb (mb * 2 ^ (eb - e).toNat)
  if n = 0 then .deliver (zeroWord f (cancelSign rm)) else .finish (exactOfInt n e)

/-- ADD.fmt on classified operands with their bit patterns (R680). -/
def addValue (f : Fmt) (rm : BitVec 2) (a b : Word) : FpResult :=
  match classify f a, classify f b with
  | .inf sa, .inf sb => if sa == sb then .deliver a else .invalid
  | .inf _, _ => .deliver a
  | _, .inf _ => .deliver b
  | .zero sa, .zero sb => .deliver (zeroWord f (if sa == sb then sa else cancelSign rm))
  | .zero _, _ => .deliver b
  | _, .zero _ => .deliver a
  | .normal sa ma ea, .normal sb mb eb => addNormal f rm sa ma ea sb mb eb
  | _, _ => .invalid

/-- A bit pattern with the sign inverted (R685). -/
def flipSign (f : Fmt) (v : Word) : Word := v ^^^ ((1 : Word) <<< (f.frac + f.expBits))

/-- A bit pattern with the sign cleared (R684). -/
def clearSign (f : Fmt) (v : Word) : Word := v &&& ~~~((1 : Word) <<< (f.frac + f.expBits))

/-- SUB.fmt: a + (-b) in every respect (R681). -/
def subValue (f : Fmt) (rm : BitVec 2) (a b : Word) : FpResult := addValue f rm a (flipSign f b)

/-- The sign of a classified value. -/
def FpValue.sign : FpValue → Bool
  | .zero s => s
  | .normal s _ _ => s
  | .inf s => s
  | _ => false

/-- MUL.fmt (R682). -/
def mulValue (f : Fmt) (a b : Word) : FpResult :=
  let va := classify f a
  let vb := classify f b
  let sign := va.sign != vb.sign
  match va, vb with
  | .zero _, .inf _ => .invalid
  | .inf _, .zero _ => .invalid
  | .inf _, _ => .deliver (infWord f sign)
  | _, .inf _ => .deliver (infWord f sign)
  | .zero _, _ => .deliver (zeroWord f sign)
  | _, .zero _ => .deliver (zeroWord f sign)
  | .normal _ ma ea, .normal _ mb eb => .finish { sign := sign, num := ma * mb, exp := ea + eb, sticky := false }
  | _, _ => .invalid

/-- The quotient of two p-bit magnitudes with p + 2 bits or more, the rest sticky (R683). -/
def divNormal (f : Fmt) (sign : Bool) (ma : Nat) (ea : Int) (mb : Nat) (eb : Int) : FpResult :=
  let n := ma * 2 ^ (f.precision + 2)
  .finish { sign := sign, num := n / mb, exp := ea - eb - (f.precision + 2 : Nat), sticky := n % mb != 0 }

/-- DIV.fmt (R683). -/
def divValue (f : Fmt) (a b : Word) : FpResult :=
  let va := classify f a
  let vb := classify f b
  let sign := va.sign != vb.sign
  match va, vb with
  | .zero _, .zero _ => .invalid
  | .inf _, .inf _ => .invalid
  | .inf _, _ => .deliver (infWord f sign)
  | _, .inf _ => .deliver (zeroWord f sign)
  | .normal _ _ _, .zero _ => .divByZero sign
  | .zero _, _ => .deliver (zeroWord f sign)
  | .normal _ ma ea, .normal _ mb eb => divNormal f sign ma ea mb eb
  | _, _ => .invalid

/-- The number 1 (R691). -/
def oneWord (f : Fmt) : Word := assemble f false f.bias 0

/-- The integer square root, bit by bit from bit `k - 1` down. -/
def isqrtFrom (n : Nat) : Nat → Nat → Nat
  | 0, r => r
  | k + 1, r => isqrtFrom n k (if (r + 2 ^ k) * (r + 2 ^ k) ≤ n then r + 2 ^ k else r)

/-- SQRT.fmt (R686). -/
def sqrtValue (f : Fmt) (a : Word) : FpResult :=
  match classify f a with
  | .zero _ => .deliver a
  | .normal sign m e =>
    if sign then .invalid
    else
      let t : Nat := 2 * (f.precision + 2) + (if e % 2 = 0 then 0 else 1)
      let n := m * 2 ^ t
      let r := isqrtFrom n (2 * f.precision + 4) 0
      .finish { sign := false, num := r, exp := (e - (t : Int)) / 2, sticky := r * r != n }
  | .inf sign => if sign then .invalid else .deliver a
  | _ => .invalid

/-- An operand is denormalized (R670). -/
def isDenormal (f : Fmt) (v : Word) : Bool := classify f v == .denormal

/-- An operand is a NaN (R664). -/
def isNan (f : Fmt) (v : Word) : Bool := classify f v == .nan

/-- Steps 6 and 7 of the template: denormalized operands, then NaNs (R662, D50). -/
def checked (c : Fcsr) (f : Fmt) (ops : List Word) (k : FpEnd) : FpEnd :=
  if ops.any (isDenormal f) then .trap causeE
  else if ops.any (isNan f) then endInvalid c
  else k

/-- The second stage of the MADD family: the union of the Cause bits of both stages (R687, D21). -/
def chain (first : FpEnd) (second : Word → FpEnd) : FpEnd :=
  match first with
  | .trap c => .trap c
  | .write v c =>
    match second v with
    | .trap c' => .trap (c ||| c')
    | .write v' c' => .write v' (c ||| c')

/-- The sign change that ends NMADD and NMSUB (R689, R690). -/
def negated (f : Fmt) (e : FpEnd) : FpEnd :=
  match e with
  | .trap c => .trap c
  | .write v c => .write (flipSign f v) c

/-- `ToFixed(a, N, mode)` on a value that is neither denormalized nor a NaN (49_fpu_convert_compare_branch.md R765). -/
def toFixed (c : Fcsr) (f : Fmt) (v : Word) (n : Nat) (mode : BitVec 2) : FpEnd :=
  match classify f v with
  | .zero _ => .write 0 0
  | .normal sign m e =>
    let (q, inexact) := roundShift mode sign (m * 2 ^ e.toNat) (-e).toNat false
    let i := signed sign q
    if i < -(2 ^ (n - 1) : Int) ∨ (2 ^ (n - 1) : Int) ≤ i then endInvalid c
    else if inexact then endInexact c (BitVec.ofInt 64 i)
    else .write (BitVec.ofInt 64 i) 0
  | _ => endInvalid c

/-- A signed integer as a floating-point number (49_fpu_convert_compare_branch.md R761, R762). -/
def fromFixed (f : Fmt) (i : Int) : FpResult := if i = 0 then .deliver (zeroWord f false) else .finish (exactOfInt i 0)

/-- A floating-point number in another floating-point format (49_fpu_convert_compare_branch.md R761, R762). -/
def convertFloat (src dst : Fmt) (v : Word) : FpResult :=
  match classify src v with
  | .zero sign => .deliver (zeroWord dst sign)
  | .inf sign => .deliver (infWord dst sign)
  | .normal sign m e => .finish { sign := sign, num := m, exp := e, sticky := false }
  | _ => .invalid

/-- The order of two values that are not NaN: less, equal (49_fpu_convert_compare_branch.md R780). An infinity is beyond
every finite number; -0 equals +0. -/
def compareValues (f : Fmt) (a b : Word) : Bool × Bool :=
  match classify f a, classify f b with
  | .inf sa, .inf sb => (sa && !sb, sa == sb)
  | .inf sa, _ => (sa, false)
  | _, .inf sb => (!sb, false)
  | .zero _, .zero _ => (false, true)
  | .zero _, .normal sb _ _ => (!sb, false)
  | .normal sa _ _, .zero _ => (sa, false)
  | .normal sa ma ea, .normal sb mb eb =>
    let e := min ea eb
    let x := signed sa (ma * 2 ^ (ea - e).toNat)
    let y := signed sb (mb * 2 ^ (eb - e).toNat)
    (decide (x < y), x == y)
  | _, _ => (false, false)

/-- The result of a compare: a trap, or the value of the condition code (49_fpu_convert_compare_branch.md R780, R781). -/
def compareEnd (c : Fcsr) (f : Fmt) (cond : BitVec 4) (a b : Word) : BitVec 6 ⊕ Bool :=
  if isDenormal f a || isDenormal f b then .inl causeE
  else if isNan f a || isNan f b then
    if cond.getLsbD 3 then .inl (if enabled c 4 then causeV else causeE) else .inr (cond.getLsbD 0)
  else
    let (less, equal) := compareValues f a b
    .inr ((cond.getLsbD 2 && less) || (cond.getLsbD 1 && equal))

/-- The operand in register `i` as format `f`; the `k`-th free value if the register was last written in another format
(10_state.md R43). -/
def fpOperand (s : State) (f : Fmt) (k : Nat) (i : RegNum) : Word :=
  match f with
  | .s => (operand32 s k .s i).setWidth 64
  | .d => operand64 s k .d i

/-- Write a floating-point result (48_fpu_load_store_move.md R720). -/
def setFp (s : State) (f : Fmt) (i : RegNum) (v : Word) : State :=
  match f with
  | .s => setFpr32 s i (low32 v) .s
  | .d => setFpr64 s i v .d

/-- FCSR after an instruction that completes: Cause is replaced, Flags accumulate (10_state.md R54, R56; R671). -/
def fcsrAfter (c : Fcsr) (cause : BitVec 6) : Fcsr :=
  { c with cause := cause, flags := c.flags ||| cause.extractLsb' 0 5 }

/-- The end of an arithmetic instruction. Three free values have been set apart for its operands (10_state.md R43). -/
def fpComplete (e : FpEnd) (write : State → Word → State) (s : State) : Out :=
  match e with
  | .trap c => signalFpe c (spend 3 s)
  | .write v c => done (write { spend 3 s with fcsr := fcsrAfter s.fcsr c } v)

/-- Steps 1 and 3 of the template for the registers of an instruction (R662). -/
def fpPre (s : State) (regs : List RegNum) (k : Out) : Out :=
  needCu1 s (if regs.all (fprNumberOk s) then k else .fault .oddFprWithFr0)

/-- The same with the MIPS-64 level test between them (R662 step 2). -/
def fpPre64 (s : State) (regs : List RegNum) (k : Out) : Out :=
  needCu1 s (need64Arith s (if regs.all (fprNumberOk s) then k else .fault .oddFprWithFr0))

end Sys2Proof.Machine
end

