-- ==== Sys2Proof/Machine/FpArith.lean ====
section
/-! DEFINITION. The FPU arithmetic instructions (47_fpu_arithmetic.md R680 to R691). -/

namespace Sys2Proof.Machine

/-- A two-operand arithmetic instruction (R662, R680 to R683). -/
def fpBinary (f : Fmt) (op : Word → Word → FpResult) (ft fs fd : RegNum) (s : State) : Out :=
  let a := fpOperand s f 0 fs
  let b := fpOperand s f 1 ft
  fpPre s [ft, fs, fd] (fpComplete (checked s.fcsr f [a, b] (endOf s.fcsr f (op a b))) (fun t v => setFp t f fd v) s)

/-- A one-operand arithmetic instruction (R662, R684 to R686). -/
def fpUnary (f : Fmt) (op : Word → FpResult) (fs fd : RegNum) (s : State) : Out :=
  let a := fpOperand s f 0 fs
  fpPre s [fs, fd] (fpComplete (checked s.fcsr f [a] (endOf s.fcsr f (op a))) (fun t v => setFp t f fd v) s)

/-- RECIP: 1 divided by the operand; a MIPS-64 level instruction (R691). -/
def fpRecip (f : Fmt) (fs fd : RegNum) (s : State) : Out :=
  let a := fpOperand s f 0 fs
  fpPre64 s [fs, fd] (fpComplete (checked s.fcsr f [a] (endOf s.fcsr f (divValue f (oneWord f) a)))
    (fun t v => setFp t f fd v) s)

/-- The product, rounded, then the sum or difference with a third operand, rounded again (R687, R688). -/
def mulThen (c : Fcsr) (f : Fmt) (op : Word → Word → FpResult) (a b x : Word) : FpEnd :=
  chain (endOf c f (mulValue f a b)) fun t => endOf c f (op t x)

/-- The MADD family; `neg` for the forms that end with a sign change (R687 to R690). -/
def fpMulAdd (f : Fmt) (op : Word → Word → FpResult) (neg : Bool) (fr ft fs fd : RegNum) (s : State) : Out :=
  let a := fpOperand s f 0 fs
  let b := fpOperand s f 1 ft
  let x := fpOperand s f 2 fr
  let e := mulThen s.fcsr f op a b x
  fpPre64 s [fr, ft, fs, fd] (fpComplete (checked s.fcsr f [a, b, x] (if neg then negated f e else e))
    (fun t v => setFp t f fd v) s)

/-- ADD.S: sum (R680). -/
def execAddS (ft : RegNum) (fs : RegNum) (fd : RegNum) (s : State) : Out :=
  fpBinary .s (addValue .s s.fcsr.rm) ft fs fd s

/-- SUB.S: difference (R681). -/
def execSubS (ft : RegNum) (fs : RegNum) (fd : RegNum) (s : State) : Out :=
  fpBinary .s (subValue .s s.fcsr.rm) ft fs fd s

/-- MUL.S: product (R682). -/
def execMulS (ft : RegNum) (fs : RegNum) (fd : RegNum) (s : State) : Out :=
  fpBinary .s (mulValue .s) ft fs fd s

/-- DIV.S: quotient (R683). -/
def execDivS (ft : RegNum) (fs : RegNum) (fd : RegNum) (s : State) : Out :=
  fpBinary .s (divValue .s) ft fs fd s

/-- ABS.S: absolute value, arithmetic (R684). -/
def execAbsS (fs : RegNum) (fd : RegNum) (s : State) : Out :=
  fpUnary .s (fun a => .deliver (clearSign .s a)) fs fd s

/-- NEG.S: change of sign, arithmetic (R685). -/
def execNegS (fs : RegNum) (fd : RegNum) (s : State) : Out :=
  fpUnary .s (fun a => .deliver (flipSign .s a)) fs fd s

/-- SQRT.S: square root (R686). -/
def execSqrtS (fs : RegNum) (fd : RegNum) (s : State) : Out :=
  fpUnary .s (sqrtValue .s) fs fd s

/-- RECIP.S: reciprocal (R691). -/
def execRecipS (fs : RegNum) (fd : RegNum) (s : State) : Out :=
  fpRecip .s fs fd s

/-- MADD.S: multiply and add (R687). -/
def execMaddS (fr : RegNum) (ft : RegNum) (fs : RegNum) (fd : RegNum) (s : State) : Out :=
  fpMulAdd .s (addValue .s s.fcsr.rm) false fr ft fs fd s

/-- MSUB.S: multiply and subtract (R688). -/
def execMsubS (fr : RegNum) (ft : RegNum) (fs : RegNum) (fd : RegNum) (s : State) : Out :=
  fpMulAdd .s (subValue .s s.fcsr.rm) false fr ft fs fd s

/-- NMADD.S: multiply, add and change the sign (R689). -/
def execNmaddS (fr : RegNum) (ft : RegNum) (fs : RegNum) (fd : RegNum) (s : State) : Out :=
  fpMulAdd .s (addValue .s s.fcsr.rm) true fr ft fs fd s

/-- NMSUB.S: multiply, subtract and change the sign (R690). -/
def execNmsubS (fr : RegNum) (ft : RegNum) (fs : RegNum) (fd : RegNum) (s : State) : Out :=
  fpMulAdd .s (subValue .s s.fcsr.rm) true fr ft fs fd s

/-- ADD.D: sum (R680). -/
def execAddD (ft : RegNum) (fs : RegNum) (fd : RegNum) (s : State) : Out :=
  fpBinary .d (addValue .d s.fcsr.rm) ft fs fd s

/-- SUB.D: difference (R681). -/
def execSubD (ft : RegNum) (fs : RegNum) (fd : RegNum) (s : State) : Out :=
  fpBinary .d (subValue .d s.fcsr.rm) ft fs fd s

/-- MUL.D: product (R682). -/
def execMulD (ft : RegNum) (fs : RegNum) (fd : RegNum) (s : State) : Out :=
  fpBinary .d (mulValue .d) ft fs fd s

/-- DIV.D: quotient (R683). -/
def execDivD (ft : RegNum) (fs : RegNum) (fd : RegNum) (s : State) : Out :=
  fpBinary .d (divValue .d) ft fs fd s

/-- ABS.D: absolute value, arithmetic (R684). -/
def execAbsD (fs : RegNum) (fd : RegNum) (s : State) : Out :=
  fpUnary .d (fun a => .deliver (clearSign .d a)) fs fd s

/-- NEG.D: change of sign, arithmetic (R685). -/
def execNegD (fs : RegNum) (fd : RegNum) (s : State) : Out :=
  fpUnary .d (fun a => .deliver (flipSign .d a)) fs fd s

/-- SQRT.D: square root (R686). -/
def execSqrtD (fs : RegNum) (fd : RegNum) (s : State) : Out :=
  fpUnary .d (sqrtValue .d) fs fd s

/-- RECIP.D: reciprocal (R691). -/
def execRecipD (fs : RegNum) (fd : RegNum) (s : State) : Out :=
  fpRecip .d fs fd s

/-- MADD.D: multiply and add (R687). -/
def execMaddD (fr : RegNum) (ft : RegNum) (fs : RegNum) (fd : RegNum) (s : State) : Out :=
  fpMulAdd .d (addValue .d s.fcsr.rm) false fr ft fs fd s

/-- MSUB.D: multiply and subtract (R688). -/
def execMsubD (fr : RegNum) (ft : RegNum) (fs : RegNum) (fd : RegNum) (s : State) : Out :=
  fpMulAdd .d (subValue .d s.fcsr.rm) false fr ft fs fd s

/-- NMADD.D: multiply, add and change the sign (R689). -/
def execNmaddD (fr : RegNum) (ft : RegNum) (fs : RegNum) (fd : RegNum) (s : State) : Out :=
  fpMulAdd .d (addValue .d s.fcsr.rm) true fr ft fs fd s

/-- NMSUB.D: multiply, subtract and change the sign (R690). -/
def execNmsubD (fr : RegNum) (ft : RegNum) (fs : RegNum) (fd : RegNum) (s : State) : Out :=
  fpMulAdd .d (subValue .d s.fcsr.rm) true fr ft fs fd s

end Sys2Proof.Machine
end

