-- ==== Sys2Proof/Machine/FpConvert.lean ====
section
/-! DEFINITION. The FPU conversions and compares (49_fpu_convert_compare_branch.md R760 to R781). -/

namespace Sys2Proof.Machine

/-- A conversion between the floating-point formats (R761, R762). -/
def fpToFp (src dst : Fmt) (fs fd : RegNum) (s : State) : Out :=
  let a := fpOperand s src 0 fs
  fpPre s [fs, fd] (fpComplete (checked s.fcsr src [a] (endOf s.fcsr dst (convertFloat src dst a)))
    (fun t v => setFp t dst fd v) s)

/-- A conversion of a word integer (R761, R762). -/
def wordToFp (dst : Fmt) (fs fd : RegNum) (s : State) : Out :=
  fpPre s [fs, fd] (fpComplete (endOf s.fcsr dst (fromFixed dst (operand32 s 0 .w fs).toInt)) (fun t v => setFp t dst fd v) s)

/-- A conversion of a doubleword integer; MIPS-64 level, FR = 1 (R761, R762, R760). -/
def longToFp (dst : Fmt) (fs fd : RegNum) (s : State) : Out :=
  needCu1 s (need64Arith s (needLong s
    (fpComplete (endOf s.fcsr dst (fromFixed dst (operand64 s 0 .l fs).toInt)) (fun t v => setFp t dst fd v) s)))

/-- A conversion to a word integer in a rounding mode (R763, R765 to R769). -/
def fpToWord (src : Fmt) (mode : BitVec 2) (fs fd : RegNum) (s : State) : Out :=
  let a := fpOperand s src 0 fs
  fpPre s [fs, fd] (fpComplete (checked s.fcsr src [a] (toFixed s.fcsr src a 32 mode))
    (fun t v => setFpr32 t fd (low32 v) .w) s)

/-- A conversion to a doubleword integer in a rounding mode; MIPS-64 level, FR = 1 (R764, R765, R770 to R773). -/
def fpToLong (src : Fmt) (mode : BitVec 2) (fs fd : RegNum) (s : State) : Out :=
  let a := fpOperand s src 0 fs
  needCu1 s (need64Arith s (needLong s (fpComplete (checked s.fcsr src [a] (toFixed s.fcsr src a 64 mode))
    (fun t v => setFpr64 t fd v .l) s)))

/-- A compare: FCSR.Cause is cleared and the condition code written, or the compare traps (R780). -/
def fpCompare (f : Fmt) (cond : BitVec 4) (ft fs : RegNum) (cc : BitVec 3) (s : State) : Out :=
  fpPre s [ft, fs] (match compareEnd s.fcsr f cond (fpOperand s f 0 fs) (fpOperand s f 1 ft) with
    | .inl c => signalFpe c (spend 3 s)
    | .inr b => done { spend 3 s with fcsr := { s.fcsr with cause := 0, fcc := fccWith s.fcsr.fcc cc b } })

/-- CVT.S.D: to format S from format D (R761). -/
def execCvtSD (fs : RegNum) (fd : RegNum) (s : State) : Out :=
  fpToFp .d .s fs fd s

/-- CVT.S.W: to format S from a word integer (R761). -/
def execCvtSW (fs : RegNum) (fd : RegNum) (s : State) : Out :=
  wordToFp .s fs fd s

/-- CVT.S.L: to format S from a doubleword integer (R761). -/
def execCvtSL (fs : RegNum) (fd : RegNum) (s : State) : Out :=
  longToFp .s fs fd s

/-- CVT.W.S: to a word integer by FCSR.RM (R763). -/
def execCvtWS (fs : RegNum) (fd : RegNum) (s : State) : Out :=
  fpToWord .s s.fcsr.rm fs fd s

/-- CVT.L.S: to a doubleword integer by FCSR.RM (R764). -/
def execCvtLS (fs : RegNum) (fd : RegNum) (s : State) : Out :=
  fpToLong .s s.fcsr.rm fs fd s

/-- ROUND.W.S: to a word integer to nearest (R766). -/
def execRoundWS (fs : RegNum) (fd : RegNum) (s : State) : Out :=
  fpToWord .s 0 fs fd s

/-- ROUND.L.S: to a doubleword integer to nearest (R770). -/
def execRoundLS (fs : RegNum) (fd : RegNum) (s : State) : Out :=
  fpToLong .s 0 fs fd s

/-- TRUNC.W.S: to a word integer toward zero (R767). -/
def execTruncWS (fs : RegNum) (fd : RegNum) (s : State) : Out :=
  fpToWord .s 1 fs fd s

/-- TRUNC.L.S: to a doubleword integer toward zero (R771). -/
def execTruncLS (fs : RegNum) (fd : RegNum) (s : State) : Out :=
  fpToLong .s 1 fs fd s

/-- CEIL.W.S: to a word integer toward plus infinity (R768). -/
def execCeilWS (fs : RegNum) (fd : RegNum) (s : State) : Out :=
  fpToWord .s 2 fs fd s

/-- CEIL.L.S: to a doubleword integer toward plus infinity (R772). -/
def execCeilLS (fs : RegNum) (fd : RegNum) (s : State) : Out :=
  fpToLong .s 2 fs fd s

/-- FLOOR.W.S: to a word integer toward minus infinity (R769). -/
def execFloorWS (fs : RegNum) (fd : RegNum) (s : State) : Out :=
  fpToWord .s 3 fs fd s

/-- FLOOR.L.S: to a doubleword integer toward minus infinity (R773). -/
def execFloorLS (fs : RegNum) (fd : RegNum) (s : State) : Out :=
  fpToLong .s 3 fs fd s

/-- CVT.D.S: to format D from format S (R762). -/
def execCvtDS (fs : RegNum) (fd : RegNum) (s : State) : Out :=
  fpToFp .s .d fs fd s

/-- CVT.D.W: to format D from a word integer (R762). -/
def execCvtDW (fs : RegNum) (fd : RegNum) (s : State) : Out :=
  wordToFp .d fs fd s

/-- CVT.D.L: to format D from a doubleword integer (R762). -/
def execCvtDL (fs : RegNum) (fd : RegNum) (s : State) : Out :=
  longToFp .d fs fd s

/-- CVT.W.D: to a word integer by FCSR.RM (R763). -/
def execCvtWD (fs : RegNum) (fd : RegNum) (s : State) : Out :=
  fpToWord .d s.fcsr.rm fs fd s

/-- CVT.L.D: to a doubleword integer by FCSR.RM (R764). -/
def execCvtLD (fs : RegNum) (fd : RegNum) (s : State) : Out :=
  fpToLong .d s.fcsr.rm fs fd s

/-- ROUND.W.D: to a word integer to nearest (R766). -/
def execRoundWD (fs : RegNum) (fd : RegNum) (s : State) : Out :=
  fpToWord .d 0 fs fd s

/-- ROUND.L.D: to a doubleword integer to nearest (R770). -/
def execRoundLD (fs : RegNum) (fd : RegNum) (s : State) : Out :=
  fpToLong .d 0 fs fd s

/-- TRUNC.W.D: to a word integer toward zero (R767). -/
def execTruncWD (fs : RegNum) (fd : RegNum) (s : State) : Out :=
  fpToWord .d 1 fs fd s

/-- TRUNC.L.D: to a doubleword integer toward zero (R771). -/
def execTruncLD (fs : RegNum) (fd : RegNum) (s : State) : Out :=
  fpToLong .d 1 fs fd s

/-- CEIL.W.D: to a word integer toward plus infinity (R768). -/
def execCeilWD (fs : RegNum) (fd : RegNum) (s : State) : Out :=
  fpToWord .d 2 fs fd s

/-- CEIL.L.D: to a doubleword integer toward plus infinity (R772). -/
def execCeilLD (fs : RegNum) (fd : RegNum) (s : State) : Out :=
  fpToLong .d 2 fs fd s

/-- FLOOR.W.D: to a word integer toward minus infinity (R769). -/
def execFloorWD (fs : RegNum) (fd : RegNum) (s : State) : Out :=
  fpToWord .d 3 fs fd s

/-- FLOOR.L.D: to a doubleword integer toward minus infinity (R773). -/
def execFloorLD (fs : RegNum) (fd : RegNum) (s : State) : Out :=
  fpToLong .d 3 fs fd s

/-- C.F.S: compare, condition 0 (R780). -/
def execCFS (ft : RegNum) (fs : RegNum) (cc : BitVec 3) (s : State) : Out :=
  fpCompare .s 0 ft fs cc s

/-- C.F.D: compare, condition 0 (R780). -/
def execCFD (ft : RegNum) (fs : RegNum) (cc : BitVec 3) (s : State) : Out :=
  fpCompare .d 0 ft fs cc s

/-- C.UN.S: compare, condition 1 (R780). -/
def execCUnS (ft : RegNum) (fs : RegNum) (cc : BitVec 3) (s : State) : Out :=
  fpCompare .s 1 ft fs cc s

/-- C.UN.D: compare, condition 1 (R780). -/
def execCUnD (ft : RegNum) (fs : RegNum) (cc : BitVec 3) (s : State) : Out :=
  fpCompare .d 1 ft fs cc s

/-- C.EQ.S: compare, condition 2 (R780). -/
def execCEqS (ft : RegNum) (fs : RegNum) (cc : BitVec 3) (s : State) : Out :=
  fpCompare .s 2 ft fs cc s

/-- C.EQ.D: compare, condition 2 (R780). -/
def execCEqD (ft : RegNum) (fs : RegNum) (cc : BitVec 3) (s : State) : Out :=
  fpCompare .d 2 ft fs cc s

/-- C.UEQ.S: compare, condition 3 (R780). -/
def execCUeqS (ft : RegNum) (fs : RegNum) (cc : BitVec 3) (s : State) : Out :=
  fpCompare .s 3 ft fs cc s

/-- C.UEQ.D: compare, condition 3 (R780). -/
def execCUeqD (ft : RegNum) (fs : RegNum) (cc : BitVec 3) (s : State) : Out :=
  fpCompare .d 3 ft fs cc s

/-- C.OLT.S: compare, condition 4 (R780). -/
def execCOltS (ft : RegNum) (fs : RegNum) (cc : BitVec 3) (s : State) : Out :=
  fpCompare .s 4 ft fs cc s

/-- C.OLT.D: compare, condition 4 (R780). -/
def execCOltD (ft : RegNum) (fs : RegNum) (cc : BitVec 3) (s : State) : Out :=
  fpCompare .d 4 ft fs cc s

/-- C.ULT.S: compare, condition 5 (R780). -/
def execCUltS (ft : RegNum) (fs : RegNum) (cc : BitVec 3) (s : State) : Out :=
  fpCompare .s 5 ft fs cc s

/-- C.ULT.D: compare, condition 5 (R780). -/
def execCUltD (ft : RegNum) (fs : RegNum) (cc : BitVec 3) (s : State) : Out :=
  fpCompare .d 5 ft fs cc s

/-- C.OLE.S: compare, condition 6 (R780). -/
def execCOleS (ft : RegNum) (fs : RegNum) (cc : BitVec 3) (s : State) : Out :=
  fpCompare .s 6 ft fs cc s

/-- C.OLE.D: compare, condition 6 (R780). -/
def execCOleD (ft : RegNum) (fs : RegNum) (cc : BitVec 3) (s : State) : Out :=
  fpCompare .d 6 ft fs cc s

/-- C.ULE.S: compare, condition 7 (R780). -/
def execCUleS (ft : RegNum) (fs : RegNum) (cc : BitVec 3) (s : State) : Out :=
  fpCompare .s 7 ft fs cc s

/-- C.ULE.D: compare, condition 7 (R780). -/
def execCUleD (ft : RegNum) (fs : RegNum) (cc : BitVec 3) (s : State) : Out :=
  fpCompare .d 7 ft fs cc s

/-- C.SF.S: compare, condition 8 (R780). -/
def execCSfS (ft : RegNum) (fs : RegNum) (cc : BitVec 3) (s : State) : Out :=
  fpCompare .s 8 ft fs cc s

/-- C.SF.D: compare, condition 8 (R780). -/
def execCSfD (ft : RegNum) (fs : RegNum) (cc : BitVec 3) (s : State) : Out :=
  fpCompare .d 8 ft fs cc s

/-- C.NGLE.S: compare, condition 9 (R780). -/
def execCNgleS (ft : RegNum) (fs : RegNum) (cc : BitVec 3) (s : State) : Out :=
  fpCompare .s 9 ft fs cc s

/-- C.NGLE.D: compare, condition 9 (R780). -/
def execCNgleD (ft : RegNum) (fs : RegNum) (cc : BitVec 3) (s : State) : Out :=
  fpCompare .d 9 ft fs cc s

/-- C.SEQ.S: compare, condition 10 (R780). -/
def execCSeqS (ft : RegNum) (fs : RegNum) (cc : BitVec 3) (s : State) : Out :=
  fpCompare .s 10 ft fs cc s

/-- C.SEQ.D: compare, condition 10 (R780). -/
def execCSeqD (ft : RegNum) (fs : RegNum) (cc : BitVec 3) (s : State) : Out :=
  fpCompare .d 10 ft fs cc s

/-- C.NGL.S: compare, condition 11 (R780). -/
def execCNglS (ft : RegNum) (fs : RegNum) (cc : BitVec 3) (s : State) : Out :=
  fpCompare .s 11 ft fs cc s

/-- C.NGL.D: compare, condition 11 (R780). -/
def execCNglD (ft : RegNum) (fs : RegNum) (cc : BitVec 3) (s : State) : Out :=
  fpCompare .d 11 ft fs cc s

/-- C.LT.S: compare, condition 12 (R780). -/
def execCLtS (ft : RegNum) (fs : RegNum) (cc : BitVec 3) (s : State) : Out :=
  fpCompare .s 12 ft fs cc s

/-- C.LT.D: compare, condition 12 (R780). -/
def execCLtD (ft : RegNum) (fs : RegNum) (cc : BitVec 3) (s : State) : Out :=
  fpCompare .d 12 ft fs cc s

/-- C.NGE.S: compare, condition 13 (R780). -/
def execCNgeS (ft : RegNum) (fs : RegNum) (cc : BitVec 3) (s : State) : Out :=
  fpCompare .s 13 ft fs cc s

/-- C.NGE.D: compare, condition 13 (R780). -/
def execCNgeD (ft : RegNum) (fs : RegNum) (cc : BitVec 3) (s : State) : Out :=
  fpCompare .d 13 ft fs cc s

/-- C.LE.S: compare, condition 14 (R780). -/
def execCLeS (ft : RegNum) (fs : RegNum) (cc : BitVec 3) (s : State) : Out :=
  fpCompare .s 14 ft fs cc s

/-- C.LE.D: compare, condition 14 (R780). -/
def execCLeD (ft : RegNum) (fs : RegNum) (cc : BitVec 3) (s : State) : Out :=
  fpCompare .d 14 ft fs cc s

/-- C.NGT.S: compare, condition 15 (R780). -/
def execCNgtS (ft : RegNum) (fs : RegNum) (cc : BitVec 3) (s : State) : Out :=
  fpCompare .s 15 ft fs cc s

/-- C.NGT.D: compare, condition 15 (R780). -/
def execCNgtD (ft : RegNum) (fs : RegNum) (cc : BitVec 3) (s : State) : Out :=
  fpCompare .d 15 ft fs cc s

end Sys2Proof.Machine
end

