-- ==== Sys2Proof/Machine/FpMove.lean ====
section
/-! DEFINITION. The FPU loads, stores and moves (48_fpu_load_store_move.md R720 to R750). -/

namespace Sys2Proof.Machine

/-- A load of 32 bits into an FPU register (R725, R731). -/
def loadFpr32 (s : State) (va : Word) (ft : RegNum) : Out :=
  loadInto (.fpr ft false) (memRead s va 4) fun v t => setFpr32 t ft (low32 v) .raw

/-- A load of 64 bits, the result of a read, into an FPU register (R727, R729, R733). An odd number with FR = 0 stops before the
exceptions of the address are looked at; the rules do not say which comes first (DESIGN CHOICE, log 21). -/
def loadFpr64 (s : State) (r : Res Word) (ft : RegNum) : Out :=
  needFpr s ft (loadInto (.fpr ft true) r fun v t => setFpr64 t ft v .raw)

/-- A store of 32 bits of an FPU register (R726, R732). -/
def storeFpr32 (s : State) (va : Word) (ft : RegNum) : Out :=
  finish (memWrite s va 4 ((fpr32 s ft).setWidth 64))

/-- A store of 64 bits of an FPU register (R728, R734). -/
def storeFpr64 (s : State) (va : Word) (ft : RegNum) : Out := needFpr s ft (finish (memWrite s va 8 (fpr64 s ft)))

/-- The move of MOV.fmt and the conditional moves: the bits are copied, FCSR is not touched (R746, D40). -/
def moveFp (s : State) (f : Fmt) (fs fd : RegNum) : State := setFp (spend 3 s) f fd (fpOperand s f 0 fs)

/-- A conditional move of an FPU register: MOV.fmt, with its test of the register numbers, where the condition holds; else
nothing (R747 to R750). -/
def moveFpIf (s : State) (f : Fmt) (fs fd : RegNum) (c : Bool) : Out :=
  if c then fpPre s [fs, fd] (done (moveFp s f fs fd)) else needCu1 s (done s)

/-- What CFC1 reads (R744). -/
def fcrRead (s : State) (n : RegNum) : Option HalfWord :=
  match n with
  | 0 => some firWord
  | 25 => some (packFccr s.fcsr)
  | 26 => some (packFexr s.fcsr)
  | 28 => some (packFenr s.fcsr)
  | 31 => some (packFcsr s.fcsr)
  | _ => none

/-- FCSR after a CTC1, and whether the write can raise FPE (R745, 10_state.md R61). -/
def fcrWrite (s : State) (n : RegNum) (v : HalfWord) : Option (Fcsr × Bool) :=
  match n with
  | 0 => some (s.fcsr, false)
  | 25 => some (writeFccr s.fcsr v, false)
  | 26 => some (writeFexr s.fcsr v, true)
  | 28 => some (writeFenr s.fcsr v, true)
  | 31 => some (unpackFcsr v, true)
  | _ => none

/-- MTC1: a word to an FPU register (R721). -/
def execMtc1 (rt : RegNum) (fs : RegNum) (s : State) : Out :=
  needCu1 s (done (setFpr32 s fs (low32 (gprRead s rt)) .raw))

/-- MFC1: a word of an FPU register, sign-extended (R722). -/
def execMfc1 (rt : RegNum) (fs : RegNum) (s : State) : Out :=
  needCu1 s (done (gprWrite s rt (sext32 (fpr32 s fs))))

/-- DMTC1: a doubleword to an FPU register (R723). -/
def execDmtc1 (rt : RegNum) (fs : RegNum) (s : State) : Out :=
  needCu1 s (need64Move s (needFpr s fs (done (setFpr64 s fs (gprRead s rt) .raw))))

/-- DMFC1: a doubleword of an FPU register (R724). -/
def execDmfc1 (rt : RegNum) (fs : RegNum) (s : State) : Out :=
  needCu1 s (need64Move s (needFpr s fs (done (gprWrite s rt (fpr64 s fs)))))

/-- LWC1: load a word (R725). -/
def execLwc1 (base : RegNum) (ft : RegNum) (offset : BitVec 16) (s : State) : Out :=
  needCu1 s (loadFpr32 s (baseOffset s base offset) ft)

/-- SWC1: store a word (R726). -/
def execSwc1 (base : RegNum) (ft : RegNum) (offset : BitVec 16) (s : State) : Out :=
  needCu1 s (storeFpr32 s (baseOffset s base offset) ft)

/-- LDC1: load a doubleword (R727). -/
def execLdc1 (base : RegNum) (ft : RegNum) (offset : BitVec 16) (s : State) : Out :=
  needCu1 s (need64Move s (loadFpr64 s (memRead s (baseOffset s base offset) 8) ft))

/-- SDC1: store a doubleword (R728). -/
def execSdc1 (base : RegNum) (ft : RegNum) (offset : BitVec 16) (s : State) : Out :=
  needCu1 s (need64Move s (storeFpr64 s (baseOffset s base offset) ft))

/-- The address an exception of LUXC1 at `va` reports: the one before its low three bits are cleared, as 60_exceptions.md R824
says, or the aligned one, as R729 says: a free choice (DESIGN CHOICE, log 25). -/
def luxc1Reported (va : Word) : Word := if Config.luxc1ReportsAligned then alignDown8 va else va

/-- LUXC1: load a doubleword at an address aligned down (R729); what an exception reports is `luxc1Reported`. -/
def execLuxc1 (base : RegNum) (index : RegNum) (fd : RegNum) (s : State) : Out :=
  let va := baseIndex s base index
  needCu1 s (need64Move s (loadFpr64 s ((memRead s (alignDown8 va) 8).reporting (luxc1Reported va)) fd))

/-- SUXC1: store a doubleword at an address aligned down (R730); an exception reports the address before its low three bits are
cleared (60_exceptions.md R824; R730 names no other). -/
def execSuxc1 (base : RegNum) (index : RegNum) (fs : RegNum) (s : State) : Out :=
  let va := baseIndex s base index
  needCu1 s (need64Move s (needFpr s fs (finish ((memWrite s (alignDown8 va) 8 (fpr64 s fs)).reporting va))))

/-- LWXC1: load a word, indexed (R731). -/
def execLwxc1 (base : RegNum) (index : RegNum) (fd : RegNum) (s : State) : Out :=
  needCu1 s (need64Move s (loadFpr32 s (baseIndex s base index) fd))

/-- SWXC1: store a word, indexed (R732). -/
def execSwxc1 (base : RegNum) (index : RegNum) (fs : RegNum) (s : State) : Out :=
  needCu1 s (need64Move s (storeFpr32 s (baseIndex s base index) fs))

/-- LDXC1: load a doubleword, indexed (R733). -/
def execLdxc1 (base : RegNum) (index : RegNum) (fd : RegNum) (s : State) : Out :=
  needCu1 s (need64Move s (loadFpr64 s (memRead s (baseIndex s base index) 8) fd))

/-- SDXC1: store a doubleword, indexed (R734). -/
def execSdxc1 (base : RegNum) (index : RegNum) (fs : RegNum) (s : State) : Out :=
  needCu1 s (need64Move s (storeFpr64 s (baseIndex s base index) fs))

/-- CFC1: read an FPU control register (R744). -/
def execCfc1 (rt : RegNum) (fs : RegNum) (s : State) : Out :=
  needCu1 s (match fcrRead s fs with
    | some v => done (gprWrite s rt (sext32 v))
    | none => .fault .unknownFcr)

/-- CTC1: write an FPU control register; FPE if a Cause bit is set whose Enable is (R745). -/
def execCtc1 (rt : RegNum) (fs : RegNum) (s : State) : Out :=
  needCu1 s (match fcrWrite s fs (low32 (gprRead s rt)) with
    | some (f, check) => if check && fcsrTraps f then raise .fpe { s with fcsr := f } else done { s with fcsr := f }
    | none => .fault .unknownFcr)

/-- MOV.S: copy (R746). -/
def execMovS (fs : RegNum) (fd : RegNum) (s : State) : Out :=
  fpPre s [fs, fd] (done (moveFp s .s fs fd))

/-- MOVT.S: copy if an FPU condition is 1 (R747). -/
def execMovtS (cc : BitVec 3) (fs : RegNum) (fd : RegNum) (s : State) : Out :=
  moveFpIf s .s fs fd (fccBit s cc)

/-- MOVF.S: copy if an FPU condition is 0 (R748). -/
def execMovfS (cc : BitVec 3) (fs : RegNum) (fd : RegNum) (s : State) : Out :=
  moveFpIf s .s fs fd (!fccBit s cc)

/-- MOVN.S: copy if a general register is not zero (R749). -/
def execMovnS (rt : RegNum) (fs : RegNum) (fd : RegNum) (s : State) : Out :=
  moveFpIf s .s fs fd (gprRead s rt != 0)

/-- MOVZ.S: copy if a general register is zero (R750). -/
def execMovzS (rt : RegNum) (fs : RegNum) (fd : RegNum) (s : State) : Out :=
  moveFpIf s .s fs fd (gprRead s rt == 0)

/-- MOV.D: copy (R746). -/
def execMovD (fs : RegNum) (fd : RegNum) (s : State) : Out :=
  fpPre s [fs, fd] (done (moveFp s .d fs fd))

/-- MOVT.D: copy if an FPU condition is 1 (R747). -/
def execMovtD (cc : BitVec 3) (fs : RegNum) (fd : RegNum) (s : State) : Out :=
  moveFpIf s .d fs fd (fccBit s cc)

/-- MOVF.D: copy if an FPU condition is 0 (R748). -/
def execMovfD (cc : BitVec 3) (fs : RegNum) (fd : RegNum) (s : State) : Out :=
  moveFpIf s .d fs fd (!fccBit s cc)

/-- MOVN.D: copy if a general register is not zero (R749). -/
def execMovnD (rt : RegNum) (fs : RegNum) (fd : RegNum) (s : State) : Out :=
  moveFpIf s .d fs fd (gprRead s rt != 0)

/-- MOVZ.D: copy if a general register is zero (R750). -/
def execMovzD (rt : RegNum) (fs : RegNum) (fd : RegNum) (s : State) : Out :=
  moveFpIf s .d fs fd (gprRead s rt == 0)

end Sys2Proof.Machine
end

