-- ==== Sys2Proof/Machine/IntArith.lean ====
section
/-! DEFINITION. The integer arithmetic instructions (40_integer_arithmetic.md R400 to R433). A 32-bit operation reads the low
words of its operands; under WORD_OPERAND_STRICT a register that is no sign-extended word makes its result any value (R35,
R400, D27; log 23). -/

namespace Sys2Proof.Machine

/-- An instruction that ends by writing a general register. -/
def doneGpr (s : State) (rd : RegNum) (v : Word) : Out := done (gprWrite s rd v)

/-- A register holds a sign-extended word (R400). -/
def isWord (v : Word) : Bool := v == sext32 (low32 v)

/-- Under WORD_OPERAND_STRICT one of the source registers of a 32-bit operation holds no sign-extended word (R400, D27). -/
def strictMiss (s : State) (srcs : List RegNum) : Bool :=
  s.conf.wordOperandStrict && srcs.any fun r => !isWord (gprRead s r)

/-- A 32-bit operation on the registers `srcs` that ends by writing a general register: the value, or, where WORD_OPERAND_STRICT
asks for it, any value (R400; log 23). -/
def doneWord (s : State) (srcs : List RegNum) (rd : RegNum) (v : Word) : Out :=
  if strictMiss s srcs then doneGpr (spend 1 s) rd (freeWord s 0) else doneGpr s rd v

/-- The number of leading zeros of a bit vector (R406, R412). -/
def leadingZeros {n : Nat} (v : BitVec n) : Nat := n - (if v.toNat = 0 then 0 else v.toNat.log2 + 1)

/-- HI and LO after a 64-bit multiply, from the 128-bit product (R417). -/
def doneHiLo64 (s : State) (p : BitVec 128) : Out := done { s with hi := p.extractLsb' 64 64, lo := p.extractLsb' 0 64 }

/-- The 64-bit accumulator of the multiply-accumulate instructions (R421). -/
def accumulator (s : State) : Word := low32 s.hi ++ low32 s.lo

/-- The product of two 32-bit numbers in 64 bits, signed (R426). -/
def mulSigned32 (a b : HalfWord) : Word := a.signExtend 64 * b.signExtend 64

/-- The product of two 32-bit numbers in 64 bits, unsigned (R427). -/
def mulUnsigned32 (a b : HalfWord) : Word := a.setWidth 64 * b.setWidth 64

/-- HI and LO hold free values: a divide whose result is open (R415, D13), or a 32-bit operation under WORD_OPERAND_STRICT on a
register that is no sign-extended word (R400). -/
def doneHiLoFree (s : State) : Out := done { spend 2 s with hi := freeWord s 0, lo := freeWord s 1 }

/-- HI and LO after a 32-bit multiply or divide of the registers `srcs`; each gets a word, sign-extended (R415, R421, R426). -/
def doneHiLo32 (s : State) (srcs : List RegNum) (h l : HalfWord) : Out :=
  if strictMiss s srcs then doneHiLoFree s else done { s with hi := sext32 h, lo := sext32 l }

/-- HI and LO after a 32-bit multiply, from the 64-bit product or sum (R421, R426). -/
def doneProduct32 (s : State) (srcs : List RegNum) (p : Word) : Out := doneHiLo32 s srcs (p.extractLsb' 32 32) (low32 p)

/-- A signed divide is open: divisor 0, or the most negative number by -1 (R415, R413). -/
def divideOpen {n : Nat} (a b : BitVec n) : Bool := b == 0 || (a == BitVec.intMin n && b == BitVec.allOnes n)

/-- ADD: signed 32-bit sum, or Ov (R401). -/
def execAdd (rs : RegNum) (rt : RegNum) (rd : RegNum) (s : State) : Out :=
  if addOverflows (low32 (gprRead s rs)) (low32 (gprRead s rt)) then raise .ov s
  else doneWord s [rs, rt] rd (sext32 ((low32 (gprRead s rs)) + (low32 (gprRead s rt))))

/-- ADDI: signed 32-bit sum with the immediate, or Ov (R402). -/
def execAddi (rs : RegNum) (rt : RegNum) (imm : BitVec 16) (s : State) : Out :=
  let b := low32 (sext16 imm)
  if addOverflows (low32 (gprRead s rs)) b then raise .ov s
  else doneWord s [rs] rt (sext32 ((low32 (gprRead s rs)) + b))

/-- ADDIU: 32-bit sum with the immediate (R403). -/
def execAddiu (rs : RegNum) (rt : RegNum) (imm : BitVec 16) (s : State) : Out :=
  doneWord s [rs] rt (sext32 ((low32 (gprRead s rs)) + low32 (sext16 imm)))

/-- ADDU: 32-bit sum (R404). -/
def execAddu (rs : RegNum) (rt : RegNum) (rd : RegNum) (s : State) : Out :=
  doneWord s [rs, rt] rd (sext32 ((low32 (gprRead s rs)) + (low32 (gprRead s rt))))

/-- SUB: signed 32-bit difference, or Ov (R432). -/
def execSub (rs : RegNum) (rt : RegNum) (rd : RegNum) (s : State) : Out :=
  if subOverflows (low32 (gprRead s rs)) (low32 (gprRead s rt)) then raise .ov s
  else doneWord s [rs, rt] rd (sext32 ((low32 (gprRead s rs)) - (low32 (gprRead s rt))))

/-- SUBU: 32-bit difference (R433). -/
def execSubu (rs : RegNum) (rt : RegNum) (rd : RegNum) (s : State) : Out :=
  doneWord s [rs, rt] rd (sext32 ((low32 (gprRead s rs)) - (low32 (gprRead s rt))))

/-- DADD: signed 64-bit sum, or Ov (R407). -/
def execDadd (rs : RegNum) (rt : RegNum) (rd : RegNum) (s : State) : Out :=
  need64 s (if addOverflows (gprRead s rs) (gprRead s rt) then raise .ov s else doneGpr s rd ((gprRead s rs) + (gprRead s rt)))

/-- DADDI: signed 64-bit sum with the immediate, or Ov (R408). -/
def execDaddi (rs : RegNum) (rt : RegNum) (imm : BitVec 16) (s : State) : Out :=
  need64 s (if addOverflows (gprRead s rs) (sext16 imm) then raise .ov s else doneGpr s rt ((gprRead s rs) + sext16 imm))

/-- DADDIU: 64-bit sum with the immediate (R409). -/
def execDaddiu (rs : RegNum) (rt : RegNum) (imm : BitVec 16) (s : State) : Out :=
  need64 s (doneGpr s rt ((gprRead s rs) + sext16 imm))

/-- DADDU: 64-bit sum (R410). -/
def execDaddu (rs : RegNum) (rt : RegNum) (rd : RegNum) (s : State) : Out :=
  need64 s (doneGpr s rd ((gprRead s rs) + (gprRead s rt)))

/-- DSUB: signed 64-bit difference, or Ov (R419). -/
def execDsub (rs : RegNum) (rt : RegNum) (rd : RegNum) (s : State) : Out :=
  need64 s (if subOverflows (gprRead s rs) (gprRead s rt) then raise .ov s else doneGpr s rd ((gprRead s rs) - (gprRead s rt)))

/-- DSUBU: 64-bit difference (R420). -/
def execDsubu (rs : RegNum) (rt : RegNum) (rd : RegNum) (s : State) : Out :=
  need64 s (doneGpr s rd ((gprRead s rs) - (gprRead s rt)))

/-- CLO: leading ones of a word; the rt field is ignored (R405). -/
def execClo (rs : RegNum) (_rt : RegNum) (rd : RegNum) (s : State) : Out :=
  doneWord s [rs] rd (BitVec.ofNat 64 (leadingZeros (~~~(low32 (gprRead s rs)))))

/-- CLZ: leading zeros of a word; the rt field is ignored (R406). -/
def execClz (rs : RegNum) (_rt : RegNum) (rd : RegNum) (s : State) : Out :=
  doneWord s [rs] rd (BitVec.ofNat 64 (leadingZeros (low32 (gprRead s rs))))

/-- DCLO: leading ones of a doubleword (R411). -/
def execDclo (rs : RegNum) (_rt : RegNum) (rd : RegNum) (s : State) : Out :=
  need64 s (doneGpr s rd (BitVec.ofNat 64 (leadingZeros (~~~(gprRead s rs)))))

/-- DCLZ: leading zeros of a doubleword (R412). -/
def execDclz (rs : RegNum) (_rt : RegNum) (rd : RegNum) (s : State) : Out :=
  need64 s (doneGpr s rd (BitVec.ofNat 64 (leadingZeros (gprRead s rs))))

/-- MULT: signed 32-bit multiply (R426). -/
def execMult (rs : RegNum) (rt : RegNum) (s : State) : Out :=
  doneProduct32 s [rs, rt] (mulSigned32 (low32 (gprRead s rs)) (low32 (gprRead s rt)))

/-- MULTU: unsigned 32-bit multiply (R427). -/
def execMultu (rs : RegNum) (rt : RegNum) (s : State) : Out :=
  doneProduct32 s [rs, rt] (mulUnsigned32 (low32 (gprRead s rs)) (low32 (gprRead s rt)))

/-- DMULT: signed 64-bit multiply (R417). -/
def execDmult (rs : RegNum) (rt : RegNum) (s : State) : Out :=
  need64 s (doneHiLo64 s ((gprRead s rs).signExtend 128 * (gprRead s rt).signExtend 128))

/-- DMULTU: unsigned 64-bit multiply (R418). -/
def execDmultu (rs : RegNum) (rt : RegNum) (s : State) : Out :=
  need64 s (doneHiLo64 s ((gprRead s rs).setWidth 128 * (gprRead s rt).setWidth 128))

/-- MUL: signed 32-bit multiply to a general register; HI and LO become free values (R425). -/
def execMul (rs : RegNum) (rt : RegNum) (rd : RegNum) (s : State) : Out :=
  let v := sext32 (low32 (mulSigned32 (low32 (gprRead s rs)) (low32 (gprRead s rt))))
  doneWord { spend 2 s with hi := freeWord s 0, lo := freeWord s 1 } [rs, rt] rd v

/-- MADD: signed multiply and accumulate (R421). -/
def execMadd (rs : RegNum) (rt : RegNum) (s : State) : Out :=
  doneProduct32 s [rs, rt] (accumulator s + mulSigned32 (low32 (gprRead s rs)) (low32 (gprRead s rt)))

/-- MADDU: unsigned multiply and accumulate (R422). -/
def execMaddu (rs : RegNum) (rt : RegNum) (s : State) : Out :=
  doneProduct32 s [rs, rt] (accumulator s + mulUnsigned32 (low32 (gprRead s rs)) (low32 (gprRead s rt)))

/-- MSUB: signed multiply and subtract (R423). -/
def execMsub (rs : RegNum) (rt : RegNum) (s : State) : Out :=
  doneProduct32 s [rs, rt] (accumulator s - mulSigned32 (low32 (gprRead s rs)) (low32 (gprRead s rt)))

/-- MSUBU: unsigned multiply and subtract (R424). -/
def execMsubu (rs : RegNum) (rt : RegNum) (s : State) : Out :=
  doneProduct32 s [rs, rt] (accumulator s - mulUnsigned32 (low32 (gprRead s rs)) (low32 (gprRead s rt)))

/-- DIV: signed 32-bit divide (R415). -/
def execDiv (rs : RegNum) (rt : RegNum) (s : State) : Out :=
  let a := (low32 (gprRead s rs))
  let b := (low32 (gprRead s rt))
  if divideOpen a b then doneHiLoFree s
  else doneHiLo32 s [rs, rt] (a.srem b) (a.sdiv b)

/-- DIVU: unsigned 32-bit divide (R416). -/
def execDivu (rs : RegNum) (rt : RegNum) (s : State) : Out :=
  let a := (low32 (gprRead s rs))
  let b := (low32 (gprRead s rt))
  if b == 0 then doneHiLoFree s else doneHiLo32 s [rs, rt] (a % b) (a / b)

/-- DDIV: signed 64-bit divide (R413). -/
def execDdiv (rs : RegNum) (rt : RegNum) (s : State) : Out :=
  let a := (gprRead s rs)
  let b := (gprRead s rt)
  need64 s (if divideOpen a b then doneHiLoFree s else done { s with lo := a.sdiv b, hi := a.srem b })

/-- DDIVU: unsigned 64-bit divide (R414). -/
def execDdivu (rs : RegNum) (rt : RegNum) (s : State) : Out :=
  let a := (gprRead s rs)
  let b := (gprRead s rt)
  need64 s (if b == 0 then doneHiLoFree s else done { s with lo := a / b, hi := a % b })

/-- SLT: signed 64-bit less than (R428). -/
def execSlt (rs : RegNum) (rt : RegNum) (rd : RegNum) (s : State) : Out :=
  doneGpr s rd ((BitVec.ofBool ((gprRead s rs).slt (gprRead s rt))).setWidth 64)

/-- SLTI: signed less than the immediate (R429). -/
def execSlti (rs : RegNum) (rt : RegNum) (imm : BitVec 16) (s : State) : Out :=
  doneGpr s rt ((BitVec.ofBool ((gprRead s rs).slt (sext16 imm))).setWidth 64)

/-- SLTIU: unsigned less than the sign-extended immediate (R430). -/
def execSltiu (rs : RegNum) (rt : RegNum) (imm : BitVec 16) (s : State) : Out :=
  doneGpr s rt ((BitVec.ofBool ((gprRead s rs).ult (sext16 imm))).setWidth 64)

/-- SLTU: unsigned 64-bit less than (R431). -/
def execSltu (rs : RegNum) (rt : RegNum) (rd : RegNum) (s : State) : Out :=
  doneGpr s rd ((BitVec.ofBool ((gprRead s rs).ult (gprRead s rt))).setWidth 64)

end Sys2Proof.Machine
end

