-- ==== Sys2Proof/Machine/LoadStore.lean ====
section
/-! DEFINITION. The integer loads and stores, PREF, PREFX and SYNC (44_load_store.md R540 to R572). -/

namespace Sys2Proof.Machine

/-- A load of `n` bytes into a general register (R540). -/
def loadGpr (s : State) (base rt : RegNum) (offset : BitVec 16) (n : Nat) (extend : Word → Word) : Out :=
  loadInto (.gpr rt) (memRead s (baseOffset s base offset) n) fun v t => gprWrite t rt (extend v)

/-- A store of the low `n` bytes of a general register (R540). -/
def storeGpr (s : State) (base rt : RegNum) (offset : BitVec 16) (n : Nat) : Out :=
  finish (memWrite s (baseOffset s base offset) n (gprRead s rt))

/-- A load that also sets LLbit, unless it is answered with a bus error (R566, R567). -/
def loadLinked (s : State) (base rt : RegNum) (offset : BitVec 16) (n : Nat) (extend : Word → Word) : Out :=
  loadInto (.gpr rt) ((memRead s (baseOffset s base offset) n).bind fun v t => .ok v { t with llbit := true })
    fun v t => gprWrite t rt (extend v)

/-- What a store conditional that got past its translation leaves: the flag in rt, LLbit clear (R568). -/
def conditionalFlag (rt : RegNum) (flag : Bool) (t : State) : State :=
  { gprWrite t rt ((BitVec.ofBool flag).setWidth 64) with llbit := false }

/-- SC and SCD: the address is checked and translated whether or not LLbit is set. When the fill of the store is answered with a
bus error, neither rt nor LLbit nor memory changes (R568, R569). -/
def storeConditional (s : State) (base rt : RegNum) (offset : BitVec 16) (n : Nat) : Out :=
  let va := baseOffset s base offset
  match (checkAligned s va n .store).bind fun _ s0 => (translate s0 va .store).toRes s0 with
  | .ok (pa, cca) s1 =>
    if s1.llbit then
      match physWrite s1 pa n (gprRead s1 rt) cca with
      | .ok _ s2 => done (conditionalFlag rt true s2)
      | .trap e s2 => raise e s2
      | .busError _ => .next (lateBusError .none s1)
      | .stop f => .fault f
    else done (conditionalFlag rt false s1)
  | .trap e s1 => raise e s1
  | .busError s1 => .next (lateBusError .none s1)
  | .stop f => .fault f

/-- A partial-word load: the bytes `part` names, merged into rt (R549). -/
def loadPart (s : State) (base rt : RegNum) (offset : BitVec 16) (part : Bool → Word → Nat → Word × Nat) (w : Nat)
    (merge : Nat → Word → Word → Word) : Out :=
  let va := baseOffset s base offset
  let (addr, n) := part (dataBigEndian s) va w
  loadInto (.gpr rt) (memReadPart s va addr n) fun v t => gprWrite t rt (merge n v (gprRead s rt))

/-- A partial-word store: the bytes `part` names; `lower` is the register shifted so that they are its low bytes (R549). -/
def storePart (s : State) (base : RegNum) (offset : BitVec 16) (part : Bool → Word → Nat → Word × Nat) (w : Nat)
    (lower : Nat → Word) : Out :=
  let va := baseOffset s base offset
  let (addr, n) := part (dataBigEndian s) va w
  finish (memWritePart s va addr n (lower n))

/-- LB: load a byte, signed (R541). -/
def execLb (base : RegNum) (rt : RegNum) (offset : BitVec 16) (s : State) : Out :=
  loadGpr s base rt offset 1 fun v => (v.setWidth 8).signExtend 64

/-- LBU: load a byte, unsigned (R542). -/
def execLbu (base : RegNum) (rt : RegNum) (offset : BitVec 16) (s : State) : Out :=
  loadGpr s base rt offset 1 id

/-- LH: load a halfword, signed (R543). -/
def execLh (base : RegNum) (rt : RegNum) (offset : BitVec 16) (s : State) : Out :=
  loadGpr s base rt offset 2 fun v => (v.setWidth 16).signExtend 64

/-- LHU: load a halfword, unsigned (R544). -/
def execLhu (base : RegNum) (rt : RegNum) (offset : BitVec 16) (s : State) : Out :=
  loadGpr s base rt offset 2 id

/-- LW: load a word, signed (R545). -/
def execLw (base : RegNum) (rt : RegNum) (offset : BitVec 16) (s : State) : Out :=
  loadGpr s base rt offset 4 fun v => sext32 (low32 v)

/-- LWU: load a word, unsigned (R546). -/
def execLwu (base : RegNum) (rt : RegNum) (offset : BitVec 16) (s : State) : Out :=
  need64 s (loadGpr s base rt offset 4 id)

/-- LD: load a doubleword (R547). -/
def execLd (base : RegNum) (rt : RegNum) (offset : BitVec 16) (s : State) : Out :=
  need64 s (loadGpr s base rt offset 8 id)

/-- LWL: load the upper part of a word (R550). -/
def execLwl (base : RegNum) (rt : RegNum) (offset : BitVec 16) (s : State) : Out :=
  loadPart s base rt offset leftPart 4 fun n v old => sext32 (low32 (mergeLeft 4 n v old))

/-- LWR: load the lower part of a word; bit 31 always fills the upper half (D46) (R551). -/
def execLwr (base : RegNum) (rt : RegNum) (offset : BitVec 16) (s : State) : Out :=
  loadPart s base rt offset rightPart 4 fun n v old => sext32 (low32 (mergeRight n v old))

/-- LDL: load the upper part of a doubleword (R552). -/
def execLdl (base : RegNum) (rt : RegNum) (offset : BitVec 16) (s : State) : Out :=
  need64 s (loadPart s base rt offset leftPart 8 (mergeLeft 8))

/-- LDR: load the lower part of a doubleword (R553). -/
def execLdr (base : RegNum) (rt : RegNum) (offset : BitVec 16) (s : State) : Out :=
  need64 s (loadPart s base rt offset rightPart 8 mergeRight)

/-- SWL: store the upper part of a word (R554). -/
def execSwl (base : RegNum) (rt : RegNum) (offset : BitVec 16) (s : State) : Out :=
  storePart s base offset leftPart 4 fun n => (gprRead s rt).setWidth 32 >>> (32 - 8 * n) |>.setWidth 64

/-- SWR: store the lower part of a word (R555). -/
def execSwr (base : RegNum) (rt : RegNum) (offset : BitVec 16) (s : State) : Out :=
  storePart s base offset rightPart 4 fun _ => gprRead s rt

/-- SDL: store the upper part of a doubleword (R556). -/
def execSdl (base : RegNum) (rt : RegNum) (offset : BitVec 16) (s : State) : Out :=
  need64 s (storePart s base offset leftPart 8 fun n => gprRead s rt >>> (64 - 8 * n))

/-- SDR: store the lower part of a doubleword (R557). -/
def execSdr (base : RegNum) (rt : RegNum) (offset : BitVec 16) (s : State) : Out :=
  need64 s (storePart s base offset rightPart 8 fun _ => gprRead s rt)

/-- SB: store a byte (R558). -/
def execSb (base : RegNum) (rt : RegNum) (offset : BitVec 16) (s : State) : Out :=
  storeGpr s base rt offset 1

/-- SH: store a halfword (R559). -/
def execSh (base : RegNum) (rt : RegNum) (offset : BitVec 16) (s : State) : Out :=
  storeGpr s base rt offset 2

/-- SW: store a word (R560). -/
def execSw (base : RegNum) (rt : RegNum) (offset : BitVec 16) (s : State) : Out :=
  storeGpr s base rt offset 4

/-- SD: store a doubleword (R561). -/
def execSd (base : RegNum) (rt : RegNum) (offset : BitVec 16) (s : State) : Out :=
  need64 s (storeGpr s base rt offset 8)

/-- LL: load a word and set LLbit (R566). -/
def execLl (base : RegNum) (rt : RegNum) (offset : BitVec 16) (s : State) : Out :=
  loadLinked s base rt offset 4 fun v => sext32 (low32 v)

/-- LLD: load a doubleword and set LLbit (R567). -/
def execLld (base : RegNum) (rt : RegNum) (offset : BitVec 16) (s : State) : Out :=
  need64 s (loadLinked s base rt offset 8 id)

/-- SC: store a word if LLbit is set (R568). -/
def execSc (base : RegNum) (rt : RegNum) (offset : BitVec 16) (s : State) : Out :=
  storeConditional s base rt offset 4

/-- SCD: store a doubleword if LLbit is set (R569). -/
def execScd (base : RegNum) (rt : RegNum) (offset : BitVec 16) (s : State) : Out :=
  need64 s (storeConditional s base rt offset 8)

/-- PREF: nothing, whatever the hint and the address (R570). -/
def execPref (_base : RegNum) (_hint : BitVec 5) (_offset : BitVec 16) (s : State) : Out :=
  done s

/-- PREFX: nothing but the coprocessor 1 test (R571). -/
def execPrefx (_base : RegNum) (_index : RegNum) (_hint : BitVec 5) (s : State) : Out :=
  needCu1 s (done s)

/-- SYNC: the write buffer is drained (R572). -/
def execSync (_stype : BitVec 5) (s : State) : Out :=
  done (noteSync (drainAll s))

end Sys2Proof.Machine
end

