-- ==== Sys2Proof/Machine/Logic.lean ====
section
/-! DEFINITION. The logic and move instructions (41_logic_and_move.md R450 to R467). -/

namespace Sys2Proof.Machine

/-- AND: 64-bit AND (R451). -/
def execAnd (rs : RegNum) (rt : RegNum) (rd : RegNum) (s : State) : Out :=
  doneGpr s rd ((gprRead s rs) &&& (gprRead s rt))

/-- ANDI: 64-bit AND with the zero-extended immediate (R452). -/
def execAndi (rs : RegNum) (rt : RegNum) (imm : BitVec 16) (s : State) : Out :=
  doneGpr s rt ((gprRead s rs) &&& zext16 imm)

/-- OR: 64-bit OR (R453). -/
def execOr (rs : RegNum) (rt : RegNum) (rd : RegNum) (s : State) : Out :=
  doneGpr s rd ((gprRead s rs) ||| (gprRead s rt))

/-- ORI: 64-bit OR with the zero-extended immediate (R454). -/
def execOri (rs : RegNum) (rt : RegNum) (imm : BitVec 16) (s : State) : Out :=
  doneGpr s rt ((gprRead s rs) ||| zext16 imm)

/-- XOR: 64-bit XOR (R455). -/
def execXor (rs : RegNum) (rt : RegNum) (rd : RegNum) (s : State) : Out :=
  doneGpr s rd ((gprRead s rs) ^^^ (gprRead s rt))

/-- XORI: 64-bit XOR with the zero-extended immediate (R456). -/
def execXori (rs : RegNum) (rt : RegNum) (imm : BitVec 16) (s : State) : Out :=
  doneGpr s rt ((gprRead s rs) ^^^ zext16 imm)

/-- NOR: 64-bit NOR (R457). -/
def execNor (rs : RegNum) (rt : RegNum) (rd : RegNum) (s : State) : Out :=
  doneGpr s rd (~~~((gprRead s rs) ||| (gprRead s rt)))

/-- LUI: the immediate in the upper half of a word (R458). -/
def execLui (rt : RegNum) (imm : BitVec 16) (s : State) : Out :=
  doneGpr s rt ((imm ++ (0 : BitVec 16)).signExtend 64)

/-- MFHI: HI to a register (R460). -/
def execMfhi (rd : RegNum) (s : State) : Out :=
  doneGpr s rd s.hi

/-- MFLO: LO to a register (R461). -/
def execMflo (rd : RegNum) (s : State) : Out :=
  doneGpr s rd s.lo

/-- MTHI: a register to HI (R462). -/
def execMthi (rs : RegNum) (s : State) : Out :=
  done { s with hi := gprRead s rs }

/-- MTLO: a register to LO (R463). -/
def execMtlo (rs : RegNum) (s : State) : Out :=
  done { s with lo := gprRead s rs }

/-- MOVN: move if not zero (R464). -/
def execMovn (rs : RegNum) (rt : RegNum) (rd : RegNum) (s : State) : Out :=
  if (gprRead s rt) != 0 then doneGpr s rd (gprRead s rs) else done s

/-- MOVZ: move if zero (R465). -/
def execMovz (rs : RegNum) (rt : RegNum) (rd : RegNum) (s : State) : Out :=
  if (gprRead s rt) == 0 then doneGpr s rd (gprRead s rs) else done s

/-- MOVT: move if an FPU condition is 1 (R466). -/
def execMovt (rs : RegNum) (cc : BitVec 3) (rd : RegNum) (s : State) : Out :=
  needCu1 s (if fccBit s cc then doneGpr s rd (gprRead s rs) else done s)

/-- MOVF: move if an FPU condition is 0 (R467). -/
def execMovf (rs : RegNum) (cc : BitVec 3) (rd : RegNum) (s : State) : Out :=
  needCu1 s (if fccBit s cc then done s else doneGpr s rd (gprRead s rs))

end Sys2Proof.Machine
end

