-- ==== Sys2Proof/Machine/Shift.lean ====
section
/-! DEFINITION. The shift instructions (42_shift.md R480 to R495). -/

namespace Sys2Proof.Machine

/-- SLL: 32-bit shift left (R481). -/
def execSll (rt : RegNum) (rd : RegNum) (sa : BitVec 5) (s : State) : Out :=
  doneWord s [rt] rd (sext32 ((low32 (gprRead s rt)) <<< sa.toNat))

/-- SLLV: 32-bit shift left by a register (R484). -/
def execSllv (rs : RegNum) (rt : RegNum) (rd : RegNum) (s : State) : Out :=
  doneWord s [rt] rd (sext32 ((low32 (gprRead s rt)) <<< (shiftCount5 (gprRead s rs))))

/-- DSLL: 64-bit shift left by 0 to 31 (R487). -/
def execDsll (rt : RegNum) (rd : RegNum) (sa : BitVec 5) (s : State) : Out :=
  need64 s (doneGpr s rd ((gprRead s rt) <<< sa.toNat))

/-- DSLLV: 64-bit shift left by a register (R490). -/
def execDsllv (rs : RegNum) (rt : RegNum) (rd : RegNum) (s : State) : Out :=
  need64 s (doneGpr s rd ((gprRead s rt) <<< (shiftCount6 (gprRead s rs))))

/-- DSLL32: 64-bit shift left by 32 to 63 (R493). -/
def execDsll32 (rt : RegNum) (rd : RegNum) (sa : BitVec 5) (s : State) : Out :=
  need64 s (doneGpr s rd ((gprRead s rt) <<< (sa.toNat + 32)))

/-- SRL: 32-bit logical shift right (R482). -/
def execSrl (rt : RegNum) (rd : RegNum) (sa : BitVec 5) (s : State) : Out :=
  doneWord s [rt] rd (sext32 ((low32 (gprRead s rt)) >>> sa.toNat))

/-- SRLV: 32-bit logical shift right by a register (R485). -/
def execSrlv (rs : RegNum) (rt : RegNum) (rd : RegNum) (s : State) : Out :=
  doneWord s [rt] rd (sext32 ((low32 (gprRead s rt)) >>> (shiftCount5 (gprRead s rs))))

/-- DSRL: 64-bit logical shift right by 0 to 31 (R488). -/
def execDsrl (rt : RegNum) (rd : RegNum) (sa : BitVec 5) (s : State) : Out :=
  need64 s (doneGpr s rd ((gprRead s rt) >>> sa.toNat))

/-- DSRLV: 64-bit logical shift right by a register (R491). -/
def execDsrlv (rs : RegNum) (rt : RegNum) (rd : RegNum) (s : State) : Out :=
  need64 s (doneGpr s rd ((gprRead s rt) >>> (shiftCount6 (gprRead s rs))))

/-- DSRL32: 64-bit logical shift right by 32 to 63 (R494). -/
def execDsrl32 (rt : RegNum) (rd : RegNum) (sa : BitVec 5) (s : State) : Out :=
  need64 s (doneGpr s rd ((gprRead s rt) >>> (sa.toNat + 32)))

/-- SRA: 32-bit arithmetic shift right (R483). -/
def execSra (rt : RegNum) (rd : RegNum) (sa : BitVec 5) (s : State) : Out :=
  doneWord s [rt] rd (sext32 ((low32 (gprRead s rt)).sshiftRight sa.toNat))

/-- SRAV: 32-bit arithmetic shift right by a register (R486). -/
def execSrav (rs : RegNum) (rt : RegNum) (rd : RegNum) (s : State) : Out :=
  doneWord s [rt] rd (sext32 ((low32 (gprRead s rt)).sshiftRight (shiftCount5 (gprRead s rs))))

/-- DSRA: 64-bit arithmetic shift right by 0 to 31 (R489). -/
def execDsra (rt : RegNum) (rd : RegNum) (sa : BitVec 5) (s : State) : Out :=
  need64 s (doneGpr s rd ((gprRead s rt).sshiftRight sa.toNat))

/-- DSRAV: 64-bit arithmetic shift right by a register (R492). -/
def execDsrav (rs : RegNum) (rt : RegNum) (rd : RegNum) (s : State) : Out :=
  need64 s (doneGpr s rd ((gprRead s rt).sshiftRight (shiftCount6 (gprRead s rs))))

/-- DSRA32: 64-bit arithmetic shift right by 32 to 63 (R495). -/
def execDsra32 (rt : RegNum) (rd : RegNum) (sa : BitVec 5) (s : State) : Out :=
  need64 s (doneGpr s rd ((gprRead s rt).sshiftRight (sa.toNat + 32)))

end Sys2Proof.Machine
end

