-- ==== Sys2Proof/Machine/Cp0Regs.lean ====
section
/-! DEFINITION. The CP0 registers as MFC0, MTC0, DMFC0 and DMTC0 see them: their numbers and widths (10_state.md R71), what a
read gives (R74 to R125) and what a write does (46_cp0.md R615). -/

namespace Sys2Proof.Machine

/-- The CP0 registers by name (10_state.md R71). `absent` is every number and select the chip does not have (R125). -/
inductive Cp0Name where
  | index
  | random
  | entryLo0
  | entryLo1
  | context
  | pageMask
  | wired
  | badVAddr
  | count
  | entryHi
  | compare
  | status
  | cause
  | epc
  | prid
  | config0
  | config1
  | xcontext
  | ejtag
  | perfCtl0
  | perfCnt0
  | perfCtl1
  | perfCnt1
  | errCtl
  | tagLo
  | dataLo
  | tagHi
  | dataHi
  | errorEpc
  | absent
deriving DecidableEq, Repr

/-- The register of a number at select 0 (R71). -/
def cp0NameSel0 (rd : RegNum) : Cp0Name :=
  match rd with
  | 0 => .index
  | 1 => .random
  | 2 => .entryLo0
  | 3 => .entryLo1
  | 4 => .context
  | 5 => .pageMask
  | 6 => .wired
  | 8 => .badVAddr
  | 9 => .count
  | 10 => .entryHi
  | 11 => .compare
  | 12 => .status
  | 13 => .cause
  | 14 => .epc
  | 15 => .prid
  | 16 => .config0
  | 20 => .xcontext
  | 23 => .ejtag
  | 24 => .ejtag
  | 25 => .perfCtl0
  | 26 => .errCtl
  | 28 => .tagLo
  | 29 => .tagHi
  | 30 => .errorEpc
  | 31 => .ejtag
  | _ => .absent

/-- The register of a number and a select (R71, R113). -/
def cp0Name (rd : RegNum) (sel : BitVec 3) : Cp0Name :=
  if sel = 0 then cp0NameSel0 rd
  else if rd = 16 && sel == 1 then .config1
  else if rd = 25 && sel == 1 then .perfCnt0
  else if rd = 25 && sel == 2 then .perfCtl1
  else if rd = 25 && sel == 3 then .perfCnt1
  else if rd = 28 && sel == 1 then .dataLo
  else if rd = 29 && sel == 1 then .dataHi
  else .absent

/-- The registers a read gives 64 bits of: those of 64 bits (R71), and the ones the chip does not have, which read 0 (R125,
D34). -/
def Cp0Name.wide : Cp0Name → Bool
  | .entryLo0 | .entryLo1 | .context | .badVAddr | .entryHi | .epc | .xcontext | .dataLo | .errorEpc | .absent => true
  | _ => false

/-- PrID, constant (R104). -/
def pridWord : HalfWord := 0x12348101

/-- Config1, constant (R110). -/
def config1Word : HalfWord := 0x5E633193

/-- EntryLo0 or EntryLo1 as a register (R76). -/
def packEntryLo (e : EntryLo) : HalfWord :=
  place 6 e.pfn ||| place 3 e.c ||| placeBit 2 e.d ||| placeBit 1 e.v ||| placeBit 0 e.g

/-- A write of EntryLo0 or EntryLo1 (R76). -/
def unpackEntryLo (v : HalfWord) : EntryLo where
  pfn := v.extractLsb' 6 24
  c := v.extractLsb' 3 3
  d := v.getLsbD 2
  v := v.getLsbD 1
  g := v.getLsbD 0

/-- Status as a register; TIP stands at STATUS_TIP_BIT (R84). -/
def packStatus (s : State) : HalfWord :=
  let t := s.cp0.status
  placeBit 29 t.cu1 ||| placeBit 28 t.cu0 ||| placeBit 27 t.rp ||| placeBit 26 t.fr ||| placeBit 25 t.re
    ||| placeBit 23 t.px ||| placeBit 22 t.bev ||| placeBit 21 t.ts ||| placeBit 20 t.sr ||| placeBit 19 t.nmi
    ||| placeBit s.conf.statusTipBit s.timerRequest ||| place 8 t.im ||| placeBit 7 t.kx ||| placeBit 6 t.sx
    ||| placeBit 5 t.ux ||| place 3 t.ksu ||| placeBit 2 t.erl ||| placeBit 1 t.exl ||| placeBit 0 t.ie

/-- A write of Status: CU3, CU2, MX, SR and TIP are read-only (46_cp0.md R615). -/
def unpackStatus (old : Status) (v : HalfWord) : Status :=
  { old with
    cu1 := v.getLsbD 29
    cu0 := v.getLsbD 28
    rp := v.getLsbD 27
    fr := v.getLsbD 26
    re := v.getLsbD 25
    px := v.getLsbD 23
    bev := v.getLsbD 22
    ts := v.getLsbD 21
    nmi := v.getLsbD 19
    im := v.extractLsb' 8 8
    kx := v.getLsbD 7
    sx := v.getLsbD 6
    ux := v.getLsbD 5
    ksu := v.extractLsb' 3 2
    erl := v.getLsbD 2
    exl := v.getLsbD 1
    ie := v.getLsbD 0 }

/-- Cause as a register (R98, R101). -/
def packCause (s : State) : HalfWord :=
  let c := s.cp0.cause
  placeBit 31 c.bd ||| place 28 c.ce ||| placeBit 23 c.iv ||| place 8 (causeIp s) ||| place 2 c.excCode

/-- Config0 as a register: the MIPS64 positions of the architecture fields, the named positions of the others (R105 to
R107). -/
def packConfig0 (s : State) : HalfWord :=
  let c := s.cp0.config0
  let l := s.conf.config0
  placeBit 31 true ||| placeBit 15 s.latches.bigEndian ||| place 13 (2 : BitVec 2) ||| place 7 (1 : BitVec 3)
    ||| place 0 c.k0 ||| placeBit l.te c.te ||| place l.wp c.wp ||| placeBit l.bw s.latches.bus32 ||| place l.adp c.adp
    ||| placeBit l.isd c.isd ||| placeBit l.bbl c.bbl ||| placeBit l.tr c.tr ||| placeBit l.did c.did ||| placeBit l.bm true

/-- A write of Config0: K0, TE, WP, ADP, ISD, BBL, TR, DID (46_cp0.md R615). -/
def unpackConfig0 (l : Config0Layout) (v : HalfWord) : Config0 where
  te := v.getLsbD l.te
  wp := v.extractLsb' l.wp 2
  adp := v.extractLsb' l.adp 2
  isd := v.getLsbD l.isd
  bbl := v.getLsbD l.bbl
  tr := v.getLsbD l.tr
  did := v.getLsbD l.did
  k0 := v.extractLsb' 0 3

/-- A performance counter control register; `more` is M (R114). -/
def packPerfCtl (p : PerfCtl) (more : Bool) : HalfWord :=
  placeBit 31 more ||| place 5 p.event ||| placeBit 4 p.ie ||| placeBit 3 p.u ||| placeBit 2 p.s ||| placeBit 1 p.k
    ||| placeBit 0 p.exl

/-- A write of a performance counter control register (R114). -/
def unpackPerfCtl (v : HalfWord) : PerfCtl where
  event := v.extractLsb' 5 4
  ie := v.getLsbD 4
  u := v.getLsbD 3
  s := v.getLsbD 2
  k := v.getLsbD 1
  exl := v.getLsbD 0

/-- ErrCtl as a register; VG and WSE stand at the positions of ERRCTL_LAYOUT (R117). -/
def packErrCtl (s : State) : HalfWord :=
  let e := s.cp0.errCtl
  placeBit s.conf.errCtlVg e.vg ||| placeBit s.conf.errCtlWse e.wse ||| placeBit 2 e.dmh ||| placeBit 1 e.imh
    ||| placeBit 0 e.wst

/-- A write of ErrCtl (R117, 46_cp0.md R615). -/
def unpackErrCtl (c : Params) (v : HalfWord) : ErrCtl where
  vg := v.getLsbD c.errCtlVg
  dmh := v.getLsbD 2
  imh := v.getLsbD 1
  wst := v.getLsbD 0
  wse := v.getLsbD c.errCtlWse

/-- `CP0Read`: the register as 64 bits, a 32-bit register in the low half (46_cp0.md R611, R613). -/
def cp0Read (s : State) (n : Cp0Name) : Word :=
  let c := s.cp0
  match n with
  | .index => (placeBit 31 c.index.p ||| place 0 c.index.index).setWidth 64
  | .random => c.random.setWidth 64
  | .entryLo0 => (packEntryLo c.entryLo0).setWidth 64
  | .entryLo1 => (packEntryLo c.entryLo1).setWidth 64
  | .context => c.context.pteBase ++ c.context.badVpn2 ++ (0 : BitVec 4)
  | .pageMask => (place 13 c.pageMask).setWidth 64
  | .wired => c.wired.setWidth 64
  | .badVAddr => c.badVAddr
  | .count => c.count.setWidth 64
  | .entryHi => c.entryHi.r ++ (0 : BitVec 22) ++ c.entryHi.vpn2 ++ (0 : BitVec 5) ++ c.entryHi.asid
  | .compare => c.compare.setWidth 64
  | .status => (packStatus s).setWidth 64
  | .cause => (packCause s).setWidth 64
  | .epc => c.epc
  | .prid => pridWord.setWidth 64
  | .config0 => (packConfig0 s).setWidth 64
  | .config1 => config1Word.setWidth 64
  | .xcontext => c.xcontext.pteBase ++ c.xcontext.r ++ c.xcontext.badVpn2 ++ (0 : BitVec 4)
  | .ejtag => 0
  | .perfCtl0 => (packPerfCtl c.perfCtl0 true).setWidth 64
  | .perfCnt0 => c.perfCnt0.setWidth 64
  | .perfCtl1 => (packPerfCtl c.perfCtl1 false).setWidth 64
  | .perfCnt1 => c.perfCnt1.setWidth 64
  | .errCtl => (packErrCtl s).setWidth 64
  | .tagLo => c.tagLo.setWidth 64
  | .dataLo => c.dataLo
  | .tagHi => 0
  | .dataHi => (c.dataLo.extractLsb' 32 32).setWidth 64
  | .errorEpc => c.errorEpc
  | .absent => 0

/-- The timer request after a write that may make Count and Compare equal: then it is a free value, else as given
(60_exceptions.md R851, U19). -/
def timerAfterWrite (s : State) (request : Bool) : State :=
  if s.cp0.count == s.cp0.compare then spend 1 { s with timerRequest := (freeWord s 0).getLsbD 0 }
  else { s with timerRequest := request }

/-- Every hidden valid bit of the TLB is cleared (10_state.md R108, R131). -/
def clearTlb (s : State) : State := { s with tlb := s.tlb.map fun e => { e with valid := false } }

/-- The FPU registers after a change of Status.FR: nothing may be said of them (10_state.md R48). -/
def freeFprs (s : State) : State :=
  { spend 32 s with fpr := Vector.ofFn fun i => freeWord s i.val, fprFormat := Vector.replicate 32 .raw }

/-- `CP0Write`: what a write of a register changes (46_cp0.md R615). `v` is the 64-bit source; a 32-bit register takes its low
half. -/
def cp0Write (s : State) (n : Cp0Name) (v : Word) : State :=
  let c := s.cp0
  let w := low32 v
  match n with
  | .index => { s with cp0 := { c with index := { c.index with index := w.extractLsb' 0 6 } } }
  | .random => s
  | .entryLo0 => { s with cp0 := { c with entryLo0 := unpackEntryLo w } }
  | .entryLo1 => { s with cp0 := { c with entryLo1 := unpackEntryLo w } }
  | .context => { s with cp0 := { c with context := { c.context with pteBase := v.extractLsb' 23 41 } } }
  | .pageMask => { s with cp0 := { c with pageMask := w.extractLsb' 13 12 } }
  | .wired => { s with cp0 := { c with wired := w.extractLsb' 0 6, random := 47 } }
  | .badVAddr => s
  | .count => timerAfterWrite { s with cp0 := { c with count := w } } s.timerRequest
  | .entryHi =>
    { s with cp0 := { c with entryHi :=
        { r := v.extractLsb' 62 2, vpn2 := v.extractLsb' 13 27, asid := v.extractLsb' 0 8 } } }
  | .compare => timerAfterWrite { s with cp0 := { c with compare := w } } false
  | .status =>
    let s1 := { s with cp0 := { c with status := unpackStatus c.status w } }
    if w.getLsbD 26 != c.status.fr then freeFprs s1 else s1
  | .cause =>
    { s with cp0 := { c with cause := { c.cause with iv := w.getLsbD 23, ip := w.extractLsb' 8 2 } } }
  | .epc => { s with cp0 := { c with epc := v } }
  | .prid => s
  | .config0 =>
    let k := unpackConfig0 s.conf.config0 w
    let s1 := { s with cp0 := { c with config0 := k } }
    if k.tr then clearTlb s1 else s1
  | .config1 => s
  | .xcontext => { s with cp0 := { c with xcontext := { c.xcontext with pteBase := v.extractLsb' 33 31 } } }
  | .ejtag => s
  | .perfCtl0 => { s with cp0 := { c with perfCtl0 := unpackPerfCtl w } }
  | .perfCnt0 => { s with cp0 := { c with perfCnt0 := w } }
  | .perfCtl1 => { s with cp0 := { c with perfCtl1 := unpackPerfCtl w } }
  | .perfCnt1 => { s with cp0 := { c with perfCnt1 := w } }
  | .errCtl => { s with cp0 := { c with errCtl := unpackErrCtl s.conf w } }
  | .tagLo => { s with cp0 := { c with tagLo := w.extractLsb' 0 26 } }
  | .dataLo => { s with cp0 := { c with dataLo := v } }
  | .tagHi => s
  | .dataHi => { s with cp0 := { c with dataLo := w ++ low32 c.dataLo } }
  | .errorEpc => { s with cp0 := { c with errorEpc := v } }
  | .absent => s

/-- The instruction at `pc` runs in kseg0 and the write changes Config0.K0 (10_state.md R109, U9). -/
def changesK0InKseg0 (s : State) (n : Cp0Name) (v : Word) : Bool :=
  n == .config0 && segmentOf s.pc == .ckseg0 && v.extractLsb' 0 3 != s.cp0.config0.k0

/-- The end of MTC0 and DMTC0: the registers of EJTAG are refused; Status.RP = 1 puts the processor to sleep (46_cp0.md
R615). -/
def writeCp0 (s : State) (rd : RegNum) (sel : BitVec 3) (v : Word) : Out :=
  let n := cp0Name rd sel
  if n == .ejtag then .refused .ejtag
  else if changesK0InKseg0 s n v then .fault .k0ChangedInKseg0
  else
    let s1 := cp0Write s n v
    if n == .status && s1.cp0.status.rp then .next (enterSleep s1) else done s1

end Sys2Proof.Machine
end

