-- ==== Sys2Proof/Machine/System.lean ====
section
/-! DEFINITION. The CP0 register moves, the TLB instructions, ERET, WAIT, DERET and SDBBP (46_cp0.md R610 to R629). -/

namespace Sys2Proof.Machine

/-- The entry TLBWI and TLBWR write (R625). -/
def entryToWrite (s : State) : TlbEntry :=
  let c := s.cp0
  { mask := c.pageMask
    r := c.entryHi.r
    vpn2 := c.entryHi.vpn2
    g := c.entryLo0.g && c.entryLo1.g
    asid := c.entryHi.asid
    even := { pfn := c.entryLo0.pfn, c := c.entryLo0.c, d := c.entryLo0.d, v := c.entryLo0.v }
    odd := { pfn := c.entryLo1.pfn, c := c.entryLo1.c, d := c.entryLo1.d, v := c.entryLo1.v }
    valid := true }

/-- Two entries can match one address: the overlap test of the multiple-match check (R625). -/
def TlbEntry.overlaps (n e : TlbEntry) : Bool :=
  e.valid && n.r == e.r && maskVpn2 n.vpn2 (n.mask ||| e.mask) == maskVpn2 e.vpn2 (n.mask ||| e.mask)
    && (n.g || e.g || n.asid == e.asid)

/-- The entry to be written overlaps another valid entry (R625). -/
def tlbConflict (s : State) (i : Fin 48) : Bool :=
  (List.finRange 48).any fun j => j != i && (entryToWrite s).overlaps s.tlb[j]

/-- An entry of which the spec says nothing (R625, D49; R621, D32): free values. -/
def freeEntry (s : State) : TlbEntry :=
  let a := freeWord s 0
  let b := freeWord s 1
  { mask := a.extractLsb' 0 12
    r := a.extractLsb' 12 2
    vpn2 := a.extractLsb' 14 27
    g := a.getLsbD 41
    asid := a.extractLsb' 42 8
    even := { pfn := b.extractLsb' 0 24, c := b.extractLsb' 24 3, d := b.getLsbD 27, v := b.getLsbD 28 }
    odd := { pfn := b.extractLsb' 32 24, c := b.extractLsb' 56 3, d := b.getLsbD 59, v := b.getLsbD 60 }
    valid := a.getLsbD 50 }

/-- Replace an entry of the TLB. -/
def setTlb (s : State) (i : Fin 48) (e : TlbEntry) : State := { s with tlb := s.tlb.set i e }

/-- `TLBWrite(i)` (R625): MCheck with a free entry on a multiple match; else the entry is written and `k` goes on. -/
def tlbWrite (s : State) (i : Fin 48) (k : State → State) : Out :=
  if tlbConflict s i then raise .mcheck (spend 2 (setTlb s i (freeEntry s)))
  else done (k (setTlb s i (entryToWrite s)))

/-- The registers TLBR loads from an entry (R621). -/
def loadEntry (s : State) (e : TlbEntry) : State :=
  let c := s.cp0
  { s with cp0 := { c with
    pageMask := e.mask
    entryHi := { r := e.r, vpn2 := e.vpn2, asid := e.asid }
    entryLo0 := { pfn := e.even.pfn, c := e.even.c, d := e.even.d, v := e.even.v, g := e.g }
    entryLo1 := { pfn := e.odd.pfn, c := e.odd.c, d := e.odd.d, v := e.odd.v, g := e.g }
    errCtl := { c.errCtl with vg := e.valid } } }

/-- The TLB instructions stop while Config0.TR = 1 (R620, U8). -/
def needTlb (s : State) (k : Out) : Out := if s.cp0.config0.tr then .fault .tlbHeldInReset else k

/-- The entry TLBWR writes: the unknown function of Random and Wired, kept in Wired..47 (R623, D41). -/
def randomEntry (random wired : BitVec 6) : BitVec 6 :=
  let i := Config.randomMap random wired
  if wired ≤ i ∧ i ≤ 47 then i else wired

/-- Random after a TLBWR (R623). -/
def stepRandom (s : State) : State :=
  let c := s.cp0
  { s with cp0 := { c with random := if c.random == c.wired then 47 else c.random - 1 } }

/-- The end of TLBP by the entries that match EntryHi (R624). -/
def probeEnd (s : State) (m : List (Fin 48)) : Out :=
  match m with
  | [] =>
    let s1 := spend 1 s
    done { s1 with cp0 := { s.cp0 with index := { p := true, index := (freeWord s 0).extractLsb' 0 6 } } }
  | [i] => done { s with cp0 := { s.cp0 with index := { p := false, index := BitVec.ofNat 6 i.val } } }
  | _ => raise .mcheck s

/-- MFC0: the low word of a CP0 register, sign-extended; the registers of EJTAG are refused (R611). -/
def execMfc0 (rt : RegNum) (rd : RegNum) (sel : BitVec 3) (s : State) : Out :=
  needCp0 s (
    let n := cp0Name rd sel
    if n == .ejtag then .refused .ejtag else done (gprWrite s rt (sext32 (low32 (cp0Read s n)))))

/-- DMFC0: a CP0 register; the upper half of a 32-bit register is a free value (D31) (R613). -/
def execDmfc0 (rt : RegNum) (rd : RegNum) (sel : BitVec 3) (s : State) : Out :=
  needCp0 s (need64 s (
    let n := cp0Name rd sel
    if n == .ejtag then .refused .ejtag
    else if n.wide then done (gprWrite s rt (cp0Read s n))
    else done (gprWrite (spend 1 s) rt ((freeWord s 0).extractLsb' 32 32 ++ low32 (cp0Read s n)))))

/-- MTC0: write a CP0 register, a 64-bit register whole (D10) (R612). -/
def execMtc0 (rt : RegNum) (rd : RegNum) (sel : BitVec 3) (s : State) : Out :=
  needCp0 s (writeCp0 s rd sel (gprRead s rt))

/-- DMTC0: write a CP0 register, a 32-bit register from the low word (D31) (R614). -/
def execDmtc0 (rt : RegNum) (rd : RegNum) (sel : BitVec 3) (s : State) : Out :=
  needCp0 s (need64 s (writeCp0 s rd sel (gprRead s rt)))

/-- TLBR: read the entry Index names; a free entry above 47 (D32) (R621). -/
def execTlbr (s : State) : Out :=
  needCp0 s (needTlb s (
    if h : s.cp0.index.index.toNat < 48 then done (loadEntry s (s.tlb[s.cp0.index.index.toNat]'h))
    else done (loadEntry (spend 2 s) (freeEntry s))))

/-- TLBWI: write the entry Index names (R622). -/
def execTlbwi (s : State) : Out :=
  needCp0 s (needTlb s (
    if h : s.cp0.index.index.toNat < 48 then tlbWrite s ⟨s.cp0.index.index.toNat, h⟩ id else .fault .indexAbove47))

/-- TLBWR: write the entry the unknown function of Random names (R623). -/
def execTlbwr (s : State) : Out :=
  needCp0 s (needTlb s (
    if s.cp0.wired.toNat < 48 then tlbWrite s (Fin.ofNat 48 (randomEntry s.cp0.random s.cp0.wired).toNat) stepRandom
    else .fault .wiredAbove47))

/-- TLBP: search the TLB for EntryHi (R624). -/
def execTlbp (s : State) : Out :=
  needCp0 s (needTlb s (
    if illegalMaskPresent s then .fault .illegalPageMask
    else probeEnd s (tlbMatches s s.cp0.entryHi.r s.cp0.entryHi.vpn2)))

/-- ERET: return from an exception (R626). -/
def execEret (s : State) : Out :=
  needCp0 s (needNoSlot s (.next (returnFromException s)))

/-- WAIT: sleep until an external interrupt (R627). -/
def execWait (_code : BitVec 19) (s : State) : Out :=
  needCp0 s (.next (enterSleep s))

/-- DERET: after the CP0 test refused: the EJTAG document is not in the spec (D14) (R628). -/
def execDeret (s : State) : Out :=
  needCp0 s (needNoSlot s (.refused .ejtag))

/-- SDBBP: refused: the EJTAG document is not in the spec (D14) (R629). -/
def execSdbbp (_code : BitVec 20) (_s : State) : Out :=
  .refused .ejtag

end Sys2Proof.Machine
end

