-- ==== Sys2Proof/Machine/Trap.lean ====
section
/-! DEFINITION. SYSCALL, BREAK and the traps (45_trap.md R590 to R604). The code fields are ignored (D38). -/

namespace Sys2Proof.Machine

/-- A trap whose condition holds raises Tr (R590). -/
def trapIf (s : State) (c : Bool) : Out := if c then raise .tr s else done s

/-- SYSCALL: the Sys exception (R591). -/
def execSyscall (_code : BitVec 20) (s : State) : Out :=
  raise .sys s

/-- BREAK: the Bp exception (R592). -/
def execBreakpoint (_code : BitVec 20) (s : State) : Out :=
  raise .bp s

/-- TGE: trap if greater or equal (R593). -/
def execTge (rs : RegNum) (rt : RegNum) (_code : BitVec 10) (s : State) : Out :=
  trapIf s (!(gprRead s rs).slt (gprRead s rt))

/-- TGEU: trap if greater or equal, unsigned (R594). -/
def execTgeu (rs : RegNum) (rt : RegNum) (_code : BitVec 10) (s : State) : Out :=
  trapIf s (!(gprRead s rs).ult (gprRead s rt))

/-- TLT: trap if less (R595). -/
def execTlt (rs : RegNum) (rt : RegNum) (_code : BitVec 10) (s : State) : Out :=
  trapIf s ((gprRead s rs).slt (gprRead s rt))

/-- TLTU: trap if less, unsigned (R596). -/
def execTltu (rs : RegNum) (rt : RegNum) (_code : BitVec 10) (s : State) : Out :=
  trapIf s ((gprRead s rs).ult (gprRead s rt))

/-- TEQ: trap if equal (R597). -/
def execTeq (rs : RegNum) (rt : RegNum) (_code : BitVec 10) (s : State) : Out :=
  trapIf s ((gprRead s rs) == (gprRead s rt))

/-- TNE: trap if not equal (R598). -/
def execTne (rs : RegNum) (rt : RegNum) (_code : BitVec 10) (s : State) : Out :=
  trapIf s ((gprRead s rs) != (gprRead s rt))

/-- TGEI: trap if greater or equal, with the sign-extended immediate (R599). -/
def execTgei (rs : RegNum) (imm : BitVec 16) (s : State) : Out :=
  trapIf s (!(gprRead s rs).slt (sext16 imm))

/-- TGEIU: trap if greater or equal, unsigned, with the sign-extended immediate (R600). -/
def execTgeiu (rs : RegNum) (imm : BitVec 16) (s : State) : Out :=
  trapIf s (!(gprRead s rs).ult (sext16 imm))

/-- TLTI: trap if less, with the sign-extended immediate (R601). -/
def execTlti (rs : RegNum) (imm : BitVec 16) (s : State) : Out :=
  trapIf s ((gprRead s rs).slt (sext16 imm))

/-- TLTIU: trap if less, unsigned, with the sign-extended immediate (R602). -/
def execTltiu (rs : RegNum) (imm : BitVec 16) (s : State) : Out :=
  trapIf s ((gprRead s rs).ult (sext16 imm))

/-- TEQI: trap if equal, with the sign-extended immediate (R603). -/
def execTeqi (rs : RegNum) (imm : BitVec 16) (s : State) : Out :=
  trapIf s ((gprRead s rs) == (sext16 imm))

/-- TNEI: trap if not equal, with the sign-extended immediate (R604). -/
def execTnei (rs : RegNum) (imm : BitVec 16) (s : State) : Out :=
  trapIf s ((gprRead s rs) != (sext16 imm))

end Sys2Proof.Machine
end

