-- ==== Sys2Proof/Syntax.lean ====
section
/-! DEFINITION. The instructions: one constructor for each row of spec/opcode_table.json, with the fields of the row in the
order of the encoding, most significant first (30_encoding.md R301 to R313). The rows without fields stand last. -/

namespace Sys2Proof

/-- The instructions of the 1890VM3T. The mnemonic of each constructor stands in its docstring, with the rule that gives
its meaning; BREAK is `breakpoint`. -/
inductive Instr where
  /-- ADD (R401). -/
  | add (rs : BitVec 5) (rt : BitVec 5) (rd : BitVec 5)
  /-- ADDI (R402). -/
  | addi (rs : BitVec 5) (rt : BitVec 5) (imm : BitVec 16)
  /-- ADDIU (R403). -/
  | addiu (rs : BitVec 5) (rt : BitVec 5) (imm : BitVec 16)
  /-- ADDU (R404). -/
  | addu (rs : BitVec 5) (rt : BitVec 5) (rd : BitVec 5)
  /-- CLO (R405). -/
  | clo (rs : BitVec 5) (rt : BitVec 5) (rd : BitVec 5)
  /-- CLZ (R406). -/
  | clz (rs : BitVec 5) (rt : BitVec 5) (rd : BitVec 5)
  /-- DADD (R407). -/
  | dadd (rs : BitVec 5) (rt : BitVec 5) (rd : BitVec 5)
  /-- DADDI (R408). -/
  | daddi (rs : BitVec 5) (rt : BitVec 5) (imm : BitVec 16)
  /-- DADDIU (R409). -/
  | daddiu (rs : BitVec 5) (rt : BitVec 5) (imm : BitVec 16)
  /-- DADDU (R410). -/
  | daddu (rs : BitVec 5) (rt : BitVec 5) (rd : BitVec 5)
  /-- DCLO (R411). -/
  | dclo (rs : BitVec 5) (rt : BitVec 5) (rd : BitVec 5)
  /-- DCLZ (R412). -/
  | dclz (rs : BitVec 5) (rt : BitVec 5) (rd : BitVec 5)
  /-- DDIV (R413). -/
  | ddiv (rs : BitVec 5) (rt : BitVec 5)
  /-- DDIVU (R414). -/
  | ddivu (rs : BitVec 5) (rt : BitVec 5)
  /-- DIV (R415). -/
  | div (rs : BitVec 5) (rt : BitVec 5)
  /-- DIVU (R416). -/
  | divu (rs : BitVec 5) (rt : BitVec 5)
  /-- DMULT (R417). -/
  | dmult (rs : BitVec 5) (rt : BitVec 5)
  /-- DMULTU (R418). -/
  | dmultu (rs : BitVec 5) (rt : BitVec 5)
  /-- DSUB (R419). -/
  | dsub (rs : BitVec 5) (rt : BitVec 5) (rd : BitVec 5)
  /-- DSUBU (R420). -/
  | dsubu (rs : BitVec 5) (rt : BitVec 5) (rd : BitVec 5)
  /-- MADD (R421). -/
  | madd (rs : BitVec 5) (rt : BitVec 5)
  /-- MADDU (R422). -/
  | maddu (rs : BitVec 5) (rt : BitVec 5)
  /-- MSUB (R423). -/
  | msub (rs : BitVec 5) (rt : BitVec 5)
  /-- MSUBU (R424). -/
  | msubu (rs : BitVec 5) (rt : BitVec 5)
  /-- MUL (R425). -/
  | mul (rs : BitVec 5) (rt : BitVec 5) (rd : BitVec 5)
  /-- MULT (R426). -/
  | mult (rs : BitVec 5) (rt : BitVec 5)
  /-- MULTU (R427). -/
  | multu (rs : BitVec 5) (rt : BitVec 5)
  /-- SLT (R428). -/
  | slt (rs : BitVec 5) (rt : BitVec 5) (rd : BitVec 5)
  /-- SLTI (R429). -/
  | slti (rs : BitVec 5) (rt : BitVec 5) (imm : BitVec 16)
  /-- SLTIU (R430). -/
  | sltiu (rs : BitVec 5) (rt : BitVec 5) (imm : BitVec 16)
  /-- SLTU (R431). -/
  | sltu (rs : BitVec 5) (rt : BitVec 5) (rd : BitVec 5)
  /-- SUB (R432). -/
  | sub (rs : BitVec 5) (rt : BitVec 5) (rd : BitVec 5)
  /-- SUBU (R433). -/
  | subu (rs : BitVec 5) (rt : BitVec 5) (rd : BitVec 5)
  /-- AND (R451). -/
  | and (rs : BitVec 5) (rt : BitVec 5) (rd : BitVec 5)
  /-- ANDI (R452). -/
  | andi (rs : BitVec 5) (rt : BitVec 5) (imm : BitVec 16)
  /-- OR (R453). -/
  | or (rs : BitVec 5) (rt : BitVec 5) (rd : BitVec 5)
  /-- ORI (R454). -/
  | ori (rs : BitVec 5) (rt : BitVec 5) (imm : BitVec 16)
  /-- XOR (R455). -/
  | xor (rs : BitVec 5) (rt : BitVec 5) (rd : BitVec 5)
  /-- XORI (R456). -/
  | xori (rs : BitVec 5) (rt : BitVec 5) (imm : BitVec 16)
  /-- NOR (R457). -/
  | nor (rs : BitVec 5) (rt : BitVec 5) (rd : BitVec 5)
  /-- LUI (R458). -/
  | lui (rt : BitVec 5) (imm : BitVec 16)
  /-- MFHI (R460). -/
  | mfhi (rd : BitVec 5)
  /-- MFLO (R461). -/
  | mflo (rd : BitVec 5)
  /-- MTHI (R462). -/
  | mthi (rs : BitVec 5)
  /-- MTLO (R463). -/
  | mtlo (rs : BitVec 5)
  /-- MOVN (R464). -/
  | movn (rs : BitVec 5) (rt : BitVec 5) (rd : BitVec 5)
  /-- MOVZ (R465). -/
  | movz (rs : BitVec 5) (rt : BitVec 5) (rd : BitVec 5)
  /-- MOVT (R466). -/
  | movt (rs : BitVec 5) (cc : BitVec 3) (rd : BitVec 5)
  /-- MOVF (R467). -/
  | movf (rs : BitVec 5) (cc : BitVec 3) (rd : BitVec 5)
  /-- SLL (R481). -/
  | sll (rt : BitVec 5) (rd : BitVec 5) (sa : BitVec 5)
  /-- SRL (R482). -/
  | srl (rt : BitVec 5) (rd : BitVec 5) (sa : BitVec 5)
  /-- SRA (R483). -/
  | sra (rt : BitVec 5) (rd : BitVec 5) (sa : BitVec 5)
  /-- SLLV (R484). -/
  | sllv (rs : BitVec 5) (rt : BitVec 5) (rd : BitVec 5)
  /-- SRLV (R485). -/
  | srlv (rs : BitVec 5) (rt : BitVec 5) (rd : BitVec 5)
  /-- SRAV (R486). -/
  | srav (rs : BitVec 5) (rt : BitVec 5) (rd : BitVec 5)
  /-- DSLL (R487). -/
  | dsll (rt : BitVec 5) (rd : BitVec 5) (sa : BitVec 5)
  /-- DSRL (R488). -/
  | dsrl (rt : BitVec 5) (rd : BitVec 5) (sa : BitVec 5)
  /-- DSRA (R489). -/
  | dsra (rt : BitVec 5) (rd : BitVec 5) (sa : BitVec 5)
  /-- DSLLV (R490). -/
  | dsllv (rs : BitVec 5) (rt : BitVec 5) (rd : BitVec 5)
  /-- DSRLV (R491). -/
  | dsrlv (rs : BitVec 5) (rt : BitVec 5) (rd : BitVec 5)
  /-- DSRAV (R492). -/
  | dsrav (rs : BitVec 5) (rt : BitVec 5) (rd : BitVec 5)
  /-- DSLL32 (R493). -/
  | dsll32 (rt : BitVec 5) (rd : BitVec 5) (sa : BitVec 5)
  /-- DSRL32 (R494). -/
  | dsrl32 (rt : BitVec 5) (rd : BitVec 5) (sa : BitVec 5)
  /-- DSRA32 (R495). -/
  | dsra32 (rt : BitVec 5) (rd : BitVec 5) (sa : BitVec 5)
  /-- J (R505). -/
  | j (target : BitVec 26)
  /-- JAL (R506). -/
  | jal (target : BitVec 26)
  /-- JR (R507). -/
  | jr (rs : BitVec 5) (hint : BitVec 5)
  /-- JALR (R508). -/
  | jalr (rs : BitVec 5) (rd : BitVec 5) (hint : BitVec 5)
  /-- BEQ (R509). -/
  | beq (rs : BitVec 5) (rt : BitVec 5) (offset : BitVec 16)
  /-- BNE (R510). -/
  | bne (rs : BitVec 5) (rt : BitVec 5) (offset : BitVec 16)
  /-- BLEZ (R511). -/
  | blez (rs : BitVec 5) (offset : BitVec 16)
  /-- BGTZ (R512). -/
  | bgtz (rs : BitVec 5) (offset : BitVec 16)
  /-- BLTZ (R513). -/
  | bltz (rs : BitVec 5) (offset : BitVec 16)
  /-- BGEZ (R514). -/
  | bgez (rs : BitVec 5) (offset : BitVec 16)
  /-- BLTZAL (R515). -/
  | bltzal (rs : BitVec 5) (offset : BitVec 16)
  /-- BGEZAL (R516). -/
  | bgezal (rs : BitVec 5) (offset : BitVec 16)
  /-- BEQL (R517). -/
  | beql (rs : BitVec 5) (rt : BitVec 5) (offset : BitVec 16)
  /-- BNEL (R518). -/
  | bnel (rs : BitVec 5) (rt : BitVec 5) (offset : BitVec 16)
  /-- BLEZL (R519). -/
  | blezl (rs : BitVec 5) (offset : BitVec 16)
  /-- BGTZL (R520). -/
  | bgtzl (rs : BitVec 5) (offset : BitVec 16)
  /-- BLTZL (R521). -/
  | bltzl (rs : BitVec 5) (offset : BitVec 16)
  /-- BGEZL (R522). -/
  | bgezl (rs : BitVec 5) (offset : BitVec 16)
  /-- BLTZALL (R523). -/
  | bltzall (rs : BitVec 5) (offset : BitVec 16)
  /-- BGEZALL (R524). -/
  | bgezall (rs : BitVec 5) (offset : BitVec 16)
  /-- LB (R541). -/
  | lb (base : BitVec 5) (rt : BitVec 5) (offset : BitVec 16)
  /-- LBU (R542). -/
  | lbu (base : BitVec 5) (rt : BitVec 5) (offset : BitVec 16)
  /-- LH (R543). -/
  | lh (base : BitVec 5) (rt : BitVec 5) (offset : BitVec 16)
  /-- LHU (R544). -/
  | lhu (base : BitVec 5) (rt : BitVec 5) (offset : BitVec 16)
  /-- LW (R545). -/
  | lw (base : BitVec 5) (rt : BitVec 5) (offset : BitVec 16)
  /-- LWU (R546). -/
  | lwu (base : BitVec 5) (rt : BitVec 5) (offset : BitVec 16)
  /-- LD (R547). -/
  | ld (base : BitVec 5) (rt : BitVec 5) (offset : BitVec 16)
  /-- LWL (R550). -/
  | lwl (base : BitVec 5) (rt : BitVec 5) (offset : BitVec 16)
  /-- LWR (R551). -/
  | lwr (base : BitVec 5) (rt : BitVec 5) (offset : BitVec 16)
  /-- LDL (R552). -/
  | ldl (base : BitVec 5) (rt : BitVec 5) (offset : BitVec 16)
  /-- LDR (R553). -/
  | ldr (base : BitVec 5) (rt : BitVec 5) (offset : BitVec 16)
  /-- SWL (R554). -/
  | swl (base : BitVec 5) (rt : BitVec 5) (offset : BitVec 16)
  /-- SWR (R555). -/
  | swr (base : BitVec 5) (rt : BitVec 5) (offset : BitVec 16)
  /-- SDL (R556). -/
  | sdl (base : BitVec 5) (rt : BitVec 5) (offset : BitVec 16)
  /-- SDR (R557). -/
  | sdr (base : BitVec 5) (rt : BitVec 5) (offset : BitVec 16)
  /-- SB (R558). -/
  | sb (base : BitVec 5) (rt : BitVec 5) (offset : BitVec 16)
  /-- SH (R559). -/
  | sh (base : BitVec 5) (rt : BitVec 5) (offset : BitVec 16)
  /-- SW (R560). -/
  | sw (base : BitVec 5) (rt : BitVec 5) (offset : BitVec 16)
  /-- SD (R561). -/
  | sd (base : BitVec 5) (rt : BitVec 5) (offset : BitVec 16)
  /-- LL (R566). -/
  | ll (base : BitVec 5) (rt : BitVec 5) (offset : BitVec 16)
  /-- LLD (R567). -/
  | lld (base : BitVec 5) (rt : BitVec 5) (offset : BitVec 16)
  /-- SC (R568). -/
  | sc (base : BitVec 5) (rt : BitVec 5) (offset : BitVec 16)
  /-- SCD (R569). -/
  | scd (base : BitVec 5) (rt : BitVec 5) (offset : BitVec 16)
  /-- PREF (R570). -/
  | pref (base : BitVec 5) (hint : BitVec 5) (offset : BitVec 16)
  /-- PREFX (R571). -/
  | prefx (base : BitVec 5) (index : BitVec 5) (hint : BitVec 5)
  /-- SYNC (R572). -/
  | sync (stype : BitVec 5)
  /-- SYSCALL (R591). -/
  | syscall (code : BitVec 20)
  /-- BREAK (R592). -/
  | breakpoint (code : BitVec 20)
  /-- TGE (R593). -/
  | tge (rs : BitVec 5) (rt : BitVec 5) (code : BitVec 10)
  /-- TGEU (R594). -/
  | tgeu (rs : BitVec 5) (rt : BitVec 5) (code : BitVec 10)
  /-- TLT (R595). -/
  | tlt (rs : BitVec 5) (rt : BitVec 5) (code : BitVec 10)
  /-- TLTU (R596). -/
  | tltu (rs : BitVec 5) (rt : BitVec 5) (code : BitVec 10)
  /-- TEQ (R597). -/
  | teq (rs : BitVec 5) (rt : BitVec 5) (code : BitVec 10)
  /-- TNE (R598). -/
  | tne (rs : BitVec 5) (rt : BitVec 5) (code : BitVec 10)
  /-- TGEI (R599). -/
  | tgei (rs : BitVec 5) (imm : BitVec 16)
  /-- TGEIU (R600). -/
  | tgeiu (rs : BitVec 5) (imm : BitVec 16)
  /-- TLTI (R601). -/
  | tlti (rs : BitVec 5) (imm : BitVec 16)
  /-- TLTIU (R602). -/
  | tltiu (rs : BitVec 5) (imm : BitVec 16)
  /-- TEQI (R603). -/
  | teqi (rs : BitVec 5) (imm : BitVec 16)
  /-- TNEI (R604). -/
  | tnei (rs : BitVec 5) (imm : BitVec 16)
  /-- MFC0 (R611). -/
  | mfc0 (rt : BitVec 5) (rd : BitVec 5) (sel : BitVec 3)
  /-- MTC0 (R612). -/
  | mtc0 (rt : BitVec 5) (rd : BitVec 5) (sel : BitVec 3)
  /-- DMFC0 (R613). -/
  | dmfc0 (rt : BitVec 5) (rd : BitVec 5) (sel : BitVec 3)
  /-- DMTC0 (R614). -/
  | dmtc0 (rt : BitVec 5) (rd : BitVec 5) (sel : BitVec 3)
  /-- WAIT (R627). -/
  | wait (code : BitVec 19)
  /-- SDBBP (R629). -/
  | sdbbp (code : BitVec 20)
  /-- CACHE (R630). -/
  | cache (base : BitVec 5) (op : BitVec 5) (offset : BitVec 16)
  /-- ADD.S (R680). -/
  | addS (ft : BitVec 5) (fs : BitVec 5) (fd : BitVec 5)
  /-- ADD.D (R680). -/
  | addD (ft : BitVec 5) (fs : BitVec 5) (fd : BitVec 5)
  /-- SUB.S (R681). -/
  | subS (ft : BitVec 5) (fs : BitVec 5) (fd : BitVec 5)
  /-- SUB.D (R681). -/
  | subD (ft : BitVec 5) (fs : BitVec 5) (fd : BitVec 5)
  /-- MUL.S (R682). -/
  | mulS (ft : BitVec 5) (fs : BitVec 5) (fd : BitVec 5)
  /-- MUL.D (R682). -/
  | mulD (ft : BitVec 5) (fs : BitVec 5) (fd : BitVec 5)
  /-- DIV.S (R683). -/
  | divS (ft : BitVec 5) (fs : BitVec 5) (fd : BitVec 5)
  /-- DIV.D (R683). -/
  | divD (ft : BitVec 5) (fs : BitVec 5) (fd : BitVec 5)
  /-- ABS.S (R684). -/
  | absS (fs : BitVec 5) (fd : BitVec 5)
  /-- ABS.D (R684). -/
  | absD (fs : BitVec 5) (fd : BitVec 5)
  /-- NEG.S (R685). -/
  | negS (fs : BitVec 5) (fd : BitVec 5)
  /-- NEG.D (R685). -/
  | negD (fs : BitVec 5) (fd : BitVec 5)
  /-- SQRT.S (R686). -/
  | sqrtS (fs : BitVec 5) (fd : BitVec 5)
  /-- SQRT.D (R686). -/
  | sqrtD (fs : BitVec 5) (fd : BitVec 5)
  /-- MADD.S (R687). -/
  | maddS (fr : BitVec 5) (ft : BitVec 5) (fs : BitVec 5) (fd : BitVec 5)
  /-- MADD.D (R687). -/
  | maddD (fr : BitVec 5) (ft : BitVec 5) (fs : BitVec 5) (fd : BitVec 5)
  /-- MSUB.S (R688). -/
  | msubS (fr : BitVec 5) (ft : BitVec 5) (fs : BitVec 5) (fd : BitVec 5)
  /-- MSUB.D (R688). -/
  | msubD (fr : BitVec 5) (ft : BitVec 5) (fs : BitVec 5) (fd : BitVec 5)
  /-- NMADD.S (R689). -/
  | nmaddS (fr : BitVec 5) (ft : BitVec 5) (fs : BitVec 5) (fd : BitVec 5)
  /-- NMADD.D (R689). -/
  | nmaddD (fr : BitVec 5) (ft : BitVec 5) (fs : BitVec 5) (fd : BitVec 5)
  /-- NMSUB.S (R690). -/
  | nmsubS (fr : BitVec 5) (ft : BitVec 5) (fs : BitVec 5) (fd : BitVec 5)
  /-- NMSUB.D (R690). -/
  | nmsubD (fr : BitVec 5) (ft : BitVec 5) (fs : BitVec 5) (fd : BitVec 5)
  /-- RECIP.S (R691). -/
  | recipS (fs : BitVec 5) (fd : BitVec 5)
  /-- RECIP.D (R691). -/
  | recipD (fs : BitVec 5) (fd : BitVec 5)
  /-- MTC1 (R721). -/
  | mtc1 (rt : BitVec 5) (fs : BitVec 5)
  /-- MFC1 (R722). -/
  | mfc1 (rt : BitVec 5) (fs : BitVec 5)
  /-- DMTC1 (R723). -/
  | dmtc1 (rt : BitVec 5) (fs : BitVec 5)
  /-- DMFC1 (R724). -/
  | dmfc1 (rt : BitVec 5) (fs : BitVec 5)
  /-- LWC1 (R725). -/
  | lwc1 (base : BitVec 5) (ft : BitVec 5) (offset : BitVec 16)
  /-- SWC1 (R726). -/
  | swc1 (base : BitVec 5) (ft : BitVec 5) (offset : BitVec 16)
  /-- LDC1 (R727). -/
  | ldc1 (base : BitVec 5) (ft : BitVec 5) (offset : BitVec 16)
  /-- SDC1 (R728). -/
  | sdc1 (base : BitVec 5) (ft : BitVec 5) (offset : BitVec 16)
  /-- LUXC1 (R729). -/
  | luxc1 (base : BitVec 5) (index : BitVec 5) (fd : BitVec 5)
  /-- SUXC1 (R730). -/
  | suxc1 (base : BitVec 5) (index : BitVec 5) (fs : BitVec 5)
  /-- LWXC1 (R731). -/
  | lwxc1 (base : BitVec 5) (index : BitVec 5) (fd : BitVec 5)
  /-- SWXC1 (R732). -/
  | swxc1 (base : BitVec 5) (index : BitVec 5) (fs : BitVec 5)
  /-- LDXC1 (R733). -/
  | ldxc1 (base : BitVec 5) (index : BitVec 5) (fd : BitVec 5)
  /-- SDXC1 (R734). -/
  | sdxc1 (base : BitVec 5) (index : BitVec 5) (fs : BitVec 5)
  /-- CFC1 (R744). -/
  | cfc1 (rt : BitVec 5) (fs : BitVec 5)
  /-- CTC1 (R745). -/
  | ctc1 (rt : BitVec 5) (fs : BitVec 5)
  /-- MOV.S (R746). -/
  | movS (fs : BitVec 5) (fd : BitVec 5)
  /-- MOV.D (R746). -/
  | movD (fs : BitVec 5) (fd : BitVec 5)
  /-- MOVT.S (R747). -/
  | movtS (cc : BitVec 3) (fs : BitVec 5) (fd : BitVec 5)
  /-- MOVT.D (R747). -/
  | movtD (cc : BitVec 3) (fs : BitVec 5) (fd : BitVec 5)
  /-- MOVF.S (R748). -/
  | movfS (cc : BitVec 3) (fs : BitVec 5) (fd : BitVec 5)
  /-- MOVF.D (R748). -/
  | movfD (cc : BitVec 3) (fs : BitVec 5) (fd : BitVec 5)
  /-- MOVN.S (R749). -/
  | movnS (rt : BitVec 5) (fs : BitVec 5) (fd : BitVec 5)
  /-- MOVN.D (R749). -/
  | movnD (rt : BitVec 5) (fs : BitVec 5) (fd : BitVec 5)
  /-- MOVZ.S (R750). -/
  | movzS (rt : BitVec 5) (fs : BitVec 5) (fd : BitVec 5)
  /-- MOVZ.D (R750). -/
  | movzD (rt : BitVec 5) (fs : BitVec 5) (fd : BitVec 5)
  /-- CVT.S.D (R761). -/
  | cvtSD (fs : BitVec 5) (fd : BitVec 5)
  /-- CVT.S.W (R761). -/
  | cvtSW (fs : BitVec 5) (fd : BitVec 5)
  /-- CVT.S.L (R761). -/
  | cvtSL (fs : BitVec 5) (fd : BitVec 5)
  /-- CVT.D.S (R762). -/
  | cvtDS (fs : BitVec 5) (fd : BitVec 5)
  /-- CVT.D.W (R762). -/
  | cvtDW (fs : BitVec 5) (fd : BitVec 5)
  /-- CVT.D.L (R762). -/
  | cvtDL (fs : BitVec 5) (fd : BitVec 5)
  /-- CVT.W.S (R763). -/
  | cvtWS (fs : BitVec 5) (fd : BitVec 5)
  /-- CVT.W.D (R763). -/
  | cvtWD (fs : BitVec 5) (fd : BitVec 5)
  /-- CVT.L.S (R764). -/
  | cvtLS (fs : BitVec 5) (fd : BitVec 5)
  /-- CVT.L.D (R764). -/
  | cvtLD (fs : BitVec 5) (fd : BitVec 5)
  /-- ROUND.W.S (R766). -/
  | roundWS (fs : BitVec 5) (fd : BitVec 5)
  /-- ROUND.W.D (R766). -/
  | roundWD (fs : BitVec 5) (fd : BitVec 5)
  /-- TRUNC.W.S (R767). -/
  | truncWS (fs : BitVec 5) (fd : BitVec 5)
  /-- TRUNC.W.D (R767). -/
  | truncWD (fs : BitVec 5) (fd : BitVec 5)
  /-- CEIL.W.S (R768). -/
  | ceilWS (fs : BitVec 5) (fd : BitVec 5)
  /-- CEIL.W.D (R768). -/
  | ceilWD (fs : BitVec 5) (fd : BitVec 5)
  /-- FLOOR.W.S (R769). -/
  | floorWS (fs : BitVec 5) (fd : BitVec 5)
  /-- FLOOR.W.D (R769). -/
  | floorWD (fs : BitVec 5) (fd : BitVec 5)
  /-- ROUND.L.S (R770). -/
  | roundLS (fs : BitVec 5) (fd : BitVec 5)
  /-- ROUND.L.D (R770). -/
  | roundLD (fs : BitVec 5) (fd : BitVec 5)
  /-- TRUNC.L.S (R771). -/
  | truncLS (fs : BitVec 5) (fd : BitVec 5)
  /-- TRUNC.L.D (R771). -/
  | truncLD (fs : BitVec 5) (fd : BitVec 5)
  /-- CEIL.L.S (R772). -/
  | ceilLS (fs : BitVec 5) (fd : BitVec 5)
  /-- CEIL.L.D (R772). -/
  | ceilLD (fs : BitVec 5) (fd : BitVec 5)
  /-- FLOOR.L.S (R773). -/
  | floorLS (fs : BitVec 5) (fd : BitVec 5)
  /-- FLOOR.L.D (R773). -/
  | floorLD (fs : BitVec 5) (fd : BitVec 5)
  /-- C.F.S (R780). -/
  | cFS (ft : BitVec 5) (fs : BitVec 5) (cc : BitVec 3)
  /-- C.F.D (R780). -/
  | cFD (ft : BitVec 5) (fs : BitVec 5) (cc : BitVec 3)
  /-- C.UN.S (R780). -/
  | cUnS (ft : BitVec 5) (fs : BitVec 5) (cc : BitVec 3)
  /-- C.UN.D (R780). -/
  | cUnD (ft : BitVec 5) (fs : BitVec 5) (cc : BitVec 3)
  /-- C.EQ.S (R780). -/
  | cEqS (ft : BitVec 5) (fs : BitVec 5) (cc : BitVec 3)
  /-- C.EQ.D (R780). -/
  | cEqD (ft : BitVec 5) (fs : BitVec 5) (cc : BitVec 3)
  /-- C.UEQ.S (R780). -/
  | cUeqS (ft : BitVec 5) (fs : BitVec 5) (cc : BitVec 3)
  /-- C.UEQ.D (R780). -/
  | cUeqD (ft : BitVec 5) (fs : BitVec 5) (cc : BitVec 3)
  /-- C.OLT.S (R780). -/
  | cOltS (ft : BitVec 5) (fs : BitVec 5) (cc : BitVec 3)
  /-- C.OLT.D (R780). -/
  | cOltD (ft : BitVec 5) (fs : BitVec 5) (cc : BitVec 3)
  /-- C.ULT.S (R780). -/
  | cUltS (ft : BitVec 5) (fs : BitVec 5) (cc : BitVec 3)
  /-- C.ULT.D (R780). -/
  | cUltD (ft : BitVec 5) (fs : BitVec 5) (cc : BitVec 3)
  /-- C.OLE.S (R780). -/
  | cOleS (ft : BitVec 5) (fs : BitVec 5) (cc : BitVec 3)
  /-- C.OLE.D (R780). -/
  | cOleD (ft : BitVec 5) (fs : BitVec 5) (cc : BitVec 3)
  /-- C.ULE.S (R780). -/
  | cUleS (ft : BitVec 5) (fs : BitVec 5) (cc : BitVec 3)
  /-- C.ULE.D (R780). -/
  | cUleD (ft : BitVec 5) (fs : BitVec 5) (cc : BitVec 3)
  /-- C.SF.S (R780). -/
  | cSfS (ft : BitVec 5) (fs : BitVec 5) (cc : BitVec 3)
  /-- C.SF.D (R780). -/
  | cSfD (ft : BitVec 5) (fs : BitVec 5) (cc : BitVec 3)
  /-- C.NGLE.S (R780). -/
  | cNgleS (ft : BitVec 5) (fs : BitVec 5) (cc : BitVec 3)
  /-- C.NGLE.D (R780). -/
  | cNgleD (ft : BitVec 5) (fs : BitVec 5) (cc : BitVec 3)
  /-- C.SEQ.S (R780). -/
  | cSeqS (ft : BitVec 5) (fs : BitVec 5) (cc : BitVec 3)
  /-- C.SEQ.D (R780). -/
  | cSeqD (ft : BitVec 5) (fs : BitVec 5) (cc : BitVec 3)
  /-- C.NGL.S (R780). -/
  | cNglS (ft : BitVec 5) (fs : BitVec 5) (cc : BitVec 3)
  /-- C.NGL.D (R780). -/
  | cNglD (ft : BitVec 5) (fs : BitVec 5) (cc : BitVec 3)
  /-- C.LT.S (R780). -/
  | cLtS (ft : BitVec 5) (fs : BitVec 5) (cc : BitVec 3)
  /-- C.LT.D (R780). -/
  | cLtD (ft : BitVec 5) (fs : BitVec 5) (cc : BitVec 3)
  /-- C.NGE.S (R780). -/
  | cNgeS (ft : BitVec 5) (fs : BitVec 5) (cc : BitVec 3)
  /-- C.NGE.D (R780). -/
  | cNgeD (ft : BitVec 5) (fs : BitVec 5) (cc : BitVec 3)
  /-- C.LE.S (R780). -/
  | cLeS (ft : BitVec 5) (fs : BitVec 5) (cc : BitVec 3)
  /-- C.LE.D (R780). -/
  | cLeD (ft : BitVec 5) (fs : BitVec 5) (cc : BitVec 3)
  /-- C.NGT.S (R780). -/
  | cNgtS (ft : BitVec 5) (fs : BitVec 5) (cc : BitVec 3)
  /-- C.NGT.D (R780). -/
  | cNgtD (ft : BitVec 5) (fs : BitVec 5) (cc : BitVec 3)
  /-- BC1T (R783). -/
  | bc1t (cc : BitVec 3) (offset : BitVec 16)
  /-- BC1F (R784). -/
  | bc1f (cc : BitVec 3) (offset : BitVec 16)
  /-- BC1TL (R785). -/
  | bc1tl (cc : BitVec 3) (offset : BitVec 16)
  /-- BC1FL (R786). -/
  | bc1fl (cc : BitVec 3) (offset : BitVec 16)
  /-- NOP (R525). -/
  | nop
  /-- SSNOP (R526). -/
  | ssnop
  /-- TLBR (R621). -/
  | tlbr
  /-- TLBWI (R622). -/
  | tlbwi
  /-- TLBWR (R623). -/
  | tlbwr
  /-- TLBP (R624). -/
  | tlbp
  /-- ERET (R626). -/
  | eret
  /-- DERET (R628). -/
  | deret
deriving DecidableEq, Repr

end Sys2Proof
end

