-- ==== Sys2Proof/WellFormed.lean ====
section
/-! DEFINITION. The instructions that have words of their own. Every field of `Instr` has the width of its field of the
encoding, so a field can hold no illegal value; the one check left is that an SLL is not one of the two words that
30_encoding.md R312 gives to NOP and SSNOP. -/

namespace Sys2Proof

/-- The words 0x00000000 and 0x00000040 are NOP and SSNOP, not SLL (R312). -/
def Instr.wellFormed : Instr → Bool
  | .sll rt rd sa => !(rt == 0 && rd == 0 && (sa == 0 || sa == 1))
  | _ => true

end Sys2Proof
end

