-- ==== Sys2Proof/Decode.lean ====
section
/-! DEFINITION. The decoder, total on any word, and the encoder (30_encoding.md R300 to R318; spec/opcode_table.json). A word
of six fields op, rs, rt, rd, sa, fn is taken apart once; the larger fields (immediates, targets, codes) are put together
from those six. -/

namespace Sys2Proof

/-- A word that is no instruction, by what executing it does (R315, R316, R318, R319, R323). -/
inductive Reserved where
  /-- Reserved Instruction (R315). -/
  | integer
  /-- SPECIAL function 1 outside MOVF and MOVT: coprocessor 1 is tested, then Reserved Instruction (R319, R315). -/
  | movci
  /-- Opcode 16: coprocessor 0 is tested, then Reserved Instruction (R319, R315). -/
  | cop0
  /-- Opcodes 17 and 19: coprocessor 1 is tested, then the parameter UNIMPL_FPU_ENCODING decides (R319, R323). -/
  | cop1
  /-- Opcodes 18, 50, 54, 58, 62: coprocessor 2 is absent (R316). -/
  | cop2
deriving DecidableEq, Repr

/-- Bits 31:26 (R301). -/
def opField (w : HalfWord) : BitVec 6 := w.extractLsb' 26 6

/-- Bits 25:21: rs, base, fmt or fr (R301, R302). -/
def rsField (w : HalfWord) : BitVec 5 := w.extractLsb' 21 5

/-- Bits 20:16: rt, ft, index (R301, R302). -/
def rtField (w : HalfWord) : BitVec 5 := w.extractLsb' 16 5

/-- Bits 15:11: rd, fs (R301, R302). -/
def rdField (w : HalfWord) : BitVec 5 := w.extractLsb' 11 5

/-- Bits 10:6: sa, fd (R301, R302). -/
def saField (w : HalfWord) : BitVec 5 := w.extractLsb' 6 5

/-- Bits 5:0: the function (R301, R302). -/
def fnField (w : HalfWord) : BitVec 6 := w.extractLsb' 0 6

/-- Bits 15:0 of a word, from its fields (R301). -/
def imm16 (rd sa : BitVec 5) (fn : BitVec 6) : BitVec 16 := rd ++ sa ++ fn

/-- Bits 25:0 of a word, from its fields (R301). -/
def imm26 (rs rt rd sa : BitVec 5) (fn : BitVec 6) : BitVec 26 := rs ++ rt ++ rd ++ sa ++ fn

/-- Bits 25:6 of a word, the code of SYSCALL, BREAK and SDBBP (R301). -/
def code20 (rs rt rd sa : BitVec 5) : BitVec 20 := rs ++ rt ++ rd ++ sa

/-- Bits 24:6 of a word, the code of WAIT (R309). -/
def code19 (rs rt rd sa : BitVec 5) : BitVec 19 := rs.extractLsb' 0 4 ++ rt ++ rd ++ sa

/-- Bits 15:6 of a word, the code of the register traps (R301). -/
def code10 (rd sa : BitVec 5) : BitVec 10 := rd ++ sa

/-- The condition code number in the upper three bits of a five-bit field (R302). -/
def cc3 (x : BitVec 5) : BitVec 3 := x.extractLsb' 2 3

/-- The lower two bits of a five-bit field: nd and tf of a branch, zero elsewhere (R302). -/
def low2 (x : BitVec 5) : BitVec 2 := x.extractLsb' 0 2

/-- The select field of the COP0 moves (R302). -/
def sel3 (fn : BitVec 6) : BitVec 3 := fn.extractLsb' 0 3

/-- Bits 5:3 of a COP0 move, zero (R302). -/
def high3 (fn : BitVec 6) : BitVec 3 := fn.extractLsb' 3 3

/-- A row whose fixed zero fields must hold (R315). -/
def need (ok : Bool) (r : Reserved) (i : Instr) : Except Reserved Instr := if ok then .ok i else .error r

/-- The SPECIAL opcode by its function field (R305). -/
def decodeSpecial (rs rt rd sa : BitVec 5) (fn : BitVec 6) : Except Reserved Instr :=
  match fn with
  | 0 => if rs == 0 then (if rt == 0 && rd == 0 && sa == 0 then .ok .nop else if rt == 0 && rd == 0 && sa == 1 then .ok .ssnop
      else .ok (.sll rt rd sa)) else .error .integer
  | 1 => if sa == 0 && low2 rt == 1 then .ok (.movt rs (cc3 rt) rd) else if sa == 0 && low2 rt == 0 then .ok (.movf rs (cc3 rt) rd)
      else .error .movci
  | 2 => need (rs == 0) .integer (.srl rt rd sa)
  | 3 => need (rs == 0) .integer (.sra rt rd sa)
  | 4 => need (sa == 0) .integer (.sllv rs rt rd)
  | 6 => need (sa == 0) .integer (.srlv rs rt rd)
  | 7 => need (sa == 0) .integer (.srav rs rt rd)
  | 8 => need (rt == 0 && rd == 0) .integer (.jr rs sa)
  | 9 => need (rt == 0) .integer (.jalr rs rd sa)
  | 10 => need (sa == 0) .integer (.movz rs rt rd)
  | 11 => need (sa == 0) .integer (.movn rs rt rd)
  | 12 => .ok (.syscall (code20 rs rt rd sa))
  | 13 => .ok (.breakpoint (code20 rs rt rd sa))
  | 15 => need (rs == 0 && rt == 0 && rd == 0) .integer (.sync sa)
  | 16 => need (rs == 0 && rt == 0 && sa == 0) .integer (.mfhi rd)
  | 17 => need (rt == 0 && rd == 0 && sa == 0) .integer (.mthi rs)
  | 18 => need (rs == 0 && rt == 0 && sa == 0) .integer (.mflo rd)
  | 19 => need (rt == 0 && rd == 0 && sa == 0) .integer (.mtlo rs)
  | 20 => need (sa == 0) .integer (.dsllv rs rt rd)
  | 22 => need (sa == 0) .integer (.dsrlv rs rt rd)
  | 23 => need (sa == 0) .integer (.dsrav rs rt rd)
  | 24 => need (rd == 0 && sa == 0) .integer (.mult rs rt)
  | 25 => need (rd == 0 && sa == 0) .integer (.multu rs rt)
  | 26 => need (rd == 0 && sa == 0) .integer (.div rs rt)
  | 27 => need (rd == 0 && sa == 0) .integer (.divu rs rt)
  | 28 => need (rd == 0 && sa == 0) .integer (.dmult rs rt)
  | 29 => need (rd == 0 && sa == 0) .integer (.dmultu rs rt)
  | 30 => need (rd == 0 && sa == 0) .integer (.ddiv rs rt)
  | 31 => need (rd == 0 && sa == 0) .integer (.ddivu rs rt)
  | 32 => need (sa == 0) .integer (.add rs rt rd)
  | 33 => need (sa == 0) .integer (.addu rs rt rd)
  | 34 => need (sa == 0) .integer (.sub rs rt rd)
  | 35 => need (sa == 0) .integer (.subu rs rt rd)
  | 36 => need (sa == 0) .integer (.and rs rt rd)
  | 37 => need (sa == 0) .integer (.or rs rt rd)
  | 38 => need (sa == 0) .integer (.xor rs rt rd)
  | 39 => need (sa == 0) .integer (.nor rs rt rd)
  | 42 => need (sa == 0) .integer (.slt rs rt rd)
  | 43 => need (sa == 0) .integer (.sltu rs rt rd)
  | 44 => need (sa == 0) .integer (.dadd rs rt rd)
  | 45 => need (sa == 0) .integer (.daddu rs rt rd)
  | 46 => need (sa == 0) .integer (.dsub rs rt rd)
  | 47 => need (sa == 0) .integer (.dsubu rs rt rd)
  | 48 => .ok (.tge rs rt (code10 rd sa))
  | 49 => .ok (.tgeu rs rt (code10 rd sa))
  | 50 => .ok (.tlt rs rt (code10 rd sa))
  | 51 => .ok (.tltu rs rt (code10 rd sa))
  | 52 => .ok (.teq rs rt (code10 rd sa))
  | 54 => .ok (.tne rs rt (code10 rd sa))
  | 56 => need (rs == 0) .integer (.dsll rt rd sa)
  | 58 => need (rs == 0) .integer (.dsrl rt rd sa)
  | 59 => need (rs == 0) .integer (.dsra rt rd sa)
  | 60 => need (rs == 0) .integer (.dsll32 rt rd sa)
  | 62 => need (rs == 0) .integer (.dsrl32 rt rd sa)
  | 63 => need (rs == 0) .integer (.dsra32 rt rd sa)
  | _ => .error .integer

/-- The REGIMM opcode by its rt field (R307). -/
def decodeRegimm (rs rt rd sa : BitVec 5) (fn : BitVec 6) : Except Reserved Instr :=
  match rt with
  | 0 => .ok (.bltz rs (imm16 rd sa fn))
  | 1 => .ok (.bgez rs (imm16 rd sa fn))
  | 2 => .ok (.bltzl rs (imm16 rd sa fn))
  | 3 => .ok (.bgezl rs (imm16 rd sa fn))
  | 8 => .ok (.tgei rs (imm16 rd sa fn))
  | 9 => .ok (.tgeiu rs (imm16 rd sa fn))
  | 10 => .ok (.tlti rs (imm16 rd sa fn))
  | 11 => .ok (.tltiu rs (imm16 rd sa fn))
  | 12 => .ok (.teqi rs (imm16 rd sa fn))
  | 14 => .ok (.tnei rs (imm16 rd sa fn))
  | 16 => .ok (.bltzal rs (imm16 rd sa fn))
  | 17 => .ok (.bgezal rs (imm16 rd sa fn))
  | 18 => .ok (.bltzall rs (imm16 rd sa fn))
  | 19 => .ok (.bgezall rs (imm16 rd sa fn))
  | _ => .error .integer

/-- The SPECIAL2 opcode by its function field (R308). -/
def decodeSpecial2 (rs rt rd sa : BitVec 5) (fn : BitVec 6) : Except Reserved Instr :=
  match fn with
  | 0 => need (rd == 0 && sa == 0) .integer (.madd rs rt)
  | 1 => need (rd == 0 && sa == 0) .integer (.maddu rs rt)
  | 2 => need (sa == 0) .integer (.mul rs rt rd)
  | 4 => need (rd == 0 && sa == 0) .integer (.msub rs rt)
  | 5 => need (rd == 0 && sa == 0) .integer (.msubu rs rt)
  | 32 => need (sa == 0) .integer (.clz rs rt rd)
  | 33 => need (sa == 0) .integer (.clo rs rt rd)
  | 36 => need (sa == 0) .integer (.dclz rs rt rd)
  | 37 => need (sa == 0) .integer (.dclo rs rt rd)
  | 63 => .ok (.sdbbp (code20 rs rt rd sa))
  | _ => .error .integer

/-- The COP1X opcode by its function field (R306). -/
def decodeCop1x (rs rt rd sa : BitVec 5) (fn : BitVec 6) : Except Reserved Instr :=
  match fn with
  | 0 => need (rd == 0) .cop1 (.lwxc1 rs rt sa)
  | 1 => need (rd == 0) .cop1 (.ldxc1 rs rt sa)
  | 5 => need (rd == 0) .cop1 (.luxc1 rs rt sa)
  | 8 => need (sa == 0) .cop1 (.swxc1 rs rt rd)
  | 9 => need (sa == 0) .cop1 (.sdxc1 rs rt rd)
  | 13 => need (sa == 0) .cop1 (.suxc1 rs rt rd)
  | 15 => need (sa == 0) .cop1 (.prefx rs rt rd)
  | 32 => .ok (.maddS rs rt rd sa)
  | 33 => .ok (.maddD rs rt rd sa)
  | 40 => .ok (.msubS rs rt rd sa)
  | 41 => .ok (.msubD rs rt rd sa)
  | 48 => .ok (.nmaddS rs rt rd sa)
  | 49 => .ok (.nmaddD rs rt rd sa)
  | 56 => .ok (.nmsubS rs rt rd sa)
  | 57 => .ok (.nmsubD rs rt rd sa)
  | _ => .error .cop1

/-- The COP0 operations, CO bit 25 set, by their function field (R309). WAIT carries a code in bits 24:6. -/
def decodeCop0Op (rs rt rd sa : BitVec 5) (fn : BitVec 6) : Except Reserved Instr :=
  match fn with
  | 1 => need (rs == 16 && rt == 0 && rd == 0 && sa == 0) .cop0 .tlbr
  | 2 => need (rs == 16 && rt == 0 && rd == 0 && sa == 0) .cop0 .tlbwi
  | 6 => need (rs == 16 && rt == 0 && rd == 0 && sa == 0) .cop0 .tlbwr
  | 8 => need (rs == 16 && rt == 0 && rd == 0 && sa == 0) .cop0 .tlbp
  | 24 => need (rs == 16 && rt == 0 && rd == 0 && sa == 0) .cop0 .eret
  | 31 => need (rs == 16 && rt == 0 && rd == 0 && sa == 0) .cop0 .deret
  | 32 => .ok (.wait (code19 rs rt rd sa))
  | _ => .error .cop0

/-- The COP0 moves by their rs field (R309). -/
def decodeCop0Move (rs rt rd sa : BitVec 5) (fn : BitVec 6) : Except Reserved Instr :=
  match rs with
  | 0 => need (sa == 0 && high3 fn == 0) .cop0 (.mfc0 rt rd (sel3 fn))
  | 1 => need (sa == 0 && high3 fn == 0) .cop0 (.dmfc0 rt rd (sel3 fn))
  | 4 => need (sa == 0 && high3 fn == 0) .cop0 (.mtc0 rt rd (sel3 fn))
  | 5 => need (sa == 0 && high3 fn == 0) .cop0 (.dmtc0 rt rd (sel3 fn))
  | _ => .error .cop0

/-- The COP1 operations of format S by their function field (R310). -/
def decodeFmtS (rt rd sa : BitVec 5) (fn : BitVec 6) : Except Reserved Instr :=
  match fn with
  | 0 => .ok (.addS rt rd sa)
  | 1 => .ok (.subS rt rd sa)
  | 2 => .ok (.mulS rt rd sa)
  | 3 => .ok (.divS rt rd sa)
  | 4 => need (rt == 0) .cop1 (.sqrtS rd sa)
  | 5 => need (rt == 0) .cop1 (.absS rd sa)
  | 6 => need (rt == 0) .cop1 (.movS rd sa)
  | 7 => need (rt == 0) .cop1 (.negS rd sa)
  | 8 => need (rt == 0) .cop1 (.roundLS rd sa)
  | 9 => need (rt == 0) .cop1 (.truncLS rd sa)
  | 10 => need (rt == 0) .cop1 (.ceilLS rd sa)
  | 11 => need (rt == 0) .cop1 (.floorLS rd sa)
  | 12 => need (rt == 0) .cop1 (.roundWS rd sa)
  | 13 => need (rt == 0) .cop1 (.truncWS rd sa)
  | 14 => need (rt == 0) .cop1 (.ceilWS rd sa)
  | 15 => need (rt == 0) .cop1 (.floorWS rd sa)
  | 17 => if low2 rt == 1 then .ok (.movtS (cc3 rt) rd sa) else need (low2 rt == 0) .cop1 (.movfS (cc3 rt) rd sa)
  | 18 => .ok (.movzS rt rd sa)
  | 19 => .ok (.movnS rt rd sa)
  | 21 => need (rt == 0) .cop1 (.recipS rd sa)
  | 33 => need (rt == 0) .cop1 (.cvtDS rd sa)
  | 36 => need (rt == 0) .cop1 (.cvtWS rd sa)
  | 37 => need (rt == 0) .cop1 (.cvtLS rd sa)
  | 48 => need (low2 sa == 0) .cop1 (.cFS rt rd (cc3 sa))
  | 49 => need (low2 sa == 0) .cop1 (.cUnS rt rd (cc3 sa))
  | 50 => need (low2 sa == 0) .cop1 (.cEqS rt rd (cc3 sa))
  | 51 => need (low2 sa == 0) .cop1 (.cUeqS rt rd (cc3 sa))
  | 52 => need (low2 sa == 0) .cop1 (.cOltS rt rd (cc3 sa))
  | 53 => need (low2 sa == 0) .cop1 (.cUltS rt rd (cc3 sa))
  | 54 => need (low2 sa == 0) .cop1 (.cOleS rt rd (cc3 sa))
  | 55 => need (low2 sa == 0) .cop1 (.cUleS rt rd (cc3 sa))
  | 56 => need (low2 sa == 0) .cop1 (.cSfS rt rd (cc3 sa))
  | 57 => need (low2 sa == 0) .cop1 (.cNgleS rt rd (cc3 sa))
  | 58 => need (low2 sa == 0) .cop1 (.cSeqS rt rd (cc3 sa))
  | 59 => need (low2 sa == 0) .cop1 (.cNglS rt rd (cc3 sa))
  | 60 => need (low2 sa == 0) .cop1 (.cLtS rt rd (cc3 sa))
  | 61 => need (low2 sa == 0) .cop1 (.cNgeS rt rd (cc3 sa))
  | 62 => need (low2 sa == 0) .cop1 (.cLeS rt rd (cc3 sa))
  | 63 => need (low2 sa == 0) .cop1 (.cNgtS rt rd (cc3 sa))
  | _ => .error .cop1

/-- The COP1 operations of format D by their function field (R310). -/
def decodeFmtD (rt rd sa : BitVec 5) (fn : BitVec 6) : Except Reserved Instr :=
  match fn with
  | 0 => .ok (.addD rt rd sa)
  | 1 => .ok (.subD rt rd sa)
  | 2 => .ok (.mulD rt rd sa)
  | 3 => .ok (.divD rt rd sa)
  | 4 => need (rt == 0) .cop1 (.sqrtD rd sa)
  | 5 => need (rt == 0) .cop1 (.absD rd sa)
  | 6 => need (rt == 0) .cop1 (.movD rd sa)
  | 7 => need (rt == 0) .cop1 (.negD rd sa)
  | 8 => need (rt == 0) .cop1 (.roundLD rd sa)
  | 9 => need (rt == 0) .cop1 (.truncLD rd sa)
  | 10 => need (rt == 0) .cop1 (.ceilLD rd sa)
  | 11 => need (rt == 0) .cop1 (.floorLD rd sa)
  | 12 => need (rt == 0) .cop1 (.roundWD rd sa)
  | 13 => need (rt == 0) .cop1 (.truncWD rd sa)
  | 14 => need (rt == 0) .cop1 (.ceilWD rd sa)
  | 15 => need (rt == 0) .cop1 (.floorWD rd sa)
  | 17 => if low2 rt == 1 then .ok (.movtD (cc3 rt) rd sa) else need (low2 rt == 0) .cop1 (.movfD (cc3 rt) rd sa)
  | 18 => .ok (.movzD rt rd sa)
  | 19 => .ok (.movnD rt rd sa)
  | 21 => need (rt == 0) .cop1 (.recipD rd sa)
  | 32 => need (rt == 0) .cop1 (.cvtSD rd sa)
  | 36 => need (rt == 0) .cop1 (.cvtWD rd sa)
  | 37 => need (rt == 0) .cop1 (.cvtLD rd sa)
  | 48 => need (low2 sa == 0) .cop1 (.cFD rt rd (cc3 sa))
  | 49 => need (low2 sa == 0) .cop1 (.cUnD rt rd (cc3 sa))
  | 50 => need (low2 sa == 0) .cop1 (.cEqD rt rd (cc3 sa))
  | 51 => need (low2 sa == 0) .cop1 (.cUeqD rt rd (cc3 sa))
  | 52 => need (low2 sa == 0) .cop1 (.cOltD rt rd (cc3 sa))
  | 53 => need (low2 sa == 0) .cop1 (.cUltD rt rd (cc3 sa))
  | 54 => need (low2 sa == 0) .cop1 (.cOleD rt rd (cc3 sa))
  | 55 => need (low2 sa == 0) .cop1 (.cUleD rt rd (cc3 sa))
  | 56 => need (low2 sa == 0) .cop1 (.cSfD rt rd (cc3 sa))
  | 57 => need (low2 sa == 0) .cop1 (.cNgleD rt rd (cc3 sa))
  | 58 => need (low2 sa == 0) .cop1 (.cSeqD rt rd (cc3 sa))
  | 59 => need (low2 sa == 0) .cop1 (.cNglD rt rd (cc3 sa))
  | 60 => need (low2 sa == 0) .cop1 (.cLtD rt rd (cc3 sa))
  | 61 => need (low2 sa == 0) .cop1 (.cNgeD rt rd (cc3 sa))
  | 62 => need (low2 sa == 0) .cop1 (.cLeD rt rd (cc3 sa))
  | 63 => need (low2 sa == 0) .cop1 (.cNgtD rt rd (cc3 sa))
  | _ => .error .cop1

/-- The COP1 operations of format W by their function field (R310). -/
def decodeFmtW (rt rd sa : BitVec 5) (fn : BitVec 6) : Except Reserved Instr :=
  match fn with
  | 32 => need (rt == 0) .cop1 (.cvtSW rd sa)
  | 33 => need (rt == 0) .cop1 (.cvtDW rd sa)
  | _ => .error .cop1

/-- The COP1 operations of format L by their function field (R310). -/
def decodeFmtL (rt rd sa : BitVec 5) (fn : BitVec 6) : Except Reserved Instr :=
  match fn with
  | 32 => need (rt == 0) .cop1 (.cvtSL rd sa)
  | 33 => need (rt == 0) .cop1 (.cvtDL rd sa)
  | _ => .error .cop1

/-- The COP1 moves by their rs field (R310). -/
def decodeCop1Move (rs rt rd sa : BitVec 5) (fn : BitVec 6) : Except Reserved Instr :=
  match rs with
  | 0 => need (sa == 0 && fn == 0) .cop1 (.mfc1 rt rd)
  | 1 => need (sa == 0 && fn == 0) .cop1 (.dmfc1 rt rd)
  | 2 => need (sa == 0 && fn == 0) .cop1 (.cfc1 rt rd)
  | 4 => need (sa == 0 && fn == 0) .cop1 (.mtc1 rt rd)
  | 5 => need (sa == 0 && fn == 0) .cop1 (.dmtc1 rt rd)
  | 6 => need (sa == 0 && fn == 0) .cop1 (.ctc1 rt rd)
  | _ => .error .cop1

/-- The COP1 branches by the bits nd and tf (R302). -/
def decodeBc1 (rt rd sa : BitVec 5) (fn : BitVec 6) : Except Reserved Instr :=
  match low2 rt with
  | 0 => .ok (.bc1f (cc3 rt) (imm16 rd sa fn))
  | 1 => .ok (.bc1t (cc3 rt) (imm16 rd sa fn))
  | 2 => .ok (.bc1fl (cc3 rt) (imm16 rd sa fn))
  | _ => .ok (.bc1tl (cc3 rt) (imm16 rd sa fn))

/-- The COP0 opcode (R309). -/
def decodeCop0 (rs rt rd sa : BitVec 5) (fn : BitVec 6) : Except Reserved Instr :=
  if rs.msb then decodeCop0Op rs rt rd sa fn else decodeCop0Move rs rt rd sa fn

/-- The COP1 opcode by its rs field (R310). -/
def decodeCop1 (rs rt rd sa : BitVec 5) (fn : BitVec 6) : Except Reserved Instr :=
  match rs with
  | 8 => decodeBc1 rt rd sa fn
  | 16 => decodeFmtS rt rd sa fn
  | 17 => decodeFmtD rt rd sa fn
  | 20 => decodeFmtW rt rd sa fn
  | 21 => decodeFmtL rt rd sa fn
  | _ => decodeCop1Move rs rt rd sa fn

/-- The major opcodes (R304). The opcodes of the absent coprocessor 2 are 18, 50, 54, 58 and 62 (R316). -/
def decodeFields (op : BitVec 6) (rs rt rd sa : BitVec 5) (fn : BitVec 6) : Except Reserved Instr :=
  match op with
  | 0 => decodeSpecial rs rt rd sa fn
  | 1 => decodeRegimm rs rt rd sa fn
  | 16 => decodeCop0 rs rt rd sa fn
  | 17 => decodeCop1 rs rt rd sa fn
  | 18 => .error .cop2
  | 19 => decodeCop1x rs rt rd sa fn
  | 28 => decodeSpecial2 rs rt rd sa fn
  | 50 => .error .cop2
  | 54 => .error .cop2
  | 58 => .error .cop2
  | 62 => .error .cop2
  | 2 => .ok (.j (imm26 rs rt rd sa fn))
  | 3 => .ok (.jal (imm26 rs rt rd sa fn))
  | 4 => .ok (.beq rs rt (imm16 rd sa fn))
  | 5 => .ok (.bne rs rt (imm16 rd sa fn))
  | 6 => need (rt == 0) .integer (.blez rs (imm16 rd sa fn))
  | 7 => need (rt == 0) .integer (.bgtz rs (imm16 rd sa fn))
  | 8 => .ok (.addi rs rt (imm16 rd sa fn))
  | 9 => .ok (.addiu rs rt (imm16 rd sa fn))
  | 10 => .ok (.slti rs rt (imm16 rd sa fn))
  | 11 => .ok (.sltiu rs rt (imm16 rd sa fn))
  | 12 => .ok (.andi rs rt (imm16 rd sa fn))
  | 13 => .ok (.ori rs rt (imm16 rd sa fn))
  | 14 => .ok (.xori rs rt (imm16 rd sa fn))
  | 15 => need (rs == 0) .integer (.lui rt (imm16 rd sa fn))
  | 20 => .ok (.beql rs rt (imm16 rd sa fn))
  | 21 => .ok (.bnel rs rt (imm16 rd sa fn))
  | 22 => need (rt == 0) .integer (.blezl rs (imm16 rd sa fn))
  | 23 => need (rt == 0) .integer (.bgtzl rs (imm16 rd sa fn))
  | 24 => .ok (.daddi rs rt (imm16 rd sa fn))
  | 25 => .ok (.daddiu rs rt (imm16 rd sa fn))
  | 26 => .ok (.ldl rs rt (imm16 rd sa fn))
  | 27 => .ok (.ldr rs rt (imm16 rd sa fn))
  | 32 => .ok (.lb rs rt (imm16 rd sa fn))
  | 33 => .ok (.lh rs rt (imm16 rd sa fn))
  | 34 => .ok (.lwl rs rt (imm16 rd sa fn))
  | 35 => .ok (.lw rs rt (imm16 rd sa fn))
  | 36 => .ok (.lbu rs rt (imm16 rd sa fn))
  | 37 => .ok (.lhu rs rt (imm16 rd sa fn))
  | 38 => .ok (.lwr rs rt (imm16 rd sa fn))
  | 39 => .ok (.lwu rs rt (imm16 rd sa fn))
  | 40 => .ok (.sb rs rt (imm16 rd sa fn))
  | 41 => .ok (.sh rs rt (imm16 rd sa fn))
  | 42 => .ok (.swl rs rt (imm16 rd sa fn))
  | 43 => .ok (.sw rs rt (imm16 rd sa fn))
  | 44 => .ok (.sdl rs rt (imm16 rd sa fn))
  | 45 => .ok (.sdr rs rt (imm16 rd sa fn))
  | 46 => .ok (.swr rs rt (imm16 rd sa fn))
  | 47 => .ok (.cache rs rt (imm16 rd sa fn))
  | 48 => .ok (.ll rs rt (imm16 rd sa fn))
  | 49 => .ok (.lwc1 rs rt (imm16 rd sa fn))
  | 51 => .ok (.pref rs rt (imm16 rd sa fn))
  | 52 => .ok (.lld rs rt (imm16 rd sa fn))
  | 53 => .ok (.ldc1 rs rt (imm16 rd sa fn))
  | 55 => .ok (.ld rs rt (imm16 rd sa fn))
  | 56 => .ok (.sc rs rt (imm16 rd sa fn))
  | 57 => .ok (.swc1 rs rt (imm16 rd sa fn))
  | 60 => .ok (.scd rs rt (imm16 rd sa fn))
  | 61 => .ok (.sdc1 rs rt (imm16 rd sa fn))
  | 63 => .ok (.sd rs rt (imm16 rd sa fn))
  | _ => .error .integer

/-- The instruction a word stands for, or why it is none (R318). -/
def decode (w : HalfWord) : Except Reserved Instr :=
  decodeFields (opField w) (rsField w) (rtField w) (rdField w) (saField w) (fnField w)

/-- The instruction of a word numbered as spec/opcode_table.json numbers its bits. -/
def decodeTableWord (_nbits w : Nat) : Option Instr :=
  match decode (BitVec.ofNat 32 w) with
  | .ok i => some i
  | .error _ => none

/-- The word of six fields (R301, R302). -/
def pack (op : BitVec 6) (rs rt rd sa : BitVec 5) (fn : BitVec 6) : HalfWord := op ++ rs ++ rt ++ rd ++ sa ++ fn

/-- Five bits of a field from bit `k` up. -/
def sub5 {n : Nat} (x : BitVec n) (k : Nat) : BitVec 5 := x.extractLsb' k 5

/-- Six bits of a field from bit `k` up. -/
def sub6 {n : Nat} (x : BitVec n) (k : Nat) : BitVec 6 := x.extractLsb' k 6

/-- The rs field of WAIT: the CO bit and bits 24:21 of the code (R309). -/
def coWait (code : BitVec 19) : BitVec 5 := (1 : BitVec 1) ++ code.extractLsb' 15 4

/-- A condition code number with two bits after it (R302). -/
def ccLow (cc : BitVec 3) (low : BitVec 2) : BitVec 5 := cc ++ low

/-- The function field of the COP0 moves: zero and the select field (R302). -/
def selFn (sel : BitVec 3) : BitVec 6 := (0 : BitVec 3) ++ sel

/-- The word of an instruction (R301 to R313). -/
def encode : Instr → HalfWord
  | .add rs rt rd => pack 0 rs rt rd 0 32
  | .addi rs rt imm => pack 8 rs rt (sub5 imm 11) (sub5 imm 6) (sub6 imm 0)
  | .addiu rs rt imm => pack 9 rs rt (sub5 imm 11) (sub5 imm 6) (sub6 imm 0)
  | .addu rs rt rd => pack 0 rs rt rd 0 33
  | .clo rs rt rd => pack 28 rs rt rd 0 33
  | .clz rs rt rd => pack 28 rs rt rd 0 32
  | .dadd rs rt rd => pack 0 rs rt rd 0 44
  | .daddi rs rt imm => pack 24 rs rt (sub5 imm 11) (sub5 imm 6) (sub6 imm 0)
  | .daddiu rs rt imm => pack 25 rs rt (sub5 imm 11) (sub5 imm 6) (sub6 imm 0)
  | .daddu rs rt rd => pack 0 rs rt rd 0 45
  | .dclo rs rt rd => pack 28 rs rt rd 0 37
  | .dclz rs rt rd => pack 28 rs rt rd 0 36
  | .ddiv rs rt => pack 0 rs rt 0 0 30
  | .ddivu rs rt => pack 0 rs rt 0 0 31
  | .div rs rt => pack 0 rs rt 0 0 26
  | .divu rs rt => pack 0 rs rt 0 0 27
  | .dmult rs rt => pack 0 rs rt 0 0 28
  | .dmultu rs rt => pack 0 rs rt 0 0 29
  | .dsub rs rt rd => pack 0 rs rt rd 0 46
  | .dsubu rs rt rd => pack 0 rs rt rd 0 47
  | .madd rs rt => pack 28 rs rt 0 0 0
  | .maddu rs rt => pack 28 rs rt 0 0 1
  | .msub rs rt => pack 28 rs rt 0 0 4
  | .msubu rs rt => pack 28 rs rt 0 0 5
  | .mul rs rt rd => pack 28 rs rt rd 0 2
  | .mult rs rt => pack 0 rs rt 0 0 24
  | .multu rs rt => pack 0 rs rt 0 0 25
  | .slt rs rt rd => pack 0 rs rt rd 0 42
  | .slti rs rt imm => pack 10 rs rt (sub5 imm 11) (sub5 imm 6) (sub6 imm 0)
  | .sltiu rs rt imm => pack 11 rs rt (sub5 imm 11) (sub5 imm 6) (sub6 imm 0)
  | .sltu rs rt rd => pack 0 rs rt rd 0 43
  | .sub rs rt rd => pack 0 rs rt rd 0 34
  | .subu rs rt rd => pack 0 rs rt rd 0 35
  | .and rs rt rd => pack 0 rs rt rd 0 36
  | .andi rs rt imm => pack 12 rs rt (sub5 imm 11) (sub5 imm 6) (sub6 imm 0)
  | .or rs rt rd => pack 0 rs rt rd 0 37
  | .ori rs rt imm => pack 13 rs rt (sub5 imm 11) (sub5 imm 6) (sub6 imm 0)
  | .xor rs rt rd => pack 0 rs rt rd 0 38
  | .xori rs rt imm => pack 14 rs rt (sub5 imm 11) (sub5 imm 6) (sub6 imm 0)
  | .nor rs rt rd => pack 0 rs rt rd 0 39
  | .lui rt imm => pack 15 0 rt (sub5 imm 11) (sub5 imm 6) (sub6 imm 0)
  | .mfhi rd => pack 0 0 0 rd 0 16
  | .mflo rd => pack 0 0 0 rd 0 18
  | .mthi rs => pack 0 rs 0 0 0 17
  | .mtlo rs => pack 0 rs 0 0 0 19
  | .movn rs rt rd => pack 0 rs rt rd 0 11
  | .movz rs rt rd => pack 0 rs rt rd 0 10
  | .movt rs cc rd => pack 0 rs (ccLow cc 1) rd 0 1
  | .movf rs cc rd => pack 0 rs (ccLow cc 0) rd 0 1
  | .sll rt rd sa => pack 0 0 rt rd sa 0
  | .srl rt rd sa => pack 0 0 rt rd sa 2
  | .sra rt rd sa => pack 0 0 rt rd sa 3
  | .sllv rs rt rd => pack 0 rs rt rd 0 4
  | .srlv rs rt rd => pack 0 rs rt rd 0 6
  | .srav rs rt rd => pack 0 rs rt rd 0 7
  | .dsll rt rd sa => pack 0 0 rt rd sa 56
  | .dsrl rt rd sa => pack 0 0 rt rd sa 58
  | .dsra rt rd sa => pack 0 0 rt rd sa 59
  | .dsllv rs rt rd => pack 0 rs rt rd 0 20
  | .dsrlv rs rt rd => pack 0 rs rt rd 0 22
  | .dsrav rs rt rd => pack 0 rs rt rd 0 23
  | .dsll32 rt rd sa => pack 0 0 rt rd sa 60
  | .dsrl32 rt rd sa => pack 0 0 rt rd sa 62
  | .dsra32 rt rd sa => pack 0 0 rt rd sa 63
  | .j target => pack 2 (sub5 target 21) (sub5 target 16) (sub5 target 11) (sub5 target 6) (sub6 target 0)
  | .jal target => pack 3 (sub5 target 21) (sub5 target 16) (sub5 target 11) (sub5 target 6) (sub6 target 0)
  | .jr rs hint => pack 0 rs 0 0 hint 8
  | .jalr rs rd hint => pack 0 rs 0 rd hint 9
  | .beq rs rt offset => pack 4 rs rt (sub5 offset 11) (sub5 offset 6) (sub6 offset 0)
  | .bne rs rt offset => pack 5 rs rt (sub5 offset 11) (sub5 offset 6) (sub6 offset 0)
  | .blez rs offset => pack 6 rs 0 (sub5 offset 11) (sub5 offset 6) (sub6 offset 0)
  | .bgtz rs offset => pack 7 rs 0 (sub5 offset 11) (sub5 offset 6) (sub6 offset 0)
  | .bltz rs offset => pack 1 rs 0 (sub5 offset 11) (sub5 offset 6) (sub6 offset 0)
  | .bgez rs offset => pack 1 rs 1 (sub5 offset 11) (sub5 offset 6) (sub6 offset 0)
  | .bltzal rs offset => pack 1 rs 16 (sub5 offset 11) (sub5 offset 6) (sub6 offset 0)
  | .bgezal rs offset => pack 1 rs 17 (sub5 offset 11) (sub5 offset 6) (sub6 offset 0)
  | .beql rs rt offset => pack 20 rs rt (sub5 offset 11) (sub5 offset 6) (sub6 offset 0)
  | .bnel rs rt offset => pack 21 rs rt (sub5 offset 11) (sub5 offset 6) (sub6 offset 0)
  | .blezl rs offset => pack 22 rs 0 (sub5 offset 11) (sub5 offset 6) (sub6 offset 0)
  | .bgtzl rs offset => pack 23 rs 0 (sub5 offset 11) (sub5 offset 6) (sub6 offset 0)
  | .bltzl rs offset => pack 1 rs 2 (sub5 offset 11) (sub5 offset 6) (sub6 offset 0)
  | .bgezl rs offset => pack 1 rs 3 (sub5 offset 11) (sub5 offset 6) (sub6 offset 0)
  | .bltzall rs offset => pack 1 rs 18 (sub5 offset 11) (sub5 offset 6) (sub6 offset 0)
  | .bgezall rs offset => pack 1 rs 19 (sub5 offset 11) (sub5 offset 6) (sub6 offset 0)
  | .lb base rt offset => pack 32 base rt (sub5 offset 11) (sub5 offset 6) (sub6 offset 0)
  | .lbu base rt offset => pack 36 base rt (sub5 offset 11) (sub5 offset 6) (sub6 offset 0)
  | .lh base rt offset => pack 33 base rt (sub5 offset 11) (sub5 offset 6) (sub6 offset 0)
  | .lhu base rt offset => pack 37 base rt (sub5 offset 11) (sub5 offset 6) (sub6 offset 0)
  | .lw base rt offset => pack 35 base rt (sub5 offset 11) (sub5 offset 6) (sub6 offset 0)
  | .lwu base rt offset => pack 39 base rt (sub5 offset 11) (sub5 offset 6) (sub6 offset 0)
  | .ld base rt offset => pack 55 base rt (sub5 offset 11) (sub5 offset 6) (sub6 offset 0)
  | .lwl base rt offset => pack 34 base rt (sub5 offset 11) (sub5 offset 6) (sub6 offset 0)
  | .lwr base rt offset => pack 38 base rt (sub5 offset 11) (sub5 offset 6) (sub6 offset 0)
  | .ldl base rt offset => pack 26 base rt (sub5 offset 11) (sub5 offset 6) (sub6 offset 0)
  | .ldr base rt offset => pack 27 base rt (sub5 offset 11) (sub5 offset 6) (sub6 offset 0)
  | .swl base rt offset => pack 42 base rt (sub5 offset 11) (sub5 offset 6) (sub6 offset 0)
  | .swr base rt offset => pack 46 base rt (sub5 offset 11) (sub5 offset 6) (sub6 offset 0)
  | .sdl base rt offset => pack 44 base rt (sub5 offset 11) (sub5 offset 6) (sub6 offset 0)
  | .sdr base rt offset => pack 45 base rt (sub5 offset 11) (sub5 offset 6) (sub6 offset 0)
  | .sb base rt offset => pack 40 base rt (sub5 offset 11) (sub5 offset 6) (sub6 offset 0)
  | .sh base rt offset => pack 41 base rt (sub5 offset 11) (sub5 offset 6) (sub6 offset 0)
  | .sw base rt offset => pack 43 base rt (sub5 offset 11) (sub5 offset 6) (sub6 offset 0)
  | .sd base rt offset => pack 63 base rt (sub5 offset 11) (sub5 offset 6) (sub6 offset 0)
  | .ll base rt offset => pack 48 base rt (sub5 offset 11) (sub5 offset 6) (sub6 offset 0)
  | .lld base rt offset => pack 52 base rt (sub5 offset 11) (sub5 offset 6) (sub6 offset 0)
  | .sc base rt offset => pack 56 base rt (sub5 offset 11) (sub5 offset 6) (sub6 offset 0)
  | .scd base rt offset => pack 60 base rt (sub5 offset 11) (sub5 offset 6) (sub6 offset 0)
  | .pref base hint offset => pack 51 base hint (sub5 offset 11) (sub5 offset 6) (sub6 offset 0)
  | .prefx base index hint => pack 19 base index hint 0 15
  | .sync stype => pack 0 0 0 0 stype 15
  | .syscall code => pack 0 (sub5 code 15) (sub5 code 10) (sub5 code 5) (sub5 code 0) 12
  | .breakpoint code => pack 0 (sub5 code 15) (sub5 code 10) (sub5 code 5) (sub5 code 0) 13
  | .tge rs rt code => pack 0 rs rt (sub5 code 5) (sub5 code 0) 48
  | .tgeu rs rt code => pack 0 rs rt (sub5 code 5) (sub5 code 0) 49
  | .tlt rs rt code => pack 0 rs rt (sub5 code 5) (sub5 code 0) 50
  | .tltu rs rt code => pack 0 rs rt (sub5 code 5) (sub5 code 0) 51
  | .teq rs rt code => pack 0 rs rt (sub5 code 5) (sub5 code 0) 52
  | .tne rs rt code => pack 0 rs rt (sub5 code 5) (sub5 code 0) 54
  | .tgei rs imm => pack 1 rs 8 (sub5 imm 11) (sub5 imm 6) (sub6 imm 0)
  | .tgeiu rs imm => pack 1 rs 9 (sub5 imm 11) (sub5 imm 6) (sub6 imm 0)
  | .tlti rs imm => pack 1 rs 10 (sub5 imm 11) (sub5 imm 6) (sub6 imm 0)
  | .tltiu rs imm => pack 1 rs 11 (sub5 imm 11) (sub5 imm 6) (sub6 imm 0)
  | .teqi rs imm => pack 1 rs 12 (sub5 imm 11) (sub5 imm 6) (sub6 imm 0)
  | .tnei rs imm => pack 1 rs 14 (sub5 imm 11) (sub5 imm 6) (sub6 imm 0)
  | .mfc0 rt rd sel => pack 16 0 rt rd 0 (selFn sel)
  | .mtc0 rt rd sel => pack 16 4 rt rd 0 (selFn sel)
  | .dmfc0 rt rd sel => pack 16 1 rt rd 0 (selFn sel)
  | .dmtc0 rt rd sel => pack 16 5 rt rd 0 (selFn sel)
  | .wait code => pack 16 (coWait code) (sub5 code 10) (sub5 code 5) (sub5 code 0) 32
  | .sdbbp code => pack 28 (sub5 code 15) (sub5 code 10) (sub5 code 5) (sub5 code 0) 63
  | .cache base op offset => pack 47 base op (sub5 offset 11) (sub5 offset 6) (sub6 offset 0)
  | .addS ft fs fd => pack 17 16 ft fs fd 0
  | .addD ft fs fd => pack 17 17 ft fs fd 0
  | .subS ft fs fd => pack 17 16 ft fs fd 1
  | .subD ft fs fd => pack 17 17 ft fs fd 1
  | .mulS ft fs fd => pack 17 16 ft fs fd 2
  | .mulD ft fs fd => pack 17 17 ft fs fd 2
  | .divS ft fs fd => pack 17 16 ft fs fd 3
  | .divD ft fs fd => pack 17 17 ft fs fd 3
  | .absS fs fd => pack 17 16 0 fs fd 5
  | .absD fs fd => pack 17 17 0 fs fd 5
  | .negS fs fd => pack 17 16 0 fs fd 7
  | .negD fs fd => pack 17 17 0 fs fd 7
  | .sqrtS fs fd => pack 17 16 0 fs fd 4
  | .sqrtD fs fd => pack 17 17 0 fs fd 4
  | .maddS fr ft fs fd => pack 19 fr ft fs fd 32
  | .maddD fr ft fs fd => pack 19 fr ft fs fd 33
  | .msubS fr ft fs fd => pack 19 fr ft fs fd 40
  | .msubD fr ft fs fd => pack 19 fr ft fs fd 41
  | .nmaddS fr ft fs fd => pack 19 fr ft fs fd 48
  | .nmaddD fr ft fs fd => pack 19 fr ft fs fd 49
  | .nmsubS fr ft fs fd => pack 19 fr ft fs fd 56
  | .nmsubD fr ft fs fd => pack 19 fr ft fs fd 57
  | .recipS fs fd => pack 17 16 0 fs fd 21
  | .recipD fs fd => pack 17 17 0 fs fd 21
  | .mtc1 rt fs => pack 17 4 rt fs 0 0
  | .mfc1 rt fs => pack 17 0 rt fs 0 0
  | .dmtc1 rt fs => pack 17 5 rt fs 0 0
  | .dmfc1 rt fs => pack 17 1 rt fs 0 0
  | .lwc1 base ft offset => pack 49 base ft (sub5 offset 11) (sub5 offset 6) (sub6 offset 0)
  | .swc1 base ft offset => pack 57 base ft (sub5 offset 11) (sub5 offset 6) (sub6 offset 0)
  | .ldc1 base ft offset => pack 53 base ft (sub5 offset 11) (sub5 offset 6) (sub6 offset 0)
  | .sdc1 base ft offset => pack 61 base ft (sub5 offset 11) (sub5 offset 6) (sub6 offset 0)
  | .luxc1 base index fd => pack 19 base index 0 fd 5
  | .suxc1 base index fs => pack 19 base index fs 0 13
  | .lwxc1 base index fd => pack 19 base index 0 fd 0
  | .swxc1 base index fs => pack 19 base index fs 0 8
  | .ldxc1 base index fd => pack 19 base index 0 fd 1
  | .sdxc1 base index fs => pack 19 base index fs 0 9
  | .cfc1 rt fs => pack 17 2 rt fs 0 0
  | .ctc1 rt fs => pack 17 6 rt fs 0 0
  | .movS fs fd => pack 17 16 0 fs fd 6
  | .movD fs fd => pack 17 17 0 fs fd 6
  | .movtS cc fs fd => pack 17 16 (ccLow cc 1) fs fd 17
  | .movtD cc fs fd => pack 17 17 (ccLow cc 1) fs fd 17
  | .movfS cc fs fd => pack 17 16 (ccLow cc 0) fs fd 17
  | .movfD cc fs fd => pack 17 17 (ccLow cc 0) fs fd 17
  | .movnS rt fs fd => pack 17 16 rt fs fd 19
  | .movnD rt fs fd => pack 17 17 rt fs fd 19
  | .movzS rt fs fd => pack 17 16 rt fs fd 18
  | .movzD rt fs fd => pack 17 17 rt fs fd 18
  | .cvtSD fs fd => pack 17 17 0 fs fd 32
  | .cvtSW fs fd => pack 17 20 0 fs fd 32
  | .cvtSL fs fd => pack 17 21 0 fs fd 32
  | .cvtDS fs fd => pack 17 16 0 fs fd 33
  | .cvtDW fs fd => pack 17 20 0 fs fd 33
  | .cvtDL fs fd => pack 17 21 0 fs fd 33
  | .cvtWS fs fd => pack 17 16 0 fs fd 36
  | .cvtWD fs fd => pack 17 17 0 fs fd 36
  | .cvtLS fs fd => pack 17 16 0 fs fd 37
  | .cvtLD fs fd => pack 17 17 0 fs fd 37
  | .roundWS fs fd => pack 17 16 0 fs fd 12
  | .roundWD fs fd => pack 17 17 0 fs fd 12
  | .truncWS fs fd => pack 17 16 0 fs fd 13
  | .truncWD fs fd => pack 17 17 0 fs fd 13
  | .ceilWS fs fd => pack 17 16 0 fs fd 14
  | .ceilWD fs fd => pack 17 17 0 fs fd 14
  | .floorWS fs fd => pack 17 16 0 fs fd 15
  | .floorWD fs fd => pack 17 17 0 fs fd 15
  | .roundLS fs fd => pack 17 16 0 fs fd 8
  | .roundLD fs fd => pack 17 17 0 fs fd 8
  | .truncLS fs fd => pack 17 16 0 fs fd 9
  | .truncLD fs fd => pack 17 17 0 fs fd 9
  | .ceilLS fs fd => pack 17 16 0 fs fd 10
  | .ceilLD fs fd => pack 17 17 0 fs fd 10
  | .floorLS fs fd => pack 17 16 0 fs fd 11
  | .floorLD fs fd => pack 17 17 0 fs fd 11
  | .cFS ft fs cc => pack 17 16 ft fs (ccLow cc 0) 48
  | .cFD ft fs cc => pack 17 17 ft fs (ccLow cc 0) 48
  | .cUnS ft fs cc => pack 17 16 ft fs (ccLow cc 0) 49
  | .cUnD ft fs cc => pack 17 17 ft fs (ccLow cc 0) 49
  | .cEqS ft fs cc => pack 17 16 ft fs (ccLow cc 0) 50
  | .cEqD ft fs cc => pack 17 17 ft fs (ccLow cc 0) 50
  | .cUeqS ft fs cc => pack 17 16 ft fs (ccLow cc 0) 51
  | .cUeqD ft fs cc => pack 17 17 ft fs (ccLow cc 0) 51
  | .cOltS ft fs cc => pack 17 16 ft fs (ccLow cc 0) 52
  | .cOltD ft fs cc => pack 17 17 ft fs (ccLow cc 0) 52
  | .cUltS ft fs cc => pack 17 16 ft fs (ccLow cc 0) 53
  | .cUltD ft fs cc => pack 17 17 ft fs (ccLow cc 0) 53
  | .cOleS ft fs cc => pack 17 16 ft fs (ccLow cc 0) 54
  | .cOleD ft fs cc => pack 17 17 ft fs (ccLow cc 0) 54
  | .cUleS ft fs cc => pack 17 16 ft fs (ccLow cc 0) 55
  | .cUleD ft fs cc => pack 17 17 ft fs (ccLow cc 0) 55
  | .cSfS ft fs cc => pack 17 16 ft fs (ccLow cc 0) 56
  | .cSfD ft fs cc => pack 17 17 ft fs (ccLow cc 0) 56
  | .cNgleS ft fs cc => pack 17 16 ft fs (ccLow cc 0) 57
  | .cNgleD ft fs cc => pack 17 17 ft fs (ccLow cc 0) 57
  | .cSeqS ft fs cc => pack 17 16 ft fs (ccLow cc 0) 58
  | .cSeqD ft fs cc => pack 17 17 ft fs (ccLow cc 0) 58
  | .cNglS ft fs cc => pack 17 16 ft fs (ccLow cc 0) 59
  | .cNglD ft fs cc => pack 17 17 ft fs (ccLow cc 0) 59
  | .cLtS ft fs cc => pack 17 16 ft fs (ccLow cc 0) 60
  | .cLtD ft fs cc => pack 17 17 ft fs (ccLow cc 0) 60
  | .cNgeS ft fs cc => pack 17 16 ft fs (ccLow cc 0) 61
  | .cNgeD ft fs cc => pack 17 17 ft fs (ccLow cc 0) 61
  | .cLeS ft fs cc => pack 17 16 ft fs (ccLow cc 0) 62
  | .cLeD ft fs cc => pack 17 17 ft fs (ccLow cc 0) 62
  | .cNgtS ft fs cc => pack 17 16 ft fs (ccLow cc 0) 63
  | .cNgtD ft fs cc => pack 17 17 ft fs (ccLow cc 0) 63
  | .bc1t cc offset => pack 17 8 (ccLow cc 1) (sub5 offset 11) (sub5 offset 6) (sub6 offset 0)
  | .bc1f cc offset => pack 17 8 (ccLow cc 0) (sub5 offset 11) (sub5 offset 6) (sub6 offset 0)
  | .bc1tl cc offset => pack 17 8 (ccLow cc 3) (sub5 offset 11) (sub5 offset 6) (sub6 offset 0)
  | .bc1fl cc offset => pack 17 8 (ccLow cc 2) (sub5 offset 11) (sub5 offset 6) (sub6 offset 0)
  | .nop => pack 0 0 0 0 0 0
  | .ssnop => pack 0 0 0 0 1 0
  | .tlbr => pack 16 16 0 0 0 1
  | .tlbwi => pack 16 16 0 0 0 2
  | .tlbwr => pack 16 16 0 0 0 6
  | .tlbp => pack 16 16 0 0 0 8
  | .eret => pack 16 16 0 0 0 24
  | .deret => pack 16 16 0 0 0 31

end Sys2Proof
end

