-- ==== Sys2Proof/Machine/Reads.lean ====
section
/-! DEFINITION. Which registers an instruction reads: what a load whose bus error is not reported yet can hold up
(60_exceptions.md R808). -/

namespace Sys2Proof.Machine

/-- The registers an instruction reads, as destinations of an earlier load. -/
def reads : Instr → List Dest
  | .add rs rt _ => [.gpr rs, .gpr rt]
  | .addi rs _ _ => [.gpr rs]
  | .addiu rs _ _ => [.gpr rs]
  | .addu rs rt _ => [.gpr rs, .gpr rt]
  | .clo rs _ _ => [.gpr rs]
  | .clz rs _ _ => [.gpr rs]
  | .dadd rs rt _ => [.gpr rs, .gpr rt]
  | .daddi rs _ _ => [.gpr rs]
  | .daddiu rs _ _ => [.gpr rs]
  | .daddu rs rt _ => [.gpr rs, .gpr rt]
  | .dclo rs _ _ => [.gpr rs]
  | .dclz rs _ _ => [.gpr rs]
  | .ddiv rs rt => [.gpr rs, .gpr rt]
  | .ddivu rs rt => [.gpr rs, .gpr rt]
  | .div rs rt => [.gpr rs, .gpr rt]
  | .divu rs rt => [.gpr rs, .gpr rt]
  | .dmult rs rt => [.gpr rs, .gpr rt]
  | .dmultu rs rt => [.gpr rs, .gpr rt]
  | .dsub rs rt _ => [.gpr rs, .gpr rt]
  | .dsubu rs rt _ => [.gpr rs, .gpr rt]
  | .madd rs rt => [.gpr rs, .gpr rt]
  | .maddu rs rt => [.gpr rs, .gpr rt]
  | .msub rs rt => [.gpr rs, .gpr rt]
  | .msubu rs rt => [.gpr rs, .gpr rt]
  | .mul rs rt _ => [.gpr rs, .gpr rt]
  | .mult rs rt => [.gpr rs, .gpr rt]
  | .multu rs rt => [.gpr rs, .gpr rt]
  | .slt rs rt _ => [.gpr rs, .gpr rt]
  | .slti rs _ _ => [.gpr rs]
  | .sltiu rs _ _ => [.gpr rs]
  | .sltu rs rt _ => [.gpr rs, .gpr rt]
  | .sub rs rt _ => [.gpr rs, .gpr rt]
  | .subu rs rt _ => [.gpr rs, .gpr rt]
  | .and rs rt _ => [.gpr rs, .gpr rt]
  | .andi rs _ _ => [.gpr rs]
  | .or rs rt _ => [.gpr rs, .gpr rt]
  | .ori rs _ _ => [.gpr rs]
  | .xor rs rt _ => [.gpr rs, .gpr rt]
  | .xori rs _ _ => [.gpr rs]
  | .nor rs rt _ => [.gpr rs, .gpr rt]
  | .lui _ _ => []
  | .mfhi _ => []
  | .mflo _ => []
  | .mthi rs => [.gpr rs]
  | .mtlo rs => [.gpr rs]
  | .movn rs rt _ => [.gpr rs, .gpr rt]
  | .movz rs rt _ => [.gpr rs, .gpr rt]
  | .movt rs _ _ => [.gpr rs]
  | .movf rs _ _ => [.gpr rs]
  | .sll rt _ _ => [.gpr rt]
  | .srl rt _ _ => [.gpr rt]
  | .sra rt _ _ => [.gpr rt]
  | .sllv rs rt _ => [.gpr rs, .gpr rt]
  | .srlv rs rt _ => [.gpr rs, .gpr rt]
  | .srav rs rt _ => [.gpr rs, .gpr rt]
  | .dsll rt _ _ => [.gpr rt]
  | .dsrl rt _ _ => [.gpr rt]
  | .dsra rt _ _ => [.gpr rt]
  | .dsllv rs rt _ => [.gpr rs, .gpr rt]
  | .dsrlv rs rt _ => [.gpr rs, .gpr rt]
  | .dsrav rs rt _ => [.gpr rs, .gpr rt]
  | .dsll32 rt _ _ => [.gpr rt]
  | .dsrl32 rt _ _ => [.gpr rt]
  | .dsra32 rt _ _ => [.gpr rt]
  | .j _ => []
  | .jal _ => []
  | .jr rs _ => [.gpr rs]
  | .jalr rs _ _ => [.gpr rs]
  | .beq rs rt _ => [.gpr rs, .gpr rt]
  | .bne rs rt _ => [.gpr rs, .gpr rt]
  | .blez rs _ => [.gpr rs]
  | .bgtz rs _ => [.gpr rs]
  | .bltz rs _ => [.gpr rs]
  | .bgez rs _ => [.gpr rs]
  | .bltzal rs _ => [.gpr rs]
  | .bgezal rs _ => [.gpr rs]
  | .beql rs rt _ => [.gpr rs, .gpr rt]
  | .bnel rs rt _ => [.gpr rs, .gpr rt]
  | .blezl rs _ => [.gpr rs]
  | .bgtzl rs _ => [.gpr rs]
  | .bltzl rs _ => [.gpr rs]
  | .bgezl rs _ => [.gpr rs]
  | .bltzall rs _ => [.gpr rs]
  | .bgezall rs _ => [.gpr rs]
  | .lb base _ _ => [.gpr base]
  | .lbu base _ _ => [.gpr base]
  | .lh base _ _ => [.gpr base]
  | .lhu base _ _ => [.gpr base]
  | .lw base _ _ => [.gpr base]
  | .lwu base _ _ => [.gpr base]
  | .ld base _ _ => [.gpr base]
  | .lwl base rt _ => [.gpr base, .gpr rt]
  | .lwr base rt _ => [.gpr base, .gpr rt]
  | .ldl base rt _ => [.gpr base, .gpr rt]
  | .ldr base rt _ => [.gpr base, .gpr rt]
  | .swl base rt _ => [.gpr base, .gpr rt]
  | .swr base rt _ => [.gpr base, .gpr rt]
  | .sdl base rt _ => [.gpr base, .gpr rt]
  | .sdr base rt _ => [.gpr base, .gpr rt]
  | .sb base rt _ => [.gpr base, .gpr rt]
  | .sh base rt _ => [.gpr base, .gpr rt]
  | .sw base rt _ => [.gpr base, .gpr rt]
  | .sd base rt _ => [.gpr base, .gpr rt]
  | .ll base _ _ => [.gpr base]
  | .lld base _ _ => [.gpr base]
  | .sc base rt _ => [.gpr base, .gpr rt]
  | .scd base rt _ => [.gpr base, .gpr rt]
  | .pref _ _ _ => []
  | .prefx _ _ _ => []
  | .sync _ => []
  | .syscall _ => []
  | .breakpoint _ => []
  | .tge rs rt _ => [.gpr rs, .gpr rt]
  | .tgeu rs rt _ => [.gpr rs, .gpr rt]
  | .tlt rs rt _ => [.gpr rs, .gpr rt]
  | .tltu rs rt _ => [.gpr rs, .gpr rt]
  | .teq rs rt _ => [.gpr rs, .gpr rt]
  | .tne rs rt _ => [.gpr rs, .gpr rt]
  | .tgei rs _ => [.gpr rs]
  | .tgeiu rs _ => [.gpr rs]
  | .tlti rs _ => [.gpr rs]
  | .tltiu rs _ => [.gpr rs]
  | .teqi rs _ => [.gpr rs]
  | .tnei rs _ => [.gpr rs]
  | .mfc0 _ _ _ => []
  | .mtc0 rt _ _ => [.gpr rt]
  | .dmfc0 _ _ _ => []
  | .dmtc0 rt _ _ => [.gpr rt]
  | .wait _ => []
  | .sdbbp _ => []
  | .cache base _ _ => [.gpr base]
  | .addS ft fs _ => [.fpr ft false, .fpr fs false]
  | .addD ft fs _ => [.fpr ft true, .fpr fs true]
  | .subS ft fs _ => [.fpr ft false, .fpr fs false]
  | .subD ft fs _ => [.fpr ft true, .fpr fs true]
  | .mulS ft fs _ => [.fpr ft false, .fpr fs false]
  | .mulD ft fs _ => [.fpr ft true, .fpr fs true]
  | .divS ft fs _ => [.fpr ft false, .fpr fs false]
  | .divD ft fs _ => [.fpr ft true, .fpr fs true]
  | .absS fs _ => [.fpr fs false]
  | .absD fs _ => [.fpr fs true]
  | .negS fs _ => [.fpr fs false]
  | .negD fs _ => [.fpr fs true]
  | .sqrtS fs _ => [.fpr fs false]
  | .sqrtD fs _ => [.fpr fs true]
  | .maddS fr ft fs _ => [.fpr ft false, .fpr fr false, .fpr fs false]
  | .maddD fr ft fs _ => [.fpr ft true, .fpr fr true, .fpr fs true]
  | .msubS fr ft fs _ => [.fpr ft false, .fpr fr false, .fpr fs false]
  | .msubD fr ft fs _ => [.fpr ft true, .fpr fr true, .fpr fs true]
  | .nmaddS fr ft fs _ => [.fpr ft false, .fpr fr false, .fpr fs false]
  | .nmaddD fr ft fs _ => [.fpr ft true, .fpr fr true, .fpr fs true]
  | .nmsubS fr ft fs _ => [.fpr ft false, .fpr fr false, .fpr fs false]
  | .nmsubD fr ft fs _ => [.fpr ft true, .fpr fr true, .fpr fs true]
  | .recipS fs _ => [.fpr fs false]
  | .recipD fs _ => [.fpr fs true]
  | .mtc1 rt _ => [.gpr rt]
  | .mfc1 _ fs => [.fpr fs false]
  | .dmtc1 rt _ => [.gpr rt]
  | .dmfc1 _ fs => [.fpr fs true]
  | .lwc1 base _ _ => [.gpr base]
  | .swc1 base ft _ => [.gpr base, .fpr ft false]
  | .ldc1 base _ _ => [.gpr base]
  | .sdc1 base ft _ => [.gpr base, .fpr ft true]
  | .luxc1 base index _ => [.gpr base, .gpr index]
  | .suxc1 base index fs => [.gpr base, .gpr index, .fpr fs true]
  | .lwxc1 base index _ => [.gpr base, .gpr index]
  | .swxc1 base index fs => [.gpr base, .gpr index, .fpr fs false]
  | .ldxc1 base index _ => [.gpr base, .gpr index]
  | .sdxc1 base index fs => [.gpr base, .gpr index, .fpr fs true]
  | .cfc1 _ _ => []
  | .ctc1 rt _ => [.gpr rt]
  | .movS fs _ => [.fpr fs false]
  | .movD fs _ => [.fpr fs true]
  | .movtS _ fs _ => [.fpr fs false]
  | .movtD _ fs _ => [.fpr fs true]
  | .movfS _ fs _ => [.fpr fs false]
  | .movfD _ fs _ => [.fpr fs true]
  | .movnS rt fs _ => [.gpr rt, .fpr fs false]
  | .movnD rt fs _ => [.gpr rt, .fpr fs true]
  | .movzS rt fs _ => [.gpr rt, .fpr fs false]
  | .movzD rt fs _ => [.gpr rt, .fpr fs true]
  | .cvtSD fs _ => [.fpr fs true]
  | .cvtSW fs _ => [.fpr fs false]
  | .cvtSL fs _ => [.fpr fs true]
  | .cvtDS fs _ => [.fpr fs false]
  | .cvtDW fs _ => [.fpr fs false]
  | .cvtDL fs _ => [.fpr fs true]
  | .cvtWS fs _ => [.fpr fs false]
  | .cvtWD fs _ => [.fpr fs true]
  | .cvtLS fs _ => [.fpr fs false]
  | .cvtLD fs _ => [.fpr fs true]
  | .roundWS fs _ => [.fpr fs false]
  | .roundWD fs _ => [.fpr fs true]
  | .truncWS fs _ => [.fpr fs false]
  | .truncWD fs _ => [.fpr fs true]
  | .ceilWS fs _ => [.fpr fs false]
  | .ceilWD fs _ => [.fpr fs true]
  | .floorWS fs _ => [.fpr fs false]
  | .floorWD fs _ => [.fpr fs true]
  | .roundLS fs _ => [.fpr fs false]
  | .roundLD fs _ => [.fpr fs true]
  | .truncLS fs _ => [.fpr fs false]
  | .truncLD fs _ => [.fpr fs true]
  | .ceilLS fs _ => [.fpr fs false]
  | .ceilLD fs _ => [.fpr fs true]
  | .floorLS fs _ => [.fpr fs false]
  | .floorLD fs _ => [.fpr fs true]
  | .cFS ft fs _ => [.fpr ft false, .fpr fs false]
  | .cFD ft fs _ => [.fpr ft true, .fpr fs true]
  | .cUnS ft fs _ => [.fpr ft false, .fpr fs false]
  | .cUnD ft fs _ => [.fpr ft true, .fpr fs true]
  | .cEqS ft fs _ => [.fpr ft false, .fpr fs false]
  | .cEqD ft fs _ => [.fpr ft true, .fpr fs true]
  | .cUeqS ft fs _ => [.fpr ft false, .fpr fs false]
  | .cUeqD ft fs _ => [.fpr ft true, .fpr fs true]
  | .cOltS ft fs _ => [.fpr ft false, .fpr fs false]
  | .cOltD ft fs _ => [.fpr ft true, .fpr fs true]
  | .cUltS ft fs _ => [.fpr ft false, .fpr fs false]
  | .cUltD ft fs _ => [.fpr ft true, .fpr fs true]
  | .cOleS ft fs _ => [.fpr ft false, .fpr fs false]
  | .cOleD ft fs _ => [.fpr ft true, .fpr fs true]
  | .cUleS ft fs _ => [.fpr ft false, .fpr fs false]
  | .cUleD ft fs _ => [.fpr ft true, .fpr fs true]
  | .cSfS ft fs _ => [.fpr ft false, .fpr fs false]
  | .cSfD ft fs _ => [.fpr ft true, .fpr fs true]
  | .cNgleS ft fs _ => [.fpr ft false, .fpr fs false]
  | .cNgleD ft fs _ => [.fpr ft true, .fpr fs true]
  | .cSeqS ft fs _ => [.fpr ft false, .fpr fs false]
  | .cSeqD ft fs _ => [.fpr ft true, .fpr fs true]
  | .cNglS ft fs _ => [.fpr ft false, .fpr fs false]
  | .cNglD ft fs _ => [.fpr ft true, .fpr fs true]
  | .cLtS ft fs _ => [.fpr ft false, .fpr fs false]
  | .cLtD ft fs _ => [.fpr ft true, .fpr fs true]
  | .cNgeS ft fs _ => [.fpr ft false, .fpr fs false]
  | .cNgeD ft fs _ => [.fpr ft true, .fpr fs true]
  | .cLeS ft fs _ => [.fpr ft false, .fpr fs false]
  | .cLeD ft fs _ => [.fpr ft true, .fpr fs true]
  | .cNgtS ft fs _ => [.fpr ft false, .fpr fs false]
  | .cNgtD ft fs _ => [.fpr ft true, .fpr fs true]
  | .bc1t _ _ => []
  | .bc1f _ _ => []
  | .bc1tl _ _ => []
  | .bc1fl _ _ => []
  | .nop => []
  | .ssnop => []
  | .tlbr => []
  | .tlbwi => []
  | .tlbwr => []
  | .tlbp => []
  | .eret => []
  | .deret => []

end Sys2Proof.Machine
end

