-- ==== Sys2Proof/Machine/Run.lean ====
section
/-! DEFINITION. What stands around an instruction: what comes before it (60_exceptions.md R817, R831, R835, R860), its fetch,
a word that is none (30_encoding.md R315 to R323), a data bus error reported late (60_exceptions.md R808), and what the
outside world does between two instructions (80_external_interface.md R945). -/

namespace Sys2Proof.Machine

/-- What executing a word that is no instruction does (30_encoding.md R315, R316, R319, R323). -/
def execReserved (r : Reserved) (s : State) : Out :=
  match r with
  | .integer => raise .ri s
  | .movci => needCu1 s (raise .ri s)
  | .cop0 => needCp0 s (raise .ri s)
  | .cop1 => needCu1 s (if s.conf.unimplFpuIsFpe then signalFpe causeE s else raise .ri s)
  | .cop2 => raise (.cpu 2) s

/-- The host's schedule has moved on by one entry. An entry sets the pins, and an edge on NMI makes it pending
(60_exceptions.md R831 to R835, 10_state.md R156). -/
def samplePins (h : HostInput) (s : State) : State :=
  { s with
    intPins := h.intPins
    nmiPin := h.nmi
    nmiPending := s.nmiPending || (h.nmi && !s.nmiPin)
    intHeld := h.holdInt
    resetRequest := h.reset }

/-- Count advances by `n`; passing or reaching Compare sets the timer request (60_exceptions.md R850, R851). -/
def advanceCount (n : Nat) (s : State) : State :=
  let d := (s.cp0.compare - s.cp0.count).toNat
  let hit := (d != 0 && decide (d ≤ n)) || decide (2 ^ 32 ≤ n)
  { s with
    cp0 := { s.cp0 with count := s.cp0.count + BitVec.ofNat 32 n }
    timerRequest := s.timerRequest || hit }

/-- A performance counter counts in the current state; asleep, only event 0 is counted (60_exceptions.md R855, R861). -/
def counterEnabled (s : State) (p : PerfCtl) : Bool :=
  let st := s.cp0.status
  let inMode := if st.exl then p.exl
    else (st.ksu == 0 && p.k) || (st.ksu == 1 && p.s) || (st.ksu == 2 && p.u)
  !st.erl && inMode && (!s.sleeping || p.event == 0)

/-- The two counters advance by the amounts the host names, where they are enabled (60_exceptions.md R855). -/
def advanceCounters (n0 n1 : Nat) (s : State) : State :=
  let c := s.cp0
  { s with cp0 := { c with
    perfCnt0 := if counterEnabled s c.perfCtl0 then c.perfCnt0 + BitVec.ofNat 32 n0 else c.perfCnt0
    perfCnt1 := if counterEnabled s c.perfCtl1 then c.perfCnt1 + BitVec.ofNat 32 n1 else c.perfCnt1 } }

/-- A device or an external bus master changes memory; there are 2^36 bytes of it (20_memory.md R200, R247). -/
def applyDma (l : List BusWrite) (s : State) : State :=
  { s with mem := (l.filter fun w => decide (w.key + w.bytes.length ≤ 2 ^ 36)).foldl applyWrite s.mem }

/-- One entry of the host's schedule: pins, counters, buffered writes that reach the bus, changes of memory. -/
def applyInput (h : HostInput) (s : State) : State :=
  samplePins h (applyDma h.dma (drain h.drain (advanceCounters h.perf0 h.perf1 (advanceCount h.count s))))

/-- The instruction boundary. Where the schedule is at its end the platform is idle: the pins keep their levels, Count
advances by one, the write buffer empties (DESIGN CHOICE, log 5). -/
def boundary (s : State) : State :=
  match s.host with
  | h :: t => { applyInput h s with host := t }
  | [] => { drainAll (advanceCount 1 s) with intHeld := false }

/-- The boundary after a step that answers a state. -/
def atBoundary (o : Out) : Out :=
  match o with
  | .next s => .next (boundary s)
  | .fault f => .fault f
  | .refused r => .refused r

/-- A data bus error is to be reported before the instruction at `pc`: its instructions have completed (60_exceptions.md
R808). -/
def lateErrorDue (s : State) : Bool :=
  match s.lateError with
  | some e => e.left == 0
  | none => false

/-- Two operands share a register, or, with FR = 0, a 64-bit one of them is the pair the other is a half of (10_state.md R45). -/
def sameRegister (s : State) (a b : Dest) : Bool :=
  match a, b with
  | .gpr x, .gpr y => x == y && x != 0
  | .fpr x v, .fpr y w => x == y || (!s.cp0.status.fr && (v || w) && x.extractLsb' 1 4 == y.extractLsb' 1 4)
  | _, _ => false

/-- The instruction waits for every earlier load: SYNC, WAIT, and a write that sets Status.RP, which is WAIT (20_memory.md R253,
60_exceptions.md R860, 10_state.md R86). -/
def waitsForLoads (s : State) : Instr → Bool
  | .sync _ => true
  | .wait _ => true
  | .mtc0 rt rd sel => rd == 12 && sel == 0 && (gprRead s rt).getLsbD 27
  | .dmtc0 rt rd sel => rd == 12 && sel == 0 && (gprRead s rt).getLsbD 27
  | _ => false

/-- The instruction cannot complete before the pending bus error is reported: it reads the destination of the load, or waits
for it (60_exceptions.md R808). -/
def needsLateData (s : State) (i : Instr) : Bool :=
  match s.lateError with
  | some e => waitsForLoads s i || (reads i).any (sameRegister s e.dest)
  | none => false

/-- The pending bus error is reported instead of the instruction at `pc`. In the delay slot of a branch that went before it the
branch is not among the instructions that complete: it is undone, its link register with it (60_exceptions.md R808). -/
def dbeInstead (s : State) : Out :=
  match s.lateError.bind (·.regs) with
  | some g => raise .dbe { s with pc := s.pc - 4, delay := none, gpr := g.set 0 0 }
  | none => raise .dbe s

/-- With a bus error pending, an instruction from state `s` that takes no exception counts as one of those that still complete,
a branch only where its delay slot can too; at any other the error is reported instead of it (60_exceptions.md R808, log 16). -/
def settle (s : State) (o : Out) : Out :=
  match s.lateError with
  | none => o
  | some e =>
    match o with
    | .next t =>
      if t.lateError.isSome && (t.delay.isNone || 1 < e.left) then
        let regs := if t.delay.isSome then some s.gpr else none
        .next { t with lateError := some { e with left := e.left - 1, regs := regs } }
      else dbeInstead s
    | _ => dbeInstead s

/-- The instruction was in the delay slot of a taken jump, which is now complete: it makes code stored earlier visible where
the rest of the recipe is done (20_memory.md R256; log 29). -/
def landed (s : State) (o : Out) : Out :=
  match o with
  | .next t => .next (if s.delay == some t.pc && t.pc != s.pc + 4 then noteJump t else t)
  | o => o

/-- What a step is to do: it is over, or an instruction is to be executed in a state. -/
inductive Action where
  | over (o : Out)
  | run (i : Instr) (s : State)

/-- Fetch and decode the instruction at `pc` (60_exceptions.md R817 rows 6 to 11). -/
def fetchInstr (s : State) : Action :=
  match fetchWord s s.pc with
  | .ok w t =>
    match decode w with
    | .ok i => if needsLateData s i then .over (dbeInstead s) else .run i t
    | .error r => .over (settle s (execReserved r t))
  | .trap e t => .over (settle s (raise e t))
  | .busError t => .over (settle s (raise .ibe t))
  | .stop f => .over (settle s (.fault f))

/-- The reserved mode KSU = 3 (10_state.md R96, U5). -/
def modeReserved (s : State) : Bool :=
  let st := s.cp0.status
  st.ksu == 3 && !st.exl && !st.erl

/-- The fetch at `pc` meets several TLB entries (60_exceptions.md R817 row 4, D44). -/
def fetchMeetsMultiple (s : State) : Bool := s.pc.extractLsb' 0 2 == 0 && translate s s.pc .fetch == .trap .mcheck

/-- The processor, awake, at an instruction: an interrupt comes first, but for a multiple match in the TLB, then a data bus
error that is due (60_exceptions.md R817 rows 4 to 17, R831; log 16). -/
def awakeAction (s : State) : Action :=
  if interruptDue s && !fetchMeetsMultiple s then .over (raise .int s)
  else if lateErrorDue s then .over (raise .dbe s)
  else if modeReserved s then .over (.fault .reservedKsu)
  else fetchInstr s

/-- The next thing the processor does, in the order of 60_exceptions.md R817: a reset, an NMI, sleep, an interrupt, a data bus
error of an earlier load, an instruction. -/
def nextAction (s : State) : Action :=
  match s.resetRequest with
  | some k => .over (.next (takeReset k s))
  | none =>
    if s.nmiPending then .over (.next (takeNmi s))
    else if s.sleeping && s.intPins == 0 then .over (.next s)
    else awakeAction (if s.sleeping then wake s else s)

/-- The state with an instruction word stored at the physical address `pc` translates to, in memory and in a line of the
instruction cache that holds the address; the line counts as code the program has not stored to (log 3). -/
def placeWord (w : HalfWord) (s : State) : State :=
  match translate s s.pc .fetch with
  | .ok pa _ =>
    let bs := splitBytes 4 (w.setWidth 64)
    let c := (hitWays s.icache pa).foldl
      (fun c way => setLine c way (lineOf pa) (patchLine (getLine c way (lineOf pa)) (pa.toNat % 32) bs)) s.icache
    let k := busAddress s (laneKey s.latches.bigEndian pa.toNat 4)
    { s with mem := writeBytes s.mem k bs, icache := c, codeStores := storeSet blankCode s.codeStores (k / 32) blankCode }
  | _ => s

/-- One step, given the meanings of the instructions. -/
def runStep (meaning : Instr → State → Out) (s : State) : Out :=
  match nextAction s with
  | .over o => atBoundary o
  | .run i t => atBoundary (settle t (landed t (meaning i t)))

end Sys2Proof.Machine
end

