-- ==== Sys2Proof/Machine/Step.lean ====
section
/-! DEFINITION. The step of the machine, and a state whose next instruction is a given word. -/

namespace Sys2Proof.Machine

/-- One step: what comes before the instruction, the instruction, and the boundary after it (Run.lean). -/
def step (s : State) : Host.Outcome State Fault Refusal := runStep exec s

/-- The state with an instruction word stored where the next fetch reads it (log 3). -/
def State.withFetchWord (s : State) (_nbits w : Nat) : State := placeWord (BitVec.ofNat 32 w) s

end Sys2Proof.Machine
end

