-- ==== Sys2Proof/Safety.lean ====
section
/-! DEFINITION. What the claims about the machine speak of: the invariant of every state the machine reaches, runs that neither
fault nor are refused, and the shapes of what an instruction may do. -/

namespace Sys2Proof.Machine

/-- A cache holds its lines and its Way Select words in canonical form. -/
def cacheWf (c : Cache) : Bool := storeWf blankLine c.lines && storeWf 0 c.ws

/-- Memory, the caches, the Branch Prediction RAM and the record of stores that fetches need not see are in canonical form: equal
contents are equal data. -/
def State.canonical (s : State) : Bool :=
  Memory.wf s.mem && cacheWf s.icache && cacheWf s.dcache && storeWf 0 s.brRam && storeWf blankCode s.codeStores

/-- Random stays between Wired and 47, unless Wired is above 47 (10_state.md R75, R79). -/
def randomInRange (c : Cp0) : Prop := c.random ≤ 47 ∧ (c.wired ≤ 47 → c.wired ≤ c.random)

/-- Register 0 holds 0 (10_state.md R31). -/
def zeroIsZero (s : State) : Prop := s.gpr[0] = 0

/-- What every step keeps. -/
structure State.Inv (s : State) : Prop where
  canonical : s.canonical = true
  random : randomInRange s.cp0
  zero : zeroIsZero s

/-- The machine runs `n` steps without a fault or a refusal. -/
def safeFor (n : Nat) (s : State) : Prop := ∃ t, Host.Core.run core n s = .next t

end Sys2Proof.Machine

namespace Sys2Proof.Claims

open Sys2Proof.Machine

/-- One byte lane of memory as the processor's own loads see it: the buffered writes count as done (20_memory.md R250). -/
def seenByte (s : State) (lane : Nat) : Byte := readByte (memView s) lane

/-- Memory, the write buffer and the caches are as before, byte by byte and as data. -/
def SameMemory (s t : State) : Prop :=
  (∀ lane, seenByte t lane = seenByte s lane) ∧ (∀ lane, readByte t.mem lane = readByte s.mem lane) ∧ t.wbuf = s.wbuf
    ∧ t.icache = s.icache ∧ t.dcache = s.dcache

/-- The instruction was no branch: control is at the pending target if it stood in a delay slot, else at the next address
(43_branch_jump_nop.md R500). -/
def MovesOn (s t : State) : Prop := t.pc = (match s.delay with | some a => a | none => s.pc + 4) ∧ t.delay = none

/-- General register `rd` holds `v` (register 0 still reads 0) and the others what they held. -/
def GprIs (s t : State) (rd : RegNum) (v : Word) : Prop :=
  gprRead t rd = (if rd = 0 then 0 else v) ∧ ∀ r, r ≠ rd → gprRead t r = gprRead s r

/-- `t` is `s` after an instruction that puts `v` into general register `rd` and does nothing else. -/
structure GprResult (s : State) (rd : RegNum) (v : Word) (t : State) : Prop where
  value : GprIs s t rd v
  moves : MovesOn s t
  memory : SameMemory s t
  rest : t = { s with gpr := t.gpr, pc := t.pc, delay := t.delay }

/-- The instruction completes: it puts `v` into general register `rd` and does nothing else. -/
def WritesGpr (s : State) (o : Out) (rd : RegNum) (v : Word) : Prop := ∃ t, o = .next t ∧ GprResult s rd v t

/-- The instruction completes: it puts a value with this low word into general register `rd` and does nothing else; a free
value may have been used for the upper word. -/
def WritesLowWord (s : State) (o : Out) (rd : RegNum) (low : BitVec 32) : Prop :=
  ∃ t v n, o = .next t ∧ GprResult { s with draws := n } rd v t ∧ v.extractLsb' 0 32 = low

/-- The registers `srcs` may be operands of a 32-bit operation: WORD_OPERAND_STRICT is off, or each holds a sign-extended word
(40_integer_arithmetic.md R400). -/
def WordsOk (s : State) (srcs : List RegNum) : Prop :=
  s.conf.wordOperandStrict = false ∨ ∀ r ∈ srcs, gprRead s r = ((gprRead s r).extractLsb' 0 32).signExtend 64

/-- A 32-bit operation on the registers `srcs` completes: it puts `v` into general register `rd`, or, where WORD_OPERAND_STRICT
asks for it, some value, and does nothing else (R400, D27). -/
def WritesWord (s : State) (o : Out) (srcs : List RegNum) (rd : RegNum) (v : Word) : Prop :=
  (WordsOk s srcs → WritesGpr s o rd v)
    ∧ (¬ WordsOk s srcs → ∃ t x n, o = .next t ∧ GprResult { s with draws := n } rd x t)

/-- The instruction completes: HI and LO become the two values and nothing else happens. -/
def WritesHiLo (s : State) (o : Out) (hi lo : Word) : Prop :=
  ∃ t, o = .next t ∧ t.hi = hi ∧ t.lo = lo ∧ (∀ r, gprRead t r = gprRead s r) ∧ MovesOn s t ∧ SameMemory s t
    ∧ t = { s with hi := t.hi, lo := t.lo, pc := t.pc, delay := t.delay }

/-- The instruction completes: HI and LO hold some values and nothing else happens. -/
def FreesHiLo (s : State) (o : Out) : Prop := ∃ hi lo n, WritesHiLo { s with draws := n } o hi lo

/-- A 32-bit multiply or divide of the registers `srcs` completes: HI and LO become the two values, or, where
WORD_OPERAND_STRICT asks for it, some values, and nothing else happens (R400, D27). -/
def WritesHiLoWord (s : State) (o : Out) (srcs : List RegNum) (hi lo : Word) : Prop :=
  (WordsOk s srcs → WritesHiLo s o hi lo) ∧ (¬ WordsOk s srcs → FreesHiLo s o)

/-- The instruction completes and does nothing. -/
def DoesNothing (s : State) (o : Out) : Prop :=
  ∃ t, o = .next t ∧ MovesOn s t ∧ SameMemory s t ∧ t = { s with pc := t.pc, delay := t.delay }

/-- A branch or jump with its delay slot still to come: control is at the next address and goes on to `target` after it; `t`
is `s` but for these and the general registers. -/
def OpensSlot (s t : State) (target : Word) : Prop :=
  t.pc = s.pc + 4 ∧ t.delay = some target ∧ SameMemory s t ∧ t = { s with gpr := t.gpr, pc := t.pc, delay := t.delay }

/-- The delay slot is nullified: control is behind it (43_branch_jump_nop.md R502). -/
def SkipsSlot (s t : State) : Prop :=
  t.pc = s.pc + 8 ∧ t.delay = none ∧ SameMemory s t ∧ t = { s with gpr := t.gpr, pc := t.pc, delay := t.delay }

/-- A branch with no link, ordinary: taken to `target` or not, the next instruction is its delay slot. -/
def Branches (s : State) (o : Out) (taken : Bool) (target : Word) : Prop :=
  ∃ t, o = .next t ∧ (∀ r, gprRead t r = gprRead s r) ∧ OpensSlot s t (if taken then target else s.pc + 8)

/-- A branch with no link, likely. -/
def BranchesLikely (s : State) (o : Out) (taken : Bool) (target : Word) : Prop :=
  ∃ t, o = .next t ∧ (∀ r, gprRead t r = gprRead s r) ∧ (if taken then OpensSlot s t target else SkipsSlot s t)

/-- A jump or branch that writes the link to `rd`, ordinary. -/
def Links (s : State) (o : Out) (rd : RegNum) (taken : Bool) (target : Word) : Prop :=
  ∃ t, o = .next t ∧ GprIs s t rd (s.pc + 8) ∧ OpensSlot s t (if taken then target else s.pc + 8)

/-- A branch that writes the link to register 31, likely. -/
def LinksLikely (s : State) (o : Out) (taken : Bool) (target : Word) : Prop :=
  ∃ t, o = .next t ∧ GprIs s t 31 (s.pc + 8) ∧ (if taken then OpensSlot s t target else SkipsSlot s t)

/-- The base of the exception vectors (60_exceptions.md R822). -/
def vectors (s : State) : Word := if s.cp0.status.bev then 0xFFFFFFFFBFC00200 else 0xFFFFFFFF80000000

/-- The registers an exception saves into, after its entry from `s`: with EXL = 0 EPC is the address of the instruction, or of
the branch if it stands in a delay slot, and BD tells which; with EXL = 1 both keep their values (60_exceptions.md R820). -/
def SavesRestart (s t : State) : Prop :=
  if s.cp0.status.exl then t.cp0.epc = s.cp0.epc ∧ t.cp0.cause.bd = s.cp0.cause.bd
  else t.cp0.epc = (if s.delay.isSome then s.pc - 4 else s.pc) ∧ t.cp0.cause.bd = s.delay.isSome

/-- What the entry of an exception never touches: the registers, the FPU, LLbit, the TLB, the caches, memory, and Status but for
EXL (60_exceptions.md R820). -/
def EntryKeeps (s t : State) : Prop :=
  (∀ r, gprRead t r = gprRead s r) ∧ SameMemory s t ∧ t.cp0.status = { s.cp0.status with exl := true }
    ∧ t.cp0.cause = { s.cp0.cause with bd := t.cp0.cause.bd, ce := t.cp0.cause.ce, excCode := t.cp0.cause.excCode }
    ∧ t = { s with pc := t.pc, delay := t.delay, lateError := t.lateError, draws := t.draws, cp0 := t.cp0 }

/-- `t` is `s` after the entry of an exception with this code at this offset (60_exceptions.md R820, R822). -/
structure Entered (s : State) (code : BitVec 5) (offset : Word) (t : State) : Prop where
  code : t.cp0.cause.excCode = code
  exl : t.cp0.status.exl = true
  pc : t.pc = vectors s + offset
  delay : t.delay = none
  saves : SavesRestart s t
  keeps : EntryKeeps s t

/-- The CP0 registers an exception without an address leaves alone (60_exceptions.md R824). -/
def KeepsAddresses (s t : State) : Prop :=
  t.cp0 = { s.cp0 with epc := t.cp0.epc, cause := t.cp0.cause, status := t.cp0.status }

/-- The instruction raises an exception that records no address, at the general vector. -/
def Raises (s : State) (o : Out) (code : BitVec 5) : Prop :=
  ∃ t, o = .next t ∧ Entered s code 0x180 t ∧ KeepsAddresses s t

/-- The instruction raises CpU for a coprocessor (60_exceptions.md R811). -/
def RaisesCpu (s : State) (o : Out) (unit : BitVec 2) : Prop :=
  ∃ t, o = .next t ∧ Entered s 11 0x180 t ∧ KeepsAddresses s t ∧ t.cp0.cause.ce = unit

/-- The CP0 registers an exception with an address leaves alone: all but those the entry saves into, BadVAddr, and the page
fields of EntryHi, Context and XContext (60_exceptions.md R824). -/
def KeepsOtherCp0 (s t : State) : Prop :=
  t.cp0 = { s.cp0 with
    badVAddr := t.cp0.badVAddr
    entryHi := { t.cp0.entryHi with asid := s.cp0.entryHi.asid }
    context := { t.cp0.context with pteBase := s.cp0.context.pteBase }
    xcontext := { t.cp0.xcontext with pteBase := s.cp0.xcontext.pteBase }
    epc := t.cp0.epc
    cause := t.cp0.cause
    status := t.cp0.status }

/-- `t` is `s` after the entry of an address error (AdEL 4, AdES 5) for an address: BadVAddr is the address (60_exceptions.md
R806, R824). -/
def AddressErrorEntered (s : State) (code : BitVec 5) (va : Word) (t : State) : Prop :=
  Entered s code 0x180 t ∧ t.cp0.badVAddr = va ∧ KeepsOtherCp0 s t

/-- The instruction raises an address error for an address. -/
def RaisesAddressError (s : State) (o : Out) (code : BitVec 5) (va : Word) : Prop :=
  ∃ t, o = .next t ∧ AddressErrorEntered s code va t

/-- `t` is `s` after the entry of a TLB exception (TLBL 2, TLBS 3, Mod 1) for an address, at this offset: BadVAddr and the page
fields of EntryHi, Context and XContext hold it (60_exceptions.md R824). -/
def TlbErrorEntered (s : State) (code : BitVec 5) (offset va : Word) (t : State) : Prop :=
  Entered s code offset t ∧ KeepsOtherCp0 s t ∧ t.cp0.badVAddr = va
    ∧ t.cp0.entryHi.r = va.extractLsb' 62 2 ∧ t.cp0.entryHi.vpn2 = va.extractLsb' 13 27
    ∧ t.cp0.context.badVpn2 = va.extractLsb' 13 19
    ∧ t.cp0.xcontext.r = va.extractLsb' 62 2 ∧ t.cp0.xcontext.badVpn2 = va.extractLsb' 13 27

/-- `t` is `s` after the entry of a machine check: as any exception that records no address, and Status.TS is 1; the TLB may
have lost the entry that was to be written (60_exceptions.md R816, R820). -/
def McheckEntered (s t : State) : Prop :=
  t.cp0.cause.excCode = 24 ∧ t.pc = vectors s + 0x180 ∧ t.delay = none ∧ SavesRestart s t ∧ KeepsAddresses s t
    ∧ t.cp0.status = { s.cp0.status with exl := true, ts := true }
    ∧ t.cp0.cause = { s.cp0.cause with bd := t.cp0.cause.bd, ce := t.cp0.cause.ce, excCode := 24 }
    ∧ (∀ r, gprRead t r = gprRead s r) ∧ SameMemory s t
    ∧ t = { s with pc := t.pc, delay := t.delay, lateError := t.lateError, draws := t.draws, cp0 := t.cp0, tlb := t.tlb }

/-- The CP0 registers after a write of Status with `v`, RP apart: every writable field comes from it, SR stays (46_cp0.md R615). -/
def statusWritten (c : Cp0) (v : Word) (rp : Bool) : Cp0 :=
  { c with status := { c.status with
      cu1 := v.getLsbD 29, cu0 := v.getLsbD 28, rp := rp, fr := v.getLsbD 26, re := v.getLsbD 25, px := v.getLsbD 23,
      bev := v.getLsbD 22, ts := v.getLsbD 21, nmi := v.getLsbD 19, im := v.extractLsb' 8 8, kx := v.getLsbD 7,
      sx := v.getLsbD 6, ux := v.getLsbD 5, ksu := v.extractLsb' 3 2, erl := v.getLsbD 2, exl := v.getLsbD 1, ie := v.getLsbD 0 } }

/-- A valid TLB entry matches a page under an address space number: the region, the bits of VPN2 its mask leaves, and the ASID
unless it is global (20_memory.md R230). -/
def EntryHits (e : TlbEntry) (r : BitVec 2) (vpn2 : BitVec 27) (asid : BitVec 8) : Prop :=
  e.valid = true ∧ e.r = r
    ∧ (∀ k, k < 27 → (e.mask.setWidth 27).getLsbD k = false → e.vpn2.getLsbD k = vpn2.getLsbD k)
    ∧ (e.g = true ∨ e.asid = asid)

/-- The entry matches a virtual address now. -/
def Hits (s : State) (e : TlbEntry) (va : Word) : Prop :=
  EntryHits e (va.extractLsb' 62 2) (va.extractLsb' 13 27) s.cp0.entryHi.asid

/-- The instruction raises FPE: FCSR.Cause says why, nothing else of the FPU changes (47_fpu_arithmetic.md R662). -/
def RaisesFpe (s : State) (o : Out) (cause : BitVec 6) : Prop :=
  ∃ t, o = .next t ∧ Entered { s with fcsr := { s.fcsr with cause := cause } } 15 0x180 t ∧ KeepsAddresses s t

/-- The byte lane at which the byte of physical address `a` stands, in the data byte order in force: the address itself, or
mirrored within its doubleword (20_memory.md R201, R203); on the 32-bit bus only 32 address bits count (R200). -/
def laneOf (s : State) (a : Nat) : Nat := busAddress s (if dataBigEndian s then a else a / 8 * 8 + (7 - a % 8))

/-- Which byte of a value of `n` bytes, counted from the least significant, stands at its `i`-th address. -/
def byteIndex (s : State) (n i : Nat) : Nat := if dataBigEndian s then n - 1 - i else i

/-- `v` is the number that the `n` bytes of memory from `pa` up hold. -/
def Holds (s : State) (pa : PAddr) (n : Nat) (v : Word) : Prop :=
  (∀ i, i < n → v.extractLsb' (8 * byteIndex s n i) 8 = seenByte s (laneOf s (pa.toNat + i))) ∧ v.toNat < 2 ^ (8 * n)

/-- A data address is aligned, translates to `pa` uncached, and the data cache holds no copy of it. -/
def Uncached (s : State) (va : Word) (n : Nat) (k : Access) (pa : PAddr) : Prop :=
  va.toNat % n = 0 ∧ translate s va k = .ok pa 2 ∧ holdsCopy s.dcache pa = false

/-- The address a data access of `n` bytes drives on the bus: PAddr, or, where Status.RE reverses the base order, PAddr xor
(8 - n), the mirror image in its doubleword (80_external_interface.md R931). -/
def busAddr (s : State) (pa : PAddr) (n : Nat) : Nat :=
  busAddress s (if dataBigEndian s = s.latches.bigEndian then pa.toNat else pa.toNat / 8 * 8 + (8 - n - pa.toNat % 8))

/-- The same for a load: the bus answers without an error, and no earlier bus error waits to be reported. -/
def UncachedLoad (s : State) (va : Word) (n : Nat) (pa : PAddr) : Prop :=
  Uncached s va n .load pa ∧ readFails s (busAddr s pa n) n = false ∧ s.lateError = none

/-- `s` when a read reaches the bus: where READ_OVERTAKES_WRITES is false the buffered writes have reached memory before it
(20_memory.md R252). -/
def waited (s : State) : State := if s.conf.readOvertakesWrites then s else { s with mem := memView s, wbuf := [] }

/-- After a store of the low `n` bytes of `v` at `pa`: these bytes are in memory, and every other byte is as before; the store
is the last in the write buffer. -/
def Stored (s t : State) (pa : PAddr) (n : Nat) (v : Word) : Prop :=
  (∀ i, i < n → seenByte t (laneOf s (pa.toNat + i)) = v.extractLsb' (8 * byteIndex s n i) 8)
    ∧ (∀ lane, (∀ i, i < n → lane ≠ laneOf s (pa.toNat + i)) → seenByte t lane = seenByte s lane)
    ∧ t.mem = s.mem ∧ ∃ w, t.wbuf = s.wbuf ++ [w]

/-- The instruction completes: it stores the low `n` bytes of `v` at `pa` and does nothing else (but for the model's own record
of the lines stored to, log 29). -/
def Stores (s : State) (o : Out) (pa : PAddr) (n : Nat) (v : Word) : Prop :=
  ∃ t, o = .next t ∧ Stored s t pa n v ∧ (∀ r, gprRead t r = gprRead s r) ∧ MovesOn s t
    ∧ t = { s with wbuf := t.wbuf, codeStores := t.codeStores, pc := t.pc, delay := t.delay }

/-- The line of the data cache in way `w` that a fill at `pa` replaced, after it: a valid and dirty one has gone to memory at the
address of its own tag and the write buffer is empty; no other byte is other than `before` (10_state.md R144). -/
def VictimWritten (s t : State) (pa : PAddr) (w : Nat) (before : Nat → Byte) : Prop :=
  let old := getLine s.dcache w (lineOf pa)
  let home := lineKey s old.tag (lineOf pa)
  if old.v = true ∧ old.dirty = true then
    t.wbuf = [] ∧ (∀ i : Fin 32, seenByte t (home + i.val) = old.data[i])
      ∧ ∀ a, (a < home ∨ home + 32 ≤ a) → seenByte t a = before a
  else ∀ a, seenByte t a = before a

/-- The lines of a cache but one are as before. -/
def OtherLines (c d : Cache) (w l : Nat) : Prop :=
  ∀ w' l', w' < 4 → l' < 128 → (w', l') ≠ (w, l) → getLine d w' l' = getLine c w' l'

/-- A Way Select word is legal: the four ways stand in one order, and each bit says of two ways which comes first (10_state.md
R147, R148). -/
def LegalWaySelect (w : BitVec 6) : Prop :=
  ∃ place : Fin 4 → Fin 4, Function.Injective place
    ∧ w.getLsbD 0 = decide (place 3 < place 2) ∧ w.getLsbD 1 = decide (place 2 < place 1) ∧ w.getLsbD 2 = decide (place 1 < place 0)
    ∧ w.getLsbD 3 = decide (place 3 < place 0) ∧ w.getLsbD 4 = decide (place 3 < place 1) ∧ w.getLsbD 5 = decide (place 2 < place 0)

/-- An access has used the Way Select word of a line of cache `c`, which is now `d`: ErrCtl.WSE is set if it was set or the word
was illegal, and the words of the other lines are as before (10_state.md R117, R147). -/
def WaySelectUsed (s t : State) (c d : Cache) (line : Nat) : Prop :=
  (t.cp0.errCtl.wse = true ↔ s.cp0.errCtl.wse = true ∨ ¬ LegalWaySelect (storeGet 0 c.ws line))
    ∧ ∀ l, l ≠ line → storeGet 0 d.ws l = storeGet 0 c.ws l

/-- What the last of a list of writes that covers a byte lane puts there; none if no write covers it. -/
def lastWritten (l : List BusWrite) (lane : Nat) : Option Byte :=
  l.reverse.findSome? fun w => if w.key ≤ lane then w.bytes[lane - w.key]? else none

/-- FPU container `i` as the bits of a register in format S or D (10_state.md R41, R45). -/
def fpBits (s : State) (f : Fmt) (i : RegNum) : Word :=
  match f with
  | .s => (fpr32 s i).setWidth 64
  | .d => fpr64 s i

/-- The record of the format FPU register `r` was last written in (10_state.md R43; log 22). -/
def fprRecord (s : State) (r : RegNum) : FprFormat := s.fprFormat[r.toNat]'r.isLt

/-- An FPU register is as before: its container and the record of its format. -/
def FprSame (s t : State) (r : RegNum) : Prop :=
  t.fpr[r.toNat]'r.isLt = s.fpr[r.toNat]'r.isLt ∧ fprRecord t r = fprRecord s r

/-- The low word of FPU register `fd` is `v`, written in format `tag`, and the others are as before. -/
def Fpr32Is (s t : State) (tag : FprFormat) (fd : RegNum) (v : HalfWord) : Prop :=
  fpr32 t fd = v ∧ fprRecord t fd = tag ∧ ∀ r : RegNum, r ≠ fd → FprSame s t r

/-- The 64-bit FPU register `fd` (with FR = 0 it is a pair) is `v`, written in format `tag`; the others are as before. -/
def Fpr64Is (s t : State) (tag : FprFormat) (fd : RegNum) (v : Word) : Prop :=
  fpr64 t fd = v ∧ ∀ r : RegNum,
    if r = fd ∨ s.cp0.status.fr = false ∧ r = fd ||| 1 then fprRecord t r = tag else FprSame s t r

/-- FPU register `fd` holds `v`, as wide as a value of format `f`, written in format `tag`. -/
def FprIs (s t : State) (f : Fmt) (tag : FprFormat) (fd : RegNum) (v : Word) : Prop :=
  match f with
  | .s => Fpr32Is s t tag fd (v.setWidth 32)
  | .d => Fpr64Is s t tag fd v

/-- The bus answers the data read of `n` bytes at `pa` with an error: the read itself where it is uncached, the fill of the line
where it is cached and misses (20_memory.md R259). -/
def BusAnswersError (s : State) (pa : PAddr) (n : Nat) (cca : BitVec 3) : Prop :=
  cca = 2 ∧ holdsCopy s.dcache pa = false ∧ readFails s (busAddr s pa n) n = true
    ∨ (cca = 0 ∨ cca = 1 ∨ cca = 3) ∧ cacheReady s.dcache = true ∧ hitWays s.dcache pa = []
      ∧ readFails s (lineKey s (tagOf pa) (lineOf pa)) 32 = true

/-- From `before`, the state with the destination already freed, the bus error of a data read is raised at once with Config0.ISD =
1, and else recorded to be raised after up to DBE_SKID more instructions (60_exceptions.md R808). -/
def BusErrorNoted (before : State) (dest : Dest) (o : Out) : Prop :=
  ∃ t, o = .next t ∧
    if before.cp0.config0.isd then Entered before 7 0x180 t ∧ KeepsAddresses before t ∧ t.lateError = none
    else MovesOn before t ∧ (∃ e, t.lateError = some e ∧ e.left ≤ before.conf.dbeSkid ∧ e.dest = dest ∧ e.regs = none)
      ∧ t = { before with lateError := t.lateError, draws := t.draws, pc := t.pc, delay := t.delay }

/-- `t` is `s` with any value in the destination of a load (60_exceptions.md R808). -/
def Freed (s : State) (dest : Dest) (t : State) : Prop :=
  match dest with
  | .gpr r => (∃ x, GprIs s t r x) ∧ t = { s with gpr := t.gpr, draws := t.draws }
  | .fpr r wide => (if wide then ∃ x, Fpr64Is s t .raw r x else ∃ x, Fpr32Is s t .raw r x)
      ∧ t = { s with fpr := t.fpr, fprFormat := t.fprFormat, draws := t.draws }
  | .none => t = s

/-- Nothing but the FPU registers, FCSR, pc and the pending target has changed (free values may have been used). -/
def FpKeeps (s t : State) : Prop :=
  (∀ r, gprRead t r = gprRead s r) ∧ SameMemory s t
    ∧ t = { s with fpr := t.fpr, fprFormat := t.fprFormat, fcsr := t.fcsr, pc := t.pc, delay := t.delay, draws := t.draws }

/-- What an arithmetic instruction does that ends so: it writes `fd`, replaces FCSR.Cause and accumulates Flags, or it raises
FPE with nothing written but FCSR.Cause (47_fpu_arithmetic.md R662, R671). -/
def EndsWith (s : State) (o : Out) (f : Fmt) (fd : RegNum) (e : FpEnd) : Prop :=
  match e with
  | .write v c => ∃ t, o = .next t ∧ FprIs s t f f.tag fd v ∧ MovesOn s t ∧ FpKeeps s t
      ∧ t.fcsr = { s.fcsr with cause := c, flags := s.fcsr.flags ||| c.extractLsb' 0 5 }
  | .trap c => RaisesFpe s o c

/-- An FPU register may be an operand: it was last written in this format, or raw (10_state.md R43), and its number is even
unless FR = 1 (R47). -/
def Operand (s : State) (f : FprFormat) (i : RegNum) : Prop := formatFits s i f = true ∧ fprNumberOk s i = true

/-- A finite operand the FPU takes: a zero or a normal number (47_fpu_arithmetic.md R661). -/
def Finite (f : Fmt) (v : Word) : Prop :=
  (∃ sign, classify f v = .zero sign) ∨ ∃ sign m e, classify f v = .normal sign m e

/-- No FPU exception is enabled and FS = 1: nothing but an invalid operation or a denormalized operand traps (R664 to R670). -/
def Masked (s : State) : Prop := s.fcsr.enables = 0 ∧ s.fcsr.fs = true

/-- A finite number as a multiple of the unit 2^(Emin - fraction bits), the unit of the last place of the smallest normal
number (47_fpu_arithmetic.md R660); 0 for the rest. -/
def scaled (f : Fmt) (v : Word) : Int :=
  match classify f v with
  | .normal sign m e => signed sign (m * 2 ^ (e - (f.emin - f.frac)).toNat)
  | _ => 0

/-- `i` is `x / p` (p positive) rounded to an integer in a rounding mode: to nearest with an exact half going to the even
integer, toward zero, toward plus infinity, toward minus infinity (47_fpu_arithmetic.md R672, R765). -/
def RoundsTo (mode : BitVec 2) (x p i : Int) : Prop :=
  (mode = 0 → 2 * (i * p - x) ≤ p ∧ 2 * (x - i * p) ≤ p ∧ ((2 * (i * p - x) = p ∨ 2 * (x - i * p) = p) → i % 2 = 0))
    ∧ (mode = 1 → if 0 ≤ x then i * p ≤ x ∧ x < (i + 1) * p else x ≤ i * p ∧ (i - 1) * p < x)
    ∧ (mode = 2 → x ≤ i * p ∧ (i - 1) * p < x)
    ∧ (mode = 3 → i * p ≤ x ∧ x < (i + 1) * p)

/-- `v` is the normal number nearest to an exact non-zero result as the rounding mode asks, and `cause` is 0 or I and tells
whether anything was lost (47_fpu_arithmetic.md R672, R673). The magnitude of the exact result is num * 2^exp, or, where
`sticky` says so, lies strictly between it and (num + 1) * 2^exp. -/
def CorrectlyRounded (f : Fmt) (rm : BitVec 2) (x : Exact) (v : Word) (cause : BitVec 6) : Prop :=
  ∃ (m : Nat) (e : Int), classify f v = .normal x.sign m e ∧ 2 ^ f.frac ≤ m ∧ m < 2 ^ (f.frac + 1)
    ∧ (let z := min e x.exp
       let got : Int := m * 2 ^ (e - z).toNat
       let low : Int := x.num * 2 ^ (x.exp - z).toNat
       let high : Int := (if x.sticky then x.num + 1 else x.num : Nat) * 2 ^ (x.exp - z).toNat
       let ulp : Int := 2 ^ (e - z).toNat
       let up := high ≤ got ∧ got ≤ low + ulp ∧ (x.sticky = false → got < low + ulp)
       let down := got ≤ low ∧ high ≤ got + ulp ∧ (x.sticky = false → low < got + ulp)
       (cause = 0 ∧ got = low ∧ x.sticky = false ∨ cause = 0b000001 ∧ (got ≠ low ∨ x.sticky = true))
       ∧ (rm = 0 → 2 * got ≤ 2 * low + ulp ∧ 2 * high ≤ 2 * got + ulp
           ∧ (x.sticky = false → (2 * got = 2 * low + ulp ∨ 2 * low = 2 * got + ulp) → m % 2 = 0))
       ∧ (rm = 1 → down) ∧ (rm = 2 → if x.sign then down else up) ∧ (rm = 3 → if x.sign then up else down))

/-- An exact result of the binade of Emax, rounded to the precision of the format with the exponent unbounded, is 2^(Emax + 1):
it is more than the greatest finite number, and the mode rounds it up (47_fpu_arithmetic.md R667, R672). The greatest number is
odd, so an exact half above it goes up. -/
def RoundsPastMax (f : Fmt) (rm : BitVec 2) (x : Exact) : Prop :=
  let max := 2 ^ (f.frac + 1) - 1
  let ulp := 2 ^ (x.num.log2 - f.frac)
  (rm = 0 ∧ (2 * max + 1) * ulp ≤ 2 * x.num)
    ∨ (rm = 2 ∧ x.sign = false ∨ rm = 3 ∧ x.sign = true) ∧ (max * ulp < x.num ∨ max * ulp = x.num ∧ x.sticky = true)

/-- An instruction with the exact non-zero result `x` ends so: with an underflow below 2^Emin, with an overflow from 2^(Emax + 1)
on, also when only the rounding takes it there, else with the correctly rounded result (47_fpu_arithmetic.md R666 to R668, R673). -/
def Finishes (c : Fcsr) (f : Fmt) (x : Exact) (o : FpEnd) : Prop :=
  let top : Int := x.exp + x.num.log2
  let on (k : Nat) : Prop := c.enables.getLsbD k = true
  let rounded : Prop := ∃ v cause, CorrectlyRounded f c.rm x v cause
    ∧ o = if cause = 0b000001 ∧ c.enables.getLsbD 0 = true then .trap cause else .write v cause
  let underflows : Prop :=
    (on 1 → o = .trap 0b000011) ∧ (¬ on 1 → c.fs = false ∨ on 0 → o = .trap 0b100000)
    ∧ (¬ on 1 → c.fs = true → ¬ on 0 → ∃ v, o = .write v 0b000011 ∧ classify f v =
        if c.rm = 2 ∧ x.sign = false ∨ c.rm = 3 ∧ x.sign = true then .normal x.sign (2 ^ f.frac) (f.emin - f.frac)
        else .zero x.sign)
  let overflows : Prop :=
    (on 2 ∨ on 0 → o = .trap 0b000101)
    ∧ (¬ on 2 → ¬ on 0 → ∃ v, o = .write v 0b000101 ∧ classify f v =
        if c.rm = 0 ∨ c.rm = 2 ∧ x.sign = false ∨ c.rm = 3 ∧ x.sign = true then .inf x.sign
        else .normal x.sign (2 ^ (f.frac + 1) - 1) (f.bias - f.frac))
  (top < f.emin → underflows)
    ∧ ((f.bias : Int) < top ∨ top = f.bias ∧ RoundsPastMax f c.rm x → overflows)
    ∧ (f.emin ≤ top → top < f.bias ∨ top = f.bias ∧ ¬ RoundsPastMax f c.rm x → rounded)

/-- The number fits in `n` bits, signed. -/
def Fits (n : Nat) (x : Int) : Prop := -(2 ^ (n - 1) : Int) ≤ x ∧ x < 2 ^ (n - 1)

/-- Exactly `k` of the leading bits of `v` are `b`. -/
def LeadingRun {n : Nat} (v : BitVec n) (b : Bool) (k : Nat) : Prop :=
  k ≤ n ∧ (∀ i, i < k → v.getLsbD (n - 1 - i) = b) ∧ (k < n → v.getLsbD (n - 1 - k) = !b)

/-- Nothing comes before the instruction at the pc: no reset, late bus error, NMI, sleep or interrupt, and no reserved mode. -/
structure Ready (s : State) : Prop where
  reset : s.resetRequest = none
  lateError : s.lateError = none
  nmi : s.nmiPending = false
  awake : s.sleeping = false
  interrupt : interruptDue s = false
  mode : modeReserved s = false

/-- The processor is in User mode, 32-bit instructions only (30_encoding.md R320). -/
def User32 (s : State) : Prop :=
  s.cp0.status.ksu = 2 ∧ s.cp0.status.exl = false ∧ s.cp0.status.erl = false ∧ s.cp0.status.ux = false
    ∧ s.cp0.status.px = false

end Sys2Proof.Claims
end

