-- ==== Sys2Proof/Certificates/Slice0/Obligations.lean ====
section
/-! DEFINITION. The statements for the provers. `Ready`, `WritesGpr` and the other shapes they speak of are in Safety.lean. -/

open Sys2Proof Sys2Proof.Machine Sys2Proof.Claims

/-- The state after reset holds the values the spec states. State.reset has the pc at the reset vector and every
register field with a stated reset value at that value: Random 47, Wired 0, Status.RP, TS, SR, NMI and TIP 0, BEV and
ERL 1, Config0.TE, ISD, BBL, TR and DID 0, WP and ADP 3, K0 2, PerfCtl IE 0, ErrCtl.WST 0, every hidden valid bit of the
TLB 0; the write buffer is empty and no NMI is pending. -/
def Obligations.ResetValues : Prop :=
  let s := State.reset
  s.pc = 0xFFFFFFFFBFC00000 ∧ s.cp0.random = 47 ∧ s.cp0.wired = 0
    ∧ s.cp0.status.rp = false ∧ s.cp0.status.ts = false ∧ s.cp0.status.sr = false ∧ s.cp0.status.nmi = false
    ∧ s.timerRequest = false ∧ s.cp0.status.bev = true ∧ s.cp0.status.erl = true
    ∧ s.cp0.config0 = { te := false, wp := 3, adp := 3, isd := false, bbl := false, tr := false, did := false, k0 := 2 }
    ∧ s.cp0.perfCtl0.ie = false ∧ s.cp0.perfCtl1.ie = false ∧ s.cp0.errCtl.wst = false
    ∧ (∀ i : Fin 48, s.tlb[i].valid = false) ∧ s.wbuf = [] ∧ s.nmiPending = false

/-- A cold reset on the pins comes first and leaves the stated values in any state. In every state in which a cold reset
with given mode inputs is requested, the step is that reset and the instruction boundary after it. It latches the modes,
puts the pc at the reset vector, gives every field with a stated reset value that value, clears every hidden valid bit
of the TLB, empties the write buffer and the pending NMI, and leaves memory alone. What the spec leaves unspecified is
not constrained. -/
def Obligations.ColdResetOnRequest : Prop :=
  ∀ (s : State) (m : Latches), s.resetRequest = some (.cold m) →
    ∃ t, step s = .next (boundary t) ∧ t.latches = m ∧ t.pc = s.conf.resetVector ∧ t.delay = none
      ∧ t.cp0.status.erl = true ∧ t.cp0.status.bev = true ∧ t.cp0.status.ts = false ∧ t.cp0.status.rp = false
      ∧ t.cp0.status.sr = false ∧ t.cp0.status.nmi = false ∧ t.timerRequest = false
      ∧ t.cp0.random = 47 ∧ t.cp0.wired = 0
      ∧ t.cp0.config0 = { te := false, wp := 3, adp := 3, isd := false, bbl := false, tr := false, did := false, k0 := 2 }
      ∧ t.cp0.perfCtl0.ie = false ∧ t.cp0.perfCtl1.ie = false ∧ t.cp0.errCtl.wst = false
      ∧ (∀ i : Fin 48, t.tlb[i].valid = false) ∧ t.wbuf = [] ∧ t.nmiPending = false ∧ t.mem = s.mem
      ∧ gprRead t 0 = 0

/-- A warm reset keeps the mode latches and the TLB valid bits and saves the restart address. In every state in which a
warm reset is requested, the step is that reset and the boundary after it: Status.SR becomes 1, NMI 0, ERL and BEV 1,
ErrorEPC the address of the instruction cut short (of the branch if it stands in a delay slot), the pc the reset vector;
every other field with a stated reset value gets it (Random, Wired, Status.TS and RP, the timer request, Config0, the IE
of both PerfCtl, ErrCtl.WST); the mode latches, the hidden valid bits of the TLB and memory are kept, the write buffer
and the pending NMI are emptied. -/
def Obligations.WarmResetOnRequest : Prop :=
  ∀ s : State, s.resetRequest = some .warm →
    ∃ t, step s = .next (boundary t) ∧ t.latches = s.latches ∧ t.pc = s.conf.resetVector ∧ t.delay = none
      ∧ t.cp0.errorEpc = (if s.delay.isSome then s.pc - 4 else s.pc)
      ∧ t.cp0.status.erl = true ∧ t.cp0.status.bev = true ∧ t.cp0.status.ts = false ∧ t.cp0.status.rp = false
      ∧ t.cp0.status.sr = true ∧ t.cp0.status.nmi = false ∧ t.timerRequest = false
      ∧ t.cp0.random = 47 ∧ t.cp0.wired = 0
      ∧ t.cp0.config0 = { te := false, wp := 3, adp := 3, isd := false, bbl := false, tr := false, did := false, k0 := 2 }
      ∧ t.cp0.perfCtl0.ie = false ∧ t.cp0.perfCtl1.ie = false ∧ t.cp0.errCtl.wst = false
      ∧ (∀ i : Fin 48, t.tlb[i].valid = s.tlb[i].valid) ∧ t.wbuf = [] ∧ t.nmiPending = false ∧ t.mem = s.mem
      ∧ gprRead t 0 = 0

/-- The invariant holds right after reset. Memory, caches, Branch Prediction RAM and the record of stores that fetches
need not see are in canonical form, Random lies between Wired and 47, and register 0 holds 0 in State.reset. -/
def Obligations.InvHoldsAtReset : Prop :=
  State.reset.Inv

/-- Every step keeps the invariant. From every state in which memory, the caches, the Branch Prediction RAM and the
record of stores that fetches need not see (log 29) are in canonical form, Random lies between Wired and 47 (unless
Wired is above 47) and register 0 holds 0, a step that answers a next state answers one in which all of this holds:
instructions, exceptions, resets, the host inputs and fetches included. The canonical form is the model's own (log 18).
-/
def Obligations.EveryStepKeepsInv : Prop :=
  ∀ s t : State, s.Inv → step s = .next t → t.Inv

/-- Decoding the word of a well-formed instruction gives the instruction back. For every instruction of the opcode table
with every value of its fields (an SLL that is not the word of NOP or SSNOP), decode of encode is that instruction. -/
def Obligations.DecodeOfEncode : Prop :=
  ∀ i : Instr, i.wellFormed = true → decode (encode i) = .ok i

/-- Every word that decodes is the word of the instruction it decodes to. If a word decodes to an instruction, the
instruction is well-formed and its encoding is that word: every bit of an instruction word is a fixed bit or stands in a
field, and no two words are one instruction. -/
def Obligations.EncodeOfDecode : Prop :=
  ∀ (w : HalfWord) (i : Instr), decode w = .ok i → i.wellFormed = true ∧ encode i = w

/-- Words the spec writes out decode to the instructions it names. One word of each family as the spec prints it: ADD,
NOR (by its fields), SLL, NOP, SSNOP, J, LW (by its fields), SYSCALL, MTC0, TLBWI, CACHE, ADD.S (by its fields). -/
def Obligations.DecodesTheSpecsWords : Prop :=
  decode 0x00221820 = .ok (.add 1 2 3) ∧ decode 0x00011040 = .ok (.sll 1 2 1) ∧ decode 0x00000000 = .ok .nop
    ∧ decode 0x00000040 = .ok .ssnop ∧ decode 0x08000040 = .ok (.j 0x40) ∧ decode 0x0000000C = .ok (.syscall 0)
    ∧ decode 0x40813000 = .ok (.mtc0 1 6 0) ∧ decode 0x42000002 = .ok .tlbwi ∧ decode 0xBC200000 = .ok (.cache 1 0 0)
    ∧ decode (0b000000#6 ++ 1#5 ++ 2#5 ++ 3#5 ++ 0#5 ++ 0b100111#6) = .ok (.nor 1 2 3)
    ∧ decode (0b100011#6 ++ 4#5 ++ 5#5 ++ 0xFFFC#16) = .ok (.lw 4 5 0xFFFC)
    ∧ decode (0b010001#6 ++ 16#5 ++ 2#5 ++ 4#5 ++ 6#5 ++ 0#6) = .ok (.addS 2 4 6)

/-- A step executes the instruction that is fetched and decoded at the pc. In a state with no reset, late bus error,
NMI, sleep or interrupt before the instruction and no reserved mode, if the fetch at the pc gives a word and the word
decodes to i, then the step is exec of i in the state after the fetch, followed by the instruction boundary (the host's
inputs). Where control has just gone from a delay slot to a target that is not the next address, the model's record of
code stored earlier notes the jump (log 29); nothing else stands around exec. -/
def Obligations.StepRunsDecodedInstruction : Prop :=
  ∀ (s t : State) (w : HalfWord) (i : Instr), Ready s → fetchWord s s.pc = .ok w t → decode w = .ok i →
    step s = (match exec i t with
      | .next u => .next (boundary (if t.delay = some u.pc ∧ u.pc ≠ t.pc + 4 then noteJump u else u))
      | .fault f => .fault f
      | .refused r => .refused r)

/-- A fetch reads the four bytes at the pc from memory or the cache line, filled on a miss, or raises AdEL or IBE. For a
pc that is a multiple of 4. Uncached, with no copy in the instruction cache and no bus error: the word has the bytes
that stand in memory from the address up, behind the write buffer (the model's choice, log 17: R252 and R256 only say it
may; where READ_OVERTAKES_WRITES is false the buffer is emptied first), in the base byte order, and nothing changes; of
a location the program has stored to without the recipe of R256 the fetch gives that word, or the stored one, or the one
before a store that it need not see (log 29). That the bus reads four bytes, so which bus-error ranges it meets, is the
model's choice too (log 34). With a bus error the step enters IBE (ExcCode 6). Cached, in an initialised instruction
cache with a way that holds the address and no such store recorded: the word is the four bytes of the line of such a way
from the address on; ErrCtl.IMH is set if several ways hold it, WSE if the Way Select word of the line is illegal, and
nothing else changes but this word (which way serves, and that every access detects an illegal word, is the model's
reading, log 11). On a miss one unlocked way (with none the fetch stops, U11) gets the tag, V = 1, L = 0 and the 32
bytes of memory behind the write buffer (log 17), the two words of each doubleword changing places in little-endian
mode, WSE as on a hit, every other line stays, and the word is read from the line likewise; a bus error of the fill
enters IBE with every line and the Way Select word as they were, also in a set of four locked ways (that it comes before
the choice of a way and leaves that word is the model's choice, log 33; R807 says only that the line is not filled). A
pc that is no multiple of 4, or that the mode may not use, makes the step enter AdEL (ExcCode 4) with BadVAddr the pc.
-/
def Obligations.FetchReadsTheWordAtPc : Prop :=
  ∀ (s : State) (pa : PAddr) (cca : BitVec 3),
    let big := s.latches.bigEndian
    let place (i : Nat) : Nat := 8 * (if big then 3 - i else i)
    let lane (i : Nat) : Nat :=
      busAddress s (if big then pa.toNat + i else (pa.toNat + i) / 8 * 8 + (7 - (pa.toNat + i) % 8))
    (s.pc.toNat % 4 = 0 → translate s s.pc .fetch = .ok pa 2 → holdsCopy s.icache pa = false →
      (readFails s (busAddress s pa.toNat) 4 = false →
        ∃ w, (∀ i, i < 4 → w.extractLsb' (place i) 8 = readByte (waited s).mem (lane i))
          ∧ (storedWords (waited s) pa false = [] → fetchWord s s.pc = .ok w (waited s))
          ∧ ∃ x n, fetchWord s s.pc = .ok x { waited s with draws := n } ∧ x ∈ w :: storedWords (waited s) pa false)
      ∧ (readFails s (busAddress s pa.toNat) 4 = true → Ready s →
          ∃ u, step s = .next (boundary u) ∧ Entered (waited s) 6 0x180 u ∧ KeepsAddresses (waited s) u))
    ∧ (s.pc.toNat % 4 = 0 → translate s s.pc .fetch = .ok pa cca → (cca = 0 ∨ cca = 1 ∨ cca = 3) → cacheReady s.icache = true →
        hitWays s.icache pa ≠ [] → storedWords s pa true = [] →
        ∃ x t, ∃ way ∈ hitWays s.icache pa, fetchWord s s.pc = .ok x t ∧ t.icache.lines = s.icache.lines
          ∧ (∀ (i : Nat) (k : Fin 32), i < 4 → k.val = pa.toNat % 32 + i →
              x.extractLsb' (8 * (3 - i)) 8 = (getLine s.icache way (lineOf pa)).data[k])
          ∧ WaySelectUsed s t s.icache t.icache (lineOf pa)
          ∧ t = { s with icache := t.icache, draws := t.draws, cp0 := { s.cp0 with errCtl := { s.cp0.errCtl with
                    imh := s.cp0.errCtl.imh || decide (1 < (hitWays s.icache pa).length), wse := t.cp0.errCtl.wse } } })
    ∧ (s.pc.toNat % 4 = 0 → translate s s.pc .fetch = .ok pa cca → (cca = 0 ∨ cca = 1 ∨ cca = 3) → cacheReady s.icache = true →
        hitWays s.icache pa = [] →
        let first := lineKey s (tagOf pa) (lineOf pa)
        (readFails s first 32 = false → unlockedWays s.icache pa = [] → fetchWord s s.pc = .stop .allWaysLocked)
        ∧ (readFails s first 32 = false → unlockedWays s.icache pa ≠ [] → cacheWf s.icache = true →
          storedWords (waited s) pa true = [] →
          ∃ x t, ∃ way ∈ unlockedWays s.icache pa, fetchWord s s.pc = .ok x t
            ∧ (let line := getLine t.icache way (lineOf pa)
               line.v = true ∧ line.tag = tagOf pa ∧ line.l = false
                 ∧ (∀ k : Fin 32, line.data[k] = readByte t.mem (first + (if big then k.val else k.val ^^^ 4)))
                 ∧ ∀ (i : Nat) (k : Fin 32), i < 4 → k.val = pa.toNat % 32 + i → x.extractLsb' (8 * (3 - i)) 8 = line.data[k])
            ∧ OtherLines s.icache t.icache way (lineOf pa) ∧ WaySelectUsed s t s.icache t.icache (lineOf pa)
            ∧ t = { waited s with icache := t.icache, draws := t.draws, cp0 := { s.cp0 with errCtl := { s.cp0.errCtl with
                      wse := t.cp0.errCtl.wse } } })
        ∧ (readFails s first 32 = true → Ready s →
          ∃ u, step s = .next (boundary u) ∧ Entered (waited s) 6 0x180 u ∧ KeepsAddresses (waited s) u))
    ∧ ((s.pc.toNat % 4 ≠ 0 ∨ segmentAccessible s (segmentOf s.pc) = false) → Ready s →
        ∃ u, step s = .next (boundary u) ∧ AddressErrorEntered s 4 s.pc u)

/-- A word that is no instruction raises CpU, RI or FPE as its opcode says. For a word fetched where a step executes:
opcodes 18, 50, 54, 58 and 62 raise CpU with CE = 2; opcodes 29, 30, 31 and 59 raise RI, and so does a word of opcode 0
(functions other than 1), 1, 6, 7, 15, 22, 23 or 28 that decodes to no instruction; a reserved word of opcode 16 raises
CpU with CE = 0 where coprocessor 0 is not usable and RI where it is; a reserved word of opcode 17 or 19 raises CpU with
CE = 1 if CU1 = 0, else RI or FPE with Cause E by the parameter UNIMPL_FPU_ENCODING; SPECIAL function 1 outside MOVF and
MOVT raises CpU with CE = 1 if CU1 = 0, else RI. Every word of any other opcode decodes to an instruction. -/
def Obligations.ReservedWordsTrap : Prop :=
  ∀ (s t : State) (w : HalfWord), Ready s → fetchWord s s.pc = .ok w t →
    let op := w.extractLsb' 26 6
    let fn := w.extractLsb' 0 6
    let reserved := ∀ i, decode w ≠ .ok i
    ((op = 18 ∨ op = 50 ∨ op = 54 ∨ op = 58 ∨ op = 62) → ∃ u, step s = .next (boundary u) ∧ RaisesCpu t (.next u) 2)
    ∧ ((op = 29 ∨ op = 30 ∨ op = 31 ∨ op = 59) → ∃ u, step s = .next (boundary u) ∧ Raises t (.next u) 10)
    ∧ ((op = 0 ∧ fn ≠ 1 ∨ op = 1 ∨ op = 6 ∨ op = 7 ∨ op = 15 ∨ op = 22 ∨ op = 23 ∨ op = 28) → reserved →
        ∃ u, step s = .next (boundary u) ∧ Raises t (.next u) 10)
    ∧ (op = 16 → reserved → ∃ u, step s = .next (boundary u) ∧
        if currentMode t = .kernel ∨ t.cp0.status.cu0 = true then Raises t (.next u) 10 else RaisesCpu t (.next u) 0)
    ∧ ((op = 17 ∨ op = 19) → reserved → ∃ u, step s = .next (boundary u) ∧
        if t.cp0.status.cu1 = false then RaisesCpu t (.next u) 1
        else if t.conf.unimplFpuIsFpe = true then RaisesFpe t (.next u) 0b100000 else Raises t (.next u) 10)
    ∧ (op = 0 → fn = 1 → reserved → ∃ u, step s = .next (boundary u) ∧
        if t.cp0.status.cu1 = false then RaisesCpu t (.next u) 1 else Raises t (.next u) 10)
    ∧ (op ∉ [(0 : BitVec 6), 1, 6, 7, 15, 16, 17, 18, 19, 22, 23, 28, 29, 30, 31, 50, 54, 58, 59, 62] → ∃ i, decode w = .ok i)

/-- 32-bit sums and differences: the sign-extended low word goes to the destination and nothing else changes. ADDU, SUBU
and ADDIU always, and ADD, SUB and ADDI when the signed result of the low words fits in 32 bits, complete: the
destination gets the 32-bit result of the low words (ADDIU and ADDI with the sign-extended immediate), sign-extended to
64 bits; under WORD_OPERAND_STRICT, with a source register that holds no sign-extended word, it gets some value instead
(log 23); register 0 still reads 0; the pc moves on (to the pending target in a delay slot); no other register, no HI or
LO, no FPU or CP0 state and no byte of memory changes. -/
def Obligations.WordSumsAndDifferences : Prop :=
  ∀ (s : State) (rs rt rd : RegNum) (imm : BitVec 16),
    let a := (gprRead s rs).extractLsb' 0 32
    let b := (gprRead s rt).extractLsb' 0 32
    let c : BitVec 32 := imm.signExtend 32
    WritesWord s (exec (.addu rs rt rd) s) [rs, rt] rd ((a + b).signExtend 64)
    ∧ WritesWord s (exec (.subu rs rt rd) s) [rs, rt] rd ((a - b).signExtend 64)
    ∧ WritesWord s (exec (.addiu rs rt imm) s) [rs] rt ((a + c).signExtend 64)
    ∧ (Fits 32 (a.toInt + b.toInt) → WritesWord s (exec (.add rs rt rd) s) [rs, rt] rd ((a + b).signExtend 64))
    ∧ (Fits 32 (a.toInt - b.toInt) → WritesWord s (exec (.sub rs rt rd) s) [rs, rt] rd ((a - b).signExtend 64))
    ∧ (Fits 32 (a.toInt + c.toInt) → WritesWord s (exec (.addi rs rt imm) s) [rs] rt ((a + c).signExtend 64))

/-- 64-bit sums and differences where 64-bit instructions are available. With Exec64() true, DADDU, DSUBU and DADDIU
always, and DADD, DSUB and DADDI when the signed result fits in 64 bits, complete: the destination gets the 64-bit
result and nothing else changes but the pc. -/
def Obligations.DoublewordSumsAndDifferences : Prop :=
  ∀ (s : State) (rs rt rd : RegNum) (imm : BitVec 16), exec64 s = true →
    let a := gprRead s rs
    let b := gprRead s rt
    let c : Word := imm.signExtend 64
    WritesGpr s (exec (.daddu rs rt rd) s) rd (a + b)
    ∧ WritesGpr s (exec (.dsubu rs rt rd) s) rd (a - b)
    ∧ WritesGpr s (exec (.daddiu rs rt imm) s) rt (a + c)
    ∧ (Fits 64 (a.toInt + b.toInt) → WritesGpr s (exec (.dadd rs rt rd) s) rd (a + b))
    ∧ (Fits 64 (a.toInt - b.toInt) → WritesGpr s (exec (.dsub rs rt rd) s) rd (a - b))
    ∧ (Fits 64 (a.toInt + c.toInt) → WritesGpr s (exec (.daddi rs rt imm) s) rt (a + c))

/-- A signed sum or difference that does not fit raises Ov and writes nothing. ADD, ADDI and SUB when the signed 32-bit
result does not fit, DADD, DADDI and DSUB (Exec64() true) when the signed 64-bit result does not fit, raise the Ov
exception (ExcCode 12) at the general vector, also with destination 0: no general register, HI, LO, FPU register or byte
of memory changes; EPC and Cause.BD give the restart address. That the low words decide also under WORD_OPERAND_STRICT
with a source register that holds no sign-extended word is the model's choice (log 23). -/
def Obligations.SignedOverflowRaisesOv : Prop :=
  ∀ (s : State) (rs rt rd : RegNum) (imm : BitVec 16),
    let a := (gprRead s rs).extractLsb' 0 32
    let b := (gprRead s rt).extractLsb' 0 32
    let c : BitVec 32 := imm.signExtend 32
    let x := gprRead s rs
    let y := gprRead s rt
    let z : Word := imm.signExtend 64
    (¬ Fits 32 (a.toInt + b.toInt) → Raises s (exec (.add rs rt rd) s) 12)
    ∧ (¬ Fits 32 (a.toInt - b.toInt) → Raises s (exec (.sub rs rt rd) s) 12)
    ∧ (¬ Fits 32 (a.toInt + c.toInt) → Raises s (exec (.addi rs rt imm) s) 12)
    ∧ (exec64 s = true → ¬ Fits 64 (x.toInt + y.toInt) → Raises s (exec (.dadd rs rt rd) s) 12)
    ∧ (exec64 s = true → ¬ Fits 64 (x.toInt - y.toInt) → Raises s (exec (.dsub rs rt rd) s) 12)
    ∧ (exec64 s = true → ¬ Fits 64 (x.toInt + z.toInt) → Raises s (exec (.daddi rs rt imm) s) 12)

/-- The set-on-less-than instructions write 1 or 0 by the 64-bit comparison. SLT and SLTI compare signed 64-bit numbers,
SLTU and SLTIU unsigned ones, the immediate forms with the immediate sign-extended to 64 bits; the destination gets 1 if
the first is less, else 0, and nothing else changes but the pc. The words with opcode 0 and function 0x2A or 0x2B, and
with opcode 10 or 11, decode to these instructions. -/
def Obligations.ComparisonsSetZeroOrOne : Prop :=
  ∀ (s : State) (rs rt rd : RegNum) (imm : BitVec 16),
    let a := gprRead s rs
    let b := gprRead s rt
    let c : Word := imm.signExtend 64
    WritesGpr s (exec (.slt rs rt rd) s) rd (if a.toInt < b.toInt then 1 else 0)
    ∧ WritesGpr s (exec (.sltu rs rt rd) s) rd (if a.toNat < b.toNat then 1 else 0)
    ∧ WritesGpr s (exec (.slti rs rt imm) s) rt (if a.toInt < c.toInt then 1 else 0)
    ∧ WritesGpr s (exec (.sltiu rs rt imm) s) rt (if a.toNat < c.toNat then 1 else 0)
    ∧ decode (0#6 ++ rs ++ rt ++ rd ++ 0#5 ++ 0x2A#6) = .ok (.slt rs rt rd)
    ∧ decode (0#6 ++ rs ++ rt ++ rd ++ 0#5 ++ 0x2B#6) = .ok (.sltu rs rt rd)
    ∧ decode (10#6 ++ rs ++ rt ++ imm) = .ok (.slti rs rt imm)
    ∧ decode (11#6 ++ rs ++ rt ++ imm) = .ok (.sltiu rs rt imm)

/-- CLO, CLZ, DCLO and DCLZ count the leading ones or zeros. The destination rd gets the number of equal leading bits: k
such that the k uppermost bits are all ones (CLO, DCLO) or zeros (CLZ, DCLZ) and the next one, if there is one, is not;
the rt field does not matter. CLO and CLZ count in the low word; under WORD_OPERAND_STRICT they give some value if rs
holds no sign-extended word (log 23). DCLO and DCLZ with Exec64() true. Nothing else changes but the pc. -/
def Obligations.CountsOfLeadingBits : Prop :=
  ∀ (s : State) (rs rt rd : RegNum),
    let a := (gprRead s rs).extractLsb' 0 32
    let x := gprRead s rs
    (∃ k, LeadingRun a true k ∧ WritesWord s (exec (.clo rs rt rd) s) [rs] rd (BitVec.ofNat 64 k))
    ∧ (∃ k, LeadingRun a false k ∧ WritesWord s (exec (.clz rs rt rd) s) [rs] rd (BitVec.ofNat 64 k))
    ∧ (exec64 s = true → ∃ k, LeadingRun x true k ∧ WritesGpr s (exec (.dclo rs rt rd) s) rd (BitVec.ofNat 64 k))
    ∧ (exec64 s = true → ∃ k, LeadingRun x false k ∧ WritesGpr s (exec (.dclz rs rt rd) s) rd (BitVec.ofNat 64 k))

/-- Products and accumulated products go to HI and LO exactly. MULT, MULTU, DMULT, DMULTU put the exact product of the
signed or unsigned operands into HI and LO (each half of a 64-bit product sign-extended); MADD, MADDU, MSUB, MSUBU add
it to or subtract it from the 64-bit number HI[31:0] LO[31:0], wrapping; MUL puts the low word of the signed product,
sign-extended, into rd and leaves HI and LO unspecified. Under WORD_OPERAND_STRICT, with a source register that holds no
sign-extended word, a 32-bit form completes with some value in its place (log 23). The 64-bit forms with Exec64() true.
No other register, no CP0 or FPU state and no byte of memory changes. -/
def Obligations.MultipliesAndAccumulates : Prop :=
  ∀ (s : State) (rs rt rd : RegNum),
    let a := (gprRead s rs).extractLsb' 0 32
    let b := (gprRead s rt).extractLsb' 0 32
    let x := gprRead s rs
    let y := gprRead s rt
    let signed64 := BitVec.ofInt 64 (a.toInt * b.toInt)
    let unsigned64 := BitVec.ofNat 64 (a.toNat * b.toNat)
    let acc : Word := s.hi.extractLsb' 0 32 ++ s.lo.extractLsb' 0 32
    let hiOf (p : Word) : Word := (p.extractLsb' 32 32).signExtend 64
    let loOf (p : Word) : Word := (p.extractLsb' 0 32).signExtend 64
    let puts (o : Out) (p : Word) : Prop := WritesHiLoWord s o [rs, rt] (hiOf p) (loOf p)
    let mul (v : Word) : Prop := ∃ t, exec (.mul rs rt rd) s = .next t ∧ GprIs s t rd v ∧ MovesOn s t ∧ SameMemory s t
      ∧ t = { s with gpr := t.gpr, hi := t.hi, lo := t.lo, pc := t.pc, delay := t.delay, draws := t.draws }
    puts (exec (.mult rs rt) s) signed64 ∧ puts (exec (.multu rs rt) s) unsigned64
    ∧ puts (exec (.madd rs rt) s) (acc + signed64) ∧ puts (exec (.maddu rs rt) s) (acc + unsigned64)
    ∧ puts (exec (.msub rs rt) s) (acc - signed64) ∧ puts (exec (.msubu rs rt) s) (acc - unsigned64)
    ∧ (WordsOk s [rs, rt] → mul (loOf signed64)) ∧ (¬ WordsOk s [rs, rt] → ∃ v, mul v)
    ∧ (exec64 s = true → WritesHiLo s (exec (.dmult rs rt) s)
        ((BitVec.ofInt 128 (x.toInt * y.toInt)).extractLsb' 64 64) ((BitVec.ofInt 128 (x.toInt * y.toInt)).extractLsb' 0 64))
    ∧ (exec64 s = true → WritesHiLo s (exec (.dmultu rs rt) s)
        ((BitVec.ofNat 128 (x.toNat * y.toNat)).extractLsb' 64 64) ((BitVec.ofNat 128 (x.toNat * y.toNat)).extractLsb' 0 64))

/-- Quotients toward zero go to LO and remainders to HI; an open division still completes. DIV and DDIV by a divisor
that is not 0 (and not -1 under the most negative dividend) put the quotient rounded toward zero into LO and the
remainder with the sign of the dividend into HI, DIVU and DDIVU the unsigned ones; 32-bit results are sign-extended. In
the open cases, and in DIV and DIVU under WORD_OPERAND_STRICT with a source register that holds no sign-extended word
(log 23), the instruction completes too, HI and LO are unspecified and nothing else changes. The 64-bit forms with
Exec64() true. -/
def Obligations.DividesTowardZero : Prop :=
  ∀ (s : State) (rs rt : RegNum),
    let a := (gprRead s rs).extractLsb' 0 32
    let b := (gprRead s rt).extractLsb' 0 32
    let x := gprRead s rs
    let y := gprRead s rt
    (if b = 0 ∨ (a = BitVec.intMin 32 ∧ b = -1) then FreesHiLo s (exec (.div rs rt) s)
      else WritesHiLoWord s (exec (.div rs rt) s) [rs, rt] ((BitVec.ofInt 32 (a.toInt.tmod b.toInt)).signExtend 64)
        ((BitVec.ofInt 32 (a.toInt.tdiv b.toInt)).signExtend 64))
    ∧ (if b = 0 then FreesHiLo s (exec (.divu rs rt) s)
      else WritesHiLoWord s (exec (.divu rs rt) s) [rs, rt] ((BitVec.ofNat 32 (a.toNat % b.toNat)).signExtend 64)
        ((BitVec.ofNat 32 (a.toNat / b.toNat)).signExtend 64))
    ∧ (exec64 s = true → if y = 0 ∨ (x = BitVec.intMin 64 ∧ y = -1) then FreesHiLo s (exec (.ddiv rs rt) s)
      else WritesHiLo s (exec (.ddiv rs rt) s) (BitVec.ofInt 64 (x.toInt.tmod y.toInt)) (BitVec.ofInt 64 (x.toInt.tdiv y.toInt)))
    ∧ (exec64 s = true → if y = 0 then FreesHiLo s (exec (.ddivu rs rt) s)
      else WritesHiLo s (exec (.ddivu rs rt) s) (BitVec.ofNat 64 (x.toNat % y.toNat)) (BitVec.ofNat 64 (x.toNat / y.toNat)))

/-- The logic instructions compute every bit of the destination; LUI builds a sign-extended upper half. AND, OR, XOR,
NOR and the immediate forms (immediate zero-extended): bit k of the destination is the logic function of bit k of the
operands. LUI: the immediate in bits 31:16, bits 15:0 zero, bit 31 copied to bits 63:32. Nothing else changes but the
pc. The words with opcode 0 and functions 0x24 to 0x27, and with opcodes 12 to 15 (LUI with field rs 0), decode to these
instructions. -/
def Obligations.LogicResultsBitByBit : Prop :=
  ∀ (s : State) (rs rt rd : RegNum) (imm : BitVec 16),
    let a := gprRead s rs
    let b := gprRead s rt
    let bits (o : Out) (d : RegNum) (f : Nat → Bool) : Prop :=
      ∃ v, WritesGpr s o d v ∧ ∀ k, k < 64 → v.getLsbD k = f k
    bits (exec (.and rs rt rd) s) rd (fun k => a.getLsbD k && b.getLsbD k)
    ∧ bits (exec (.or rs rt rd) s) rd (fun k => a.getLsbD k || b.getLsbD k)
    ∧ bits (exec (.xor rs rt rd) s) rd (fun k => a.getLsbD k != b.getLsbD k)
    ∧ bits (exec (.nor rs rt rd) s) rd (fun k => !(a.getLsbD k || b.getLsbD k))
    ∧ bits (exec (.andi rs rt imm) s) rt (fun k => a.getLsbD k && imm.getLsbD k)
    ∧ bits (exec (.ori rs rt imm) s) rt (fun k => a.getLsbD k || imm.getLsbD k)
    ∧ bits (exec (.xori rs rt imm) s) rt (fun k => a.getLsbD k != imm.getLsbD k)
    ∧ bits (exec (.lui rt imm) s) rt (fun k => if k < 16 then false else if k < 32 then imm.getLsbD (k - 16) else imm.getLsbD 15)
    ∧ decode (0#6 ++ rs ++ rt ++ rd ++ 0#5 ++ 0x24#6) = .ok (.and rs rt rd)
    ∧ decode (0#6 ++ rs ++ rt ++ rd ++ 0#5 ++ 0x25#6) = .ok (.or rs rt rd)
    ∧ decode (0#6 ++ rs ++ rt ++ rd ++ 0#5 ++ 0x26#6) = .ok (.xor rs rt rd)
    ∧ decode (0#6 ++ rs ++ rt ++ rd ++ 0#5 ++ 0x27#6) = .ok (.nor rs rt rd)
    ∧ decode (12#6 ++ rs ++ rt ++ imm) = .ok (.andi rs rt imm)
    ∧ decode (13#6 ++ rs ++ rt ++ imm) = .ok (.ori rs rt imm)
    ∧ decode (14#6 ++ rs ++ rt ++ imm) = .ok (.xori rs rt imm)
    ∧ decode (15#6 ++ 0#5 ++ rt ++ imm) = .ok (.lui rt imm)

/-- The moves of HI, LO and the conditional moves of general registers. MFHI and MFLO copy HI or LO to rd, MTHI and MTLO
copy rs to HI or LO; MOVN and MOVZ copy rs to rd if rt is not or is zero; with CU1 = 1 MOVT and MOVF copy rs to rd if
the FPU condition cc is 1 or 0. A condition that does not hold makes the move do nothing. Nothing else changes but the
pc. With CU1 = 0 MOVT and MOVF raise CpU with CE = 1. The words with opcode 0, the functions 0x10 to 0x13, 0x0A, 0x0B
and 1 and zeros in the unused fields decode to these instructions. -/
def Obligations.MovesAmongRegisters : Prop :=
  ∀ (s : State) (rs rt rd : RegNum) (cc : BitVec 3),
    let moves (c : Prop) (o : Out) : Prop := (c → WritesGpr s o rd (gprRead s rs)) ∧ (¬ c → DoesNothing s o)
    WritesGpr s (exec (.mfhi rd) s) rd s.hi ∧ WritesGpr s (exec (.mflo rd) s) rd s.lo
    ∧ WritesHiLo s (exec (.mthi rs) s) (gprRead s rs) s.lo ∧ WritesHiLo s (exec (.mtlo rs) s) s.hi (gprRead s rs)
    ∧ moves (gprRead s rt ≠ 0) (exec (.movn rs rt rd) s) ∧ moves (gprRead s rt = 0) (exec (.movz rs rt rd) s)
    ∧ (s.cp0.status.cu1 = true → moves (s.fcsr.fcc.getLsbD cc.toNat = true) (exec (.movt rs cc rd) s)
        ∧ moves (s.fcsr.fcc.getLsbD cc.toNat = false) (exec (.movf rs cc rd) s))
    ∧ (s.cp0.status.cu1 = false → RaisesCpu s (exec (.movt rs cc rd) s) 1 ∧ RaisesCpu s (exec (.movf rs cc rd) s) 1)
    ∧ decode (0#6 ++ 0#5 ++ 0#5 ++ rd ++ 0#5 ++ 0x10#6) = .ok (.mfhi rd)
    ∧ decode (0#6 ++ rs ++ 0#5 ++ 0#5 ++ 0#5 ++ 0x11#6) = .ok (.mthi rs)
    ∧ decode (0#6 ++ 0#5 ++ 0#5 ++ rd ++ 0#5 ++ 0x12#6) = .ok (.mflo rd)
    ∧ decode (0#6 ++ rs ++ 0#5 ++ 0#5 ++ 0#5 ++ 0x13#6) = .ok (.mtlo rs)
    ∧ decode (0#6 ++ rs ++ rt ++ rd ++ 0#5 ++ 0x0A#6) = .ok (.movz rs rt rd)
    ∧ decode (0#6 ++ rs ++ rt ++ rd ++ 0#5 ++ 0x0B#6) = .ok (.movn rs rt rd)
    ∧ decode (0#6 ++ rs ++ (cc ++ 1#2) ++ rd ++ 0#5 ++ 0x01#6) = .ok (.movt rs cc rd)
    ∧ decode (0#6 ++ rs ++ (cc ++ 0#2) ++ rd ++ 0#5 ++ 0x01#6) = .ok (.movf rs cc rd)

/-- The 32-bit shifts write the sign-extended shifted low word. SLL, SRL, SRA shift the low word of rt by sa, SLLV,
SRLV, SRAV by the low five bits of rs; the 32-bit result is sign-extended to 64 bits, also for the logical right shift;
under WORD_OPERAND_STRICT it is some value if rt holds no sign-extended word (R400); that the register with the shift
amount is no source in this sense is the model's choice (log 23). Nothing else changes but the pc. The words with opcode
0 and functions 0, 2, 3, 4, 6 and 7 decode to these instructions (but NOP and SSNOP). -/
def Obligations.WordShifts : Prop :=
  decode 0x00000000 = .ok .nop ∧ decode 0x00000040 = .ok .ssnop ∧
  ∀ (s : State) (rs rt rd : RegNum) (sa : BitVec 5),
    let a := (gprRead s rt).extractLsb' 0 32
    let n := (gprRead s rs).toNat % 32
    WritesWord s (exec (.sll rt rd sa) s) [rt] rd ((BitVec.ofNat 32 (a.toNat * 2 ^ sa.toNat)).signExtend 64)
    ∧ WritesWord s (exec (.srl rt rd sa) s) [rt] rd ((BitVec.ofNat 32 (a.toNat / 2 ^ sa.toNat)).signExtend 64)
    ∧ WritesWord s (exec (.sra rt rd sa) s) [rt] rd (BitVec.ofInt 64 (a.toInt / 2 ^ sa.toNat))
    ∧ WritesWord s (exec (.sllv rs rt rd) s) [rt] rd ((BitVec.ofNat 32 (a.toNat * 2 ^ n)).signExtend 64)
    ∧ WritesWord s (exec (.srlv rs rt rd) s) [rt] rd ((BitVec.ofNat 32 (a.toNat / 2 ^ n)).signExtend 64)
    ∧ WritesWord s (exec (.srav rs rt rd) s) [rt] rd (BitVec.ofInt 64 (a.toInt / 2 ^ n))
    ∧ (Instr.wellFormed (.sll rt rd sa) = true → decode (0#6 ++ 0#5 ++ rt ++ rd ++ sa ++ 0#6) = .ok (.sll rt rd sa))
    ∧ decode (0#6 ++ 0#5 ++ rt ++ rd ++ sa ++ 2#6) = .ok (.srl rt rd sa)
    ∧ decode (0#6 ++ 0#5 ++ rt ++ rd ++ sa ++ 3#6) = .ok (.sra rt rd sa)
    ∧ decode (0#6 ++ rs ++ rt ++ rd ++ 0#5 ++ 4#6) = .ok (.sllv rs rt rd)
    ∧ decode (0#6 ++ rs ++ rt ++ rd ++ 0#5 ++ 6#6) = .ok (.srlv rs rt rd)
    ∧ decode (0#6 ++ rs ++ rt ++ rd ++ 0#5 ++ 7#6) = .ok (.srav rs rt rd)

/-- The 64-bit shifts where 64-bit instructions are available. With Exec64() true, DSLL, DSRL, DSRA shift rt by sa,
DSLL32, DSRL32, DSRA32 by sa + 32, DSLLV, DSRLV, DSRAV by the low six bits of rs. Nothing else changes but the pc. -/
def Obligations.DoublewordShifts : Prop :=
  ∀ (s : State) (rs rt rd : RegNum) (sa : BitVec 5), exec64 s = true →
    let x := gprRead s rt
    let n := (gprRead s rs).toNat % 64
    let left (o : Out) (k : Nat) : Prop := WritesGpr s o rd (BitVec.ofNat 64 (x.toNat * 2 ^ k))
    let right (o : Out) (k : Nat) : Prop := WritesGpr s o rd (BitVec.ofNat 64 (x.toNat / 2 ^ k))
    let arith (o : Out) (k : Nat) : Prop := WritesGpr s o rd (BitVec.ofInt 64 (x.toInt / 2 ^ k))
    left (exec (.dsll rt rd sa) s) sa.toNat ∧ left (exec (.dsll32 rt rd sa) s) (sa.toNat + 32)
    ∧ left (exec (.dsllv rs rt rd) s) n
    ∧ right (exec (.dsrl rt rd sa) s) sa.toNat ∧ right (exec (.dsrl32 rt rd sa) s) (sa.toNat + 32)
    ∧ right (exec (.dsrlv rs rt rd) s) n
    ∧ arith (exec (.dsra rt rd sa) s) sa.toNat ∧ arith (exec (.dsra32 rt rd sa) s) (sa.toNat + 32)
    ∧ arith (exec (.dsrav rs rt rd) s) n

/-- Ordinary branches: the next instruction is the delay slot, then the target or the address behind the slot. Outside a
delay slot BEQ, BNE, BLEZ, BGTZ, BLTZ, BGEZ, and with CU1 = 1 BC1T and BC1F, put the pc at the next address and make pc
+ 4 + 4 * offset (condition true) or pc + 8 (false) the pending target; conditions compare whole signed 64-bit registers
or test FCC[cc]. No register, no byte of memory and no other state changes. -/
def Obligations.OrdinaryBranches : Prop :=
  ∀ (s : State) (rs rt : RegNum) (cc : BitVec 3) (offset : BitVec 16), s.delay = none →
    let a := gprRead s rs
    let b := gprRead s rt
    let target := s.pc + 4 + (offset ++ (0 : BitVec 2)).signExtend 64
    let cond := s.fcsr.fcc.getLsbD cc.toNat
    Branches s (exec (.beq rs rt offset) s) (decide (a = b)) target
    ∧ Branches s (exec (.bne rs rt offset) s) (decide (a ≠ b)) target
    ∧ Branches s (exec (.blez rs offset) s) (decide (a.toInt ≤ 0)) target
    ∧ Branches s (exec (.bgtz rs offset) s) (decide (0 < a.toInt)) target
    ∧ Branches s (exec (.bltz rs offset) s) (decide (a.toInt < 0)) target
    ∧ Branches s (exec (.bgez rs offset) s) (decide (0 ≤ a.toInt)) target
    ∧ (s.cp0.status.cu1 = true → Branches s (exec (.bc1t cc offset) s) cond target
        ∧ Branches s (exec (.bc1f cc offset) s) (!cond) target)

/-- Likely branches nullify the delay slot when they are not taken. Outside a delay slot BEQL, BNEL, BLEZL, BGTZL,
BLTZL, BGEZL, and with CU1 = 1 BC1TL and BC1FL, behave as the ordinary branch when the condition holds; when it does
not, the pc goes to pc + 8 with no pending target, so the delay-slot instruction is not executed. BLTZALL and BGEZALL do
the same and write the link register in both cases. No other register and no other state changes. -/
def Obligations.LikelyBranches : Prop :=
  ∀ (s : State) (rs rt : RegNum) (cc : BitVec 3) (offset : BitVec 16), s.delay = none →
    let a := gprRead s rs
    let b := gprRead s rt
    let target := s.pc + 4 + (offset ++ (0 : BitVec 2)).signExtend 64
    let cond := s.fcsr.fcc.getLsbD cc.toNat
    (rs ≠ 31 → LinksLikely s (exec (.bltzall rs offset) s) (decide (a.toInt < 0)) target
        ∧ LinksLikely s (exec (.bgezall rs offset) s) (decide (0 ≤ a.toInt)) target)
    ∧ BranchesLikely s (exec (.beql rs rt offset) s) (decide (a = b)) target
    ∧ BranchesLikely s (exec (.bnel rs rt offset) s) (decide (a ≠ b)) target
    ∧ BranchesLikely s (exec (.blezl rs offset) s) (decide (a.toInt ≤ 0)) target
    ∧ BranchesLikely s (exec (.bgtzl rs offset) s) (decide (0 < a.toInt)) target
    ∧ BranchesLikely s (exec (.bltzl rs offset) s) (decide (a.toInt < 0)) target
    ∧ BranchesLikely s (exec (.bgezl rs offset) s) (decide (0 ≤ a.toInt)) target
    ∧ (s.cp0.status.cu1 = true → BranchesLikely s (exec (.bc1tl cc offset) s) cond target
        ∧ BranchesLikely s (exec (.bc1fl cc offset) s) (!cond) target)

/-- Jumps and linking branches: the target, and pc + 8 in the link register, taken or not. Outside a delay slot J and
JAL go to (pc + 4)[63:28] with the index and two zeros, JR and JALR to all 64 bits of rs (JALR with rd not rs), each
after its delay slot; JAL writes pc + 8 to register 31, JALR to rd. BLTZAL, BGEZAL, BLTZALL, BGEZALL with rs not 31
write pc + 8 to register 31 whether or not they are taken, and branch as their kind does. Nothing else changes. With rd
= rs in JALR, or rs = 31 in a linking branch, the program stops. -/
def Obligations.JumpsAndLinks : Prop :=
  ∀ (s : State) (rs rd : RegNum) (hint : BitVec 5) (index : BitVec 26) (offset : BitVec 16), s.delay = none →
    let a := gprRead s rs
    let jump : Word := (s.pc + 4).extractLsb' 28 36 ++ index ++ (0 : BitVec 2)
    let target := s.pc + 4 + (offset ++ (0 : BitVec 2)).signExtend 64
    Branches s (exec (.j index) s) true jump
    ∧ Links s (exec (.jal index) s) 31 true jump
    ∧ Branches s (exec (.jr rs hint) s) true a
    ∧ (rd ≠ rs → Links s (exec (.jalr rs rd hint) s) rd true a)
    ∧ (rs ≠ 31 → Links s (exec (.bltzal rs offset) s) 31 (decide (a.toInt < 0)) target
        ∧ Links s (exec (.bgezal rs offset) s) 31 (decide (0 ≤ a.toInt)) target
        ∧ LinksLikely s (exec (.bltzall rs offset) s) (decide (a.toInt < 0)) target
        ∧ LinksLikely s (exec (.bgezall rs offset) s) (decide (0 ≤ a.toInt)) target)
    ∧ exec (.jalr rs rs hint) s = .fault .linkRegisterIsSource
    ∧ (∀ i ∈ [Instr.bltzal 31 offset, Instr.bgezal 31 offset, Instr.bltzall 31 offset, Instr.bgezall 31 offset],
        exec i s = .fault .linkRegisterIsSource)

/-- A branch, jump, ERET or DERET in a delay slot stops the program, and no exception is taken. With a pending target
every jump and every branch (BC1x with CU1 = 1, the linking branches with rs not 31), and ERET and DERET where
coprocessor 0 is usable, stop with the fault branchInDelaySlot. -/
def Obligations.BranchInSlotStops : Prop :=
  ∀ (s : State) (rs rt rd : RegNum) (cc : BitVec 3) (hint : BitVec 5) (index : BitVec 26) (offset : BitVec 16),
    s.delay.isSome = true →
      (∀ i ∈ [Instr.j index, Instr.jal index, Instr.jr rs hint, Instr.jalr rs rd hint, Instr.beq rs rt offset,
        Instr.bne rs rt offset, Instr.blez rs offset, Instr.bgtz rs offset, Instr.bltz rs offset,
      Instr.bgez rs offset, Instr.beql rs rt offset, Instr.bnel rs rt offset, Instr.blezl rs offset,
        Instr.bgtzl rs offset, Instr.bltzl rs offset, Instr.bgezl rs offset],
        exec i s = .fault .branchInDelaySlot)
      ∧ (rs ≠ 31 → ∀ i ∈ [Instr.bltzal rs offset, Instr.bgezal rs offset, Instr.bltzall rs offset,
        Instr.bgezall rs offset],
        exec i s = .fault .branchInDelaySlot)
      ∧ (s.cp0.status.cu1 = true → ∀ i ∈ [Instr.bc1t cc offset, Instr.bc1f cc offset, Instr.bc1tl cc offset,
        Instr.bc1fl cc offset],
        exec i s = .fault .branchInDelaySlot)
      ∧ ((currentMode s = .kernel ∨ s.cp0.status.cu0 = true) → ∀ i ∈ [Instr.eret, Instr.deret],
        exec i s = .fault .branchInDelaySlot)

/-- NOP, SSNOP, PREF and PREFX change nothing but the pc. The words 0x00000000 and 0x00000040 are NOP and SSNOP; NOP,
SSNOP, PREF with any hint and address, and PREFX with CU1 = 1, complete and change nothing but the pc: no address or TLB
exception, no memory access. -/
def Obligations.InstructionsWithoutEffect : Prop :=
  decode 0x00000000 = .ok .nop ∧ decode 0x00000040 = .ok .ssnop ∧
  ∀ (s : State) (base index : RegNum) (hint : BitVec 5) (offset : BitVec 16),
    DoesNothing s (exec .nop s) ∧ DoesNothing s (exec .ssnop s) ∧ DoesNothing s (exec (.pref base hint offset) s)
    ∧ (s.cp0.status.cu1 = true → DoesNothing s (exec (.prefx base index hint) s))

/-- Uncached loads bring the bytes at the address into the register, extended as the instruction says. For an aligned
address base + sign-extended offset that translates uncached to pa, with no copy in the data cache, no bus error and
none waiting to be reported, and v the number the bytes at pa hold: LB, LH, LW put v sign-extended into rt, LBU, LHU v
zero-extended; with Exec64() true LWU v zero-extended and LD all 64 bits. Nothing else changes but the pc (where
READ_OVERTAKES_WRITES is false the buffered writes reach memory first): no byte of memory as loads see it, no other
register. -/
def Obligations.UncachedLoads : Prop :=
  ∀ (s : State) (base rt : RegNum) (offset : BitVec 16) (pa : PAddr) (v : Word),
    let va := gprRead s base + offset.signExtend 64
    let t := waited s
    (UncachedLoad s va 1 pa → Holds s pa 1 v →
        WritesGpr t (exec (.lb base rt offset) s) rt ((v.extractLsb' 0 8).signExtend 64)
        ∧ WritesGpr t (exec (.lbu base rt offset) s) rt v)
    ∧ (UncachedLoad s va 2 pa → Holds s pa 2 v →
        WritesGpr t (exec (.lh base rt offset) s) rt ((v.extractLsb' 0 16).signExtend 64)
        ∧ WritesGpr t (exec (.lhu base rt offset) s) rt v)
    ∧ (UncachedLoad s va 4 pa → Holds s pa 4 v →
        WritesGpr t (exec (.lw base rt offset) s) rt ((v.extractLsb' 0 32).signExtend 64)
        ∧ (exec64 s = true → WritesGpr t (exec (.lwu base rt offset) s) rt v))
    ∧ (UncachedLoad s va 8 pa → Holds s pa 8 v → exec64 s = true → WritesGpr t (exec (.ld base rt offset) s) rt v)

/-- LWL, LWR, LDL and LDR merge the bytes up to the boundary into the register. For an uncached address with no copy in
the data cache and no bus error in its doubleword: LWL and LDL take the bytes from the address to the end of the word or
doubleword (big-endian; to its beginning in little-endian order) into the upper bytes of the register, LWR and LDR the
bytes from the other end up to the address into the lower ones; the other bytes of the register stay. LWL and LWR
sign-extend the merged word. Nothing else changes but the pc (where READ_OVERTAKES_WRITES is false the buffered writes
reach memory first). -/
def Obligations.UncachedPartialLoads : Prop :=
  ∀ (s : State) (base rt : RegNum) (offset : BitVec 16) (pa : PAddr),
    let va := gprRead s base + offset.signExtend 64
    let be := dataBigEndian s
    let old := gprRead s rt
    let t := waited s
    let n (w : Nat) (left : Bool) : Nat := if be = left then w - va.toNat % w else va.toNat % w + 1
    let lane (left : Bool) (j : Nat) : Nat := laneOf s (if be = left then pa.toNat + j else pa.toNat - j)
    let leftMerged (w : Nat) (v : Word) : Prop := ∀ j, j < w → v.extractLsb' (8 * (w - 1 - j)) 8
      = if j < n w true then seenByte s (lane true j) else old.extractLsb' (8 * (w - 1 - j)) 8
    let rightMerged (w : Nat) (v : Word) : Prop := ∀ j, j < w → v.extractLsb' (8 * j) 8
      = if j < n w false then seenByte s (lane false j) else old.extractLsb' (8 * j) 8
    translate s va .load = .ok pa 2 → holdsCopy s.dcache pa = false → s.lateError = none →
    readFails s (busAddress s (pa.toNat / 8 * 8)) 8 = false →
    (∃ v, leftMerged 4 v ∧ WritesGpr t (exec (.lwl base rt offset) s) rt ((v.extractLsb' 0 32).signExtend 64))
    ∧ (∃ v, rightMerged 4 v ∧ WritesGpr t (exec (.lwr base rt offset) s) rt ((v.extractLsb' 0 32).signExtend 64))
    ∧ (exec64 s = true → ∃ v, leftMerged 8 v ∧ WritesGpr t (exec (.ldl base rt offset) s) rt v)
    ∧ (exec64 s = true → ∃ v, rightMerged 8 v ∧ WritesGpr t (exec (.ldr base rt offset) s) rt v)

/-- Uncached stores put the low bytes of the register at the address and change no other byte. For an aligned address
that translates uncached to pa with no copy in the data cache: SB, SH, SW and, with Exec64() true, SD store the low 1,
2, 4 or 8 bytes of rt at pa in the data byte order: a later load sees them there, every other byte reads as before, and
the store waits in the write buffer. No register changes but the pc. -/
def Obligations.UncachedStores : Prop :=
  ∀ (s : State) (base rt : RegNum) (offset : BitVec 16) (pa : PAddr),
    let va := gprRead s base + offset.signExtend 64
    let v := gprRead s rt
    Memory.wf s.mem = true →
    (Uncached s va 1 .store pa → Stores s (exec (.sb base rt offset) s) pa 1 v)
    ∧ (Uncached s va 2 .store pa → Stores s (exec (.sh base rt offset) s) pa 2 v)
    ∧ (Uncached s va 4 .store pa → Stores s (exec (.sw base rt offset) s) pa 4 v)
    ∧ (Uncached s va 8 .store pa → exec64 s = true → Stores s (exec (.sd base rt offset) s) pa 8 v)

/-- SWL, SWR, SDL and SDR store the bytes up to the boundary and change no other byte. For an uncached address with no
copy in the data cache: SWL and SDL store the upper bytes of the register from the address to the end of the word or
doubleword (to its beginning in little-endian order), SWR and SDR the lower bytes up to the address from the other end.
Every other byte reads as before, and no register changes but the pc. -/
def Obligations.UncachedPartialStores : Prop :=
  ∀ (s : State) (base rt : RegNum) (offset : BitVec 16) (pa : PAddr),
    let va := gprRead s base + offset.signExtend 64
    let be := dataBigEndian s
    let v := gprRead s rt
    let n (w : Nat) (left : Bool) : Nat := if be = left then w - va.toNat % w else va.toNat % w + 1
    let lane (left : Bool) (j : Nat) : Nat := laneOf s (if be = left then pa.toNat + j else pa.toNat - j)
    let puts (o : Out) (w : Nat) (left : Bool) : Prop :=
      ∃ t, o = .next t
        ∧ (∀ j, j < n w left → seenByte t (lane left j) = v.extractLsb' (8 * (if left then w - 1 - j else j)) 8)
        ∧ (∀ x, (∀ j, j < n w left → x ≠ lane left j) → seenByte t x = seenByte s x)
        ∧ MovesOn s t ∧ (∀ r, gprRead t r = gprRead s r) ∧ t = { s with wbuf := t.wbuf, codeStores := t.codeStores, pc := t.pc, delay := t.delay }
    Memory.wf s.mem = true → translate s va .store = .ok pa 2 → holdsCopy s.dcache pa = false →
    puts (exec (.swl base rt offset) s) 4 true ∧ puts (exec (.swr base rt offset) s) 4 false
    ∧ (exec64 s = true → puts (exec (.sdl base rt offset) s) 8 true ∧ puts (exec (.sdr base rt offset) s) 8 false)

/-- LL and LLD set LLbit; SC and SCD store exactly when LLbit is set, report it, and clear it. For an aligned uncached
address: LL and LLD load as LW and LD do and set LLbit. SC and SCD with LLbit = 1 store the low 4 or 8 bytes of rt, with
LLbit = 0 they change no byte of memory; then rt is 1 or 0 and LLbit is 0, whatever address was linked. The 64-bit forms
with Exec64() true. Nothing else changes but the pc (before a load the buffered writes reach memory where
READ_OVERTAKES_WRITES is false). -/
def Obligations.LoadLinkedStoreConditional : Prop :=
  ∀ (s : State) (base rt : RegNum) (offset : BitVec 16) (pa : PAddr) (v : Word),
    let va := gprRead s base + offset.signExtend 64
    let loads (o : Out) (x : Word) : Prop :=
      ∃ t, o = .next t ∧ GprIs s t rt x ∧ t.llbit = true ∧ MovesOn s t ∧ SameMemory (waited s) t
        ∧ t = { waited s with gpr := t.gpr, llbit := t.llbit, pc := t.pc, delay := t.delay }
    let succeeds (o : Out) (n : Nat) : Prop :=
      ∃ t, o = .next t ∧ Stored s t pa n (gprRead s rt) ∧ GprIs s t rt 1 ∧ t.llbit = false ∧ MovesOn s t
        ∧ t = { s with gpr := t.gpr, llbit := t.llbit, wbuf := t.wbuf, codeStores := t.codeStores, pc := t.pc, delay := t.delay }
    let refuses (o : Out) : Prop :=
      ∃ t, o = .next t ∧ GprIs s t rt 0 ∧ t.llbit = false ∧ MovesOn s t ∧ SameMemory s t
        ∧ t = { s with gpr := t.gpr, llbit := t.llbit, pc := t.pc, delay := t.delay }
    (UncachedLoad s va 4 pa → Holds s pa 4 v → loads (exec (.ll base rt offset) s) ((v.extractLsb' 0 32).signExtend 64))
    ∧ (UncachedLoad s va 8 pa → Holds s pa 8 v → exec64 s = true → loads (exec (.lld base rt offset) s) v)
    ∧ (Memory.wf s.mem = true → Uncached s va 4 .store pa →
        if s.llbit then succeeds (exec (.sc base rt offset) s) 4 else refuses (exec (.sc base rt offset) s))
    ∧ (Memory.wf s.mem = true → Uncached s va 8 .store pa → exec64 s = true →
        if s.llbit then succeeds (exec (.scd base rt offset) s) 8 else refuses (exec (.scd base rt offset) s))

/-- A misaligned data address raises AdEL on a load and AdES on a store, before any translation. LH, LHU, SH at an
address that is no multiple of 2, LW, LWU, SW, LL, SC of 4, LD, SD, LLD, SCD of 8, and with CU1 = 1 the FPU loads and
stores LWC1, SWC1, LWXC1, SWXC1 of 4 and LDC1, SDC1, LDXC1, SDXC1 (even register or FR = 1) of 8, raise an address error
with ExcCode 4 for a load and 5 for a store, BadVAddr being the address: no register, no byte of memory and no CP0
register changes but those the entry writes; the ASID and both PTEBase keep their values, the page fields of EntryHi,
Context and XContext are open (U17). The 64-bit forms with Exec64() true. LUXC1 and SUXC1 align the address down, so
only its segment counts: where the mode may not use it SUXC1 raises AdES (5) with BadVAddr the address before its low
three bits are cleared, and LUXC1 raises AdEL (4) with BadVAddr that address (R824) or the aligned one (R729 says so):
which is left open (log 25). -/
def Obligations.MisalignedAccessesRaiseAddressErrors : Prop :=
  ∀ (s : State) (base index r : RegNum) (offset : BitVec 16),
    let va := gprRead s base + offset.signExtend 64
    let vx := gprRead s base + gprRead s index
    let faults (l : List Instr) (code : BitVec 5) (a : Word) : Prop := ∀ i ∈ l, RaisesAddressError s (exec i s) code a
    (va.toNat % 2 ≠ 0 → faults [.lh base r offset, .lhu base r offset] 4 va ∧ faults [.sh base r offset] 5 va)
    ∧ (va.toNat % 4 ≠ 0 → faults [.lw base r offset, .ll base r offset] 4 va
        ∧ faults [.sw base r offset, .sc base r offset] 5 va
        ∧ (exec64 s = true → faults [.lwu base r offset] 4 va)
        ∧ (s.cp0.status.cu1 = true → faults [.lwc1 base r offset] 4 va ∧ faults [.swc1 base r offset] 5 va))
    ∧ (va.toNat % 8 ≠ 0 → exec64 s = true → faults [.ld base r offset, .lld base r offset] 4 va
        ∧ faults [.sd base r offset, .scd base r offset] 5 va
        ∧ (s.cp0.status.cu1 = true → fprNumberOk s r = true →
            faults [.ldc1 base r offset] 4 va ∧ faults [.sdc1 base r offset] 5 va))
    ∧ (exec64 s = true → s.cp0.status.cu1 = true →
        (vx.toNat % 4 ≠ 0 → faults [.lwxc1 base index r] 4 vx ∧ faults [.swxc1 base index r] 5 vx)
        ∧ (vx.toNat % 8 ≠ 0 → fprNumberOk s r = true →
            faults [.ldxc1 base index r] 4 vx ∧ faults [.sdxc1 base index r] 5 vx)
        ∧ (segmentAccessible s (segmentOf vx) = false → fprNumberOk s r = true →
            faults [.suxc1 base index r] 5 vx
            ∧ ∃ a, (a = vx ∨ a = vx.extractLsb' 3 61 ++ (0 : BitVec 3)) ∧ faults [.luxc1 base index r] 4 a))

/-- The TLB gives the address of the page, or raises a refill, invalid, modified or machine check exception. For an
address in a mapped segment that the mode may use (Config0.TR = 0, ERL = 0, every valid entry with a legal mask), in a
word load or store (aligned) or in the fetch of a step at an aligned pc: no matching entry raises TLBL or TLBS at the
refill vector (offset 0x080 if the bit UX, SX or KX of the segment is set, else 0x000; 0x180 with EXL = 1); several
raise MCheck with Status.TS set and the TLB as it was (D44); one whose page (even or odd by the address bit above the
page size) has V = 0 raises TLBL or TLBS, and a store to a page with V = 1 and D = 0 raises Mod, at the general vector.
BadVAddr and the page fields of EntryHi, Context and XContext get the address; ASID, PTEBase, every other CP0 register
and everything else stay but for the entry. One whose page has V = 1 (and D = 1 for a store) translates: the physical
address has the offset bits of the address below the page size and those of the PFN above, the cache policy is C. -/
def Obligations.TlbMissesRecordTheAddress : Prop :=
  ∀ (s : State) (base rt : RegNum) (offset : BitVec 16) (x : Word),
    let va := gprRead s base + offset.signExtend 64
    let load := exec (.lw base rt offset) s
    let store := exec (.sw base rt offset) s
    let mapped (a : Word) : Prop := segmentAccessible s (segmentOf a) = true ∧ (segmentOf a = .useg ∨ segmentOf a = .xuseg
      ∨ segmentOf a = .xsseg ∨ segmentOf a = .xkseg ∨ segmentOf a = .csseg ∨ segmentOf a = .ckseg3)
    let noHit (a : Word) : Prop := ∀ i : Fin 48, ¬ Hits s s.tlb[i] a
    let oneHit (a : Word) (i : Fin 48) : Prop := Hits s s.tlb[i] a ∧ ∀ j : Fin 48, j ≠ i → ¬ Hits s s.tlb[j] a
    let twoHits (a : Word) : Prop := ∃ i j : Fin 48, i ≠ j ∧ Hits s s.tlb[i] a ∧ Hits s s.tlb[j] a
    let refill (a : Word) : Word := if s.cp0.status.exl then 0x180 else if addressing64 s a then 0x080 else 0x000
    let sized (i : Fin 48) (n : Nat) : Prop := n < 7 ∧ s.tlb[i].mask = BitVec.ofNat 12 (4 ^ n - 1)
    let page (i : Fin 48) (n : Nat) (a : Word) : TlbPage := if a.getLsbD (12 + 2 * n) then s.tlb[i].odd else s.tlb[i].even
    let enters (o : Out) (code : BitVec 5) (offset : Word) : Prop := ∃ t, o = .next t ∧ TlbErrorEntered s code offset va t
    let checks (o : Out) : Prop := ∃ t, o = .next t ∧ McheckEntered s t ∧ t.tlb = s.tlb
    let fetchEnters (offset : Word) : Prop := ∃ u, step s = .next (boundary u) ∧ TlbErrorEntered s 2 offset s.pc u
    s.cp0.config0.tr = false → s.cp0.status.erl = false → illegalMaskPresent s = false →
    (va.toNat % 4 = 0 → mapped va →
      (noHit va → enters load 2 (refill va) ∧ enters store 3 (refill va))
      ∧ (twoHits va → checks load ∧ checks store)
      ∧ ∀ i n, oneHit va i → sized i n →
        ((page i n va).v = false → enters load 2 0x180 ∧ enters store 3 0x180)
        ∧ ((page i n va).v = true → (page i n va).d = false → enters store 1 0x180))
    ∧ (Ready s → s.pc.toNat % 4 = 0 → mapped s.pc →
      (noHit s.pc → fetchEnters (refill s.pc))
      ∧ (twoHits s.pc → ∃ u, step s = .next (boundary u) ∧ McheckEntered s u ∧ u.tlb = s.tlb)
      ∧ ∀ i n, oneHit s.pc i → sized i n → (page i n s.pc).v = false → fetchEnters 0x180)
    ∧ (mapped x → ∀ (k : Access) (i : Fin 48) (n : Nat), oneHit x i → sized i n → (page i n x).v = true →
        (k = .store → (page i n x).d = true) →
        ∃ pa, translate s x k = .ok pa (page i n x).c
          ∧ ∀ j, j < 36 → pa.getLsbD j = if j < 12 + 2 * n then x.getLsbD j else (page i n x).pfn.getLsbD (j - 12))

/-- The unmapped segments map as the table says, and an address the mode may not use is an address error. In Kernel mode
ckseg0 maps to va[28:0] with the policy Config0.K0, ckseg1 to va[28:0] uncached, xkphys (KX = 1, bits 58:36 zero) to
va[35:0] with the policy va[61:59]; with ERL = 1 and the parameter ERL_USEG_UNMAPPED useg maps to va[30:0] uncached. In
User mode every address from 2 GB up (from 2^40 up with UX = 1) is an address error, in Supervisor mode every address of
ckseg0, ckseg1 and ckseg3, and in every mode an address between the segments. In every mode, Kernel mode too, an address
of xuseg with UX = 0, of xsseg with SX = 0, and of xkphys or xkseg with KX = 0 is an address error. -/
def Obligations.SegmentsDecideAccessAndMapping : Prop :=
  ∀ (s : State) (va : Word) (k : Access),
    let n := va.toNat
    let bad := translate s va k = .trap (.addressError k.isStore va)
    (currentMode s = .kernel →
      (0xFFFFFFFF80000000 ≤ n → n < 0xFFFFFFFFA0000000 →
        translate s va k = .ok ((va.extractLsb' 0 29).setWidth 36) s.cp0.config0.k0)
      ∧ (0xFFFFFFFFA0000000 ≤ n → n < 0xFFFFFFFFC0000000 → translate s va k = .ok ((va.extractLsb' 0 29).setWidth 36) 2)
      ∧ (s.cp0.status.kx = true → 0x8000000000000000 ≤ n → n < 0xC000000000000000 → va.extractLsb' 36 23 = 0 →
        translate s va k = .ok (va.extractLsb' 0 36) (va.extractLsb' 59 3)))
    ∧ (n < 0x80000000 → s.cp0.status.erl = true → s.conf.erlUsegUnmapped = true →
        translate s va k = .ok ((va.extractLsb' 0 31).setWidth 36) 2)
    ∧ (currentMode s = .user → (if s.cp0.status.ux then 0x10000000000 ≤ n else 0x80000000 ≤ n) → bad)
    ∧ (currentMode s = .supervisor →
        (0xFFFFFFFF80000000 ≤ n ∧ n < 0xFFFFFFFFC0000000 ∨ 0xFFFFFFFFE0000000 ≤ n ∨ 0x8000000000000000 ≤ n
          ∧ n < 0xC00000FF80000000) → bad)
    ∧ ((0x10000000000 ≤ n ∧ n < 0x4000000000000000 ∨ 0x4000010000000000 ≤ n ∧ n < 0x8000000000000000
        ∨ 0xC00000FF80000000 ≤ n ∧ n < 0xFFFFFFFF80000000
        ∨ 0x8000000000000000 ≤ n ∧ n < 0xC000000000000000 ∧ va.extractLsb' 36 23 ≠ 0) → bad)
    ∧ (s.cp0.status.ux = false → 0x80000000 ≤ n → n < 0x10000000000 → bad)
    ∧ (s.cp0.status.sx = false → 0x4000000000000000 ≤ n → n < 0x4000010000000000 → bad)
    ∧ (s.cp0.status.kx = false → 0x8000000000000000 ≤ n → n < 0xC00000FF80000000 → bad)

/-- A cached access that hits uses a line that holds the address, several such lines set DMH; every load and store does
what its access does. In an initialised data cache in which one way or several hold pa, for one of them, w: a cached
read of n bytes gives the bytes of its line, zeros above them, and changes neither memory nor the lines; a write-back
store puts its bytes into the line, sets Dirty, leaves the write buffer and memory alone; a write-through store puts
them into the line and also into the write buffer. Positions in a line are byte lanes. ErrCtl.DMH is set if several ways
hold pa, and ErrCtl.WSE if the Way Select word of the line is none of the 24 that stand for an order of the four ways.
Which of several ways serves, and that every access detects an illegal word, is the model's reading (log 11). Nothing
else changes but this Way Select word and the model's own records. Every load and store of the instruction set, at an
address that translates to pa with any cache policy, does what the access of its bytes does (hit, miss as O37 says, or
uncached), and then only its own effect: LB to LD, LWL to LDR, LL and LLD put the bytes read, extended or merged, into
rt (LL and LLD set LLbit), the FPU loads into the FPU register, recorded as fit for every format (log 22); SB to SD, SWL
to SDR and the FPU stores write the bytes of the register and change nothing beside; SC and SCD write only with LLbit =
1, put LLbit into rt and clear it. The 64-bit forms with Exec64(), the FPU forms with CU1 = 1 and, for 64 bits, an even
register number or FR = 1. -/
def Obligations.CachedAccessesUseTheLine : Prop :=
  (∀ (s : State) (pa : PAddr) (n : Nat) (v : Word) (cca : BitVec 3),
    let key := laneKey (dataBigEndian s) pa.toNat n
    let hits := hitWays s.dcache pa
    let line (t : State) (w : Nat) : CacheLine := getLine t.dcache w (lineOf pa)
    let keeps (t : State) : Prop := WaySelectUsed s t s.dcache t.dcache (lineOf pa)
      ∧ t = { s with dcache := t.dcache, wbuf := t.wbuf, codeStores := t.codeStores, draws := t.draws,
                     cp0 := { s.cp0 with errCtl := { s.cp0.errCtl with
                       dmh := s.cp0.errCtl.dmh || decide (1 < hits.length), wse := t.cp0.errCtl.wse } } }
    0 < n → n ≤ 8 → pa.toNat % 8 + n ≤ 8 → cacheWf s.dcache = true → cacheReady s.dcache = true → hits ≠ [] →
    (cca = 0 ∨ cca = 1 ∨ cca = 3) →
    (∃ t x, ∃ w ∈ hits, physRead s pa n cca = .ok x t ∧ x.toNat < 2 ^ (8 * n) ∧ keeps t ∧ t.wbuf = s.wbuf ∧ t.codeStores = s.codeStores
      ∧ t.dcache.lines = s.dcache.lines
      ∧ ∀ i : Fin 32, key % 32 ≤ i.val → i.val < key % 32 + n →
          x.extractLsb' (8 * (n - 1 - (i.val - key % 32))) 8 = (line s w).data[i])
    ∧ (∃ t, ∃ w ∈ hits, physWrite s pa n v cca = .ok () t ∧ keeps t
      ∧ (if cca = 3 then t.wbuf = s.wbuf else t.wbuf = s.wbuf ++ [{ key := busAddress s key, bytes := splitBytes n v }])
      ∧ (line t w).dirty = ((line s w).dirty || cca == 3) ∧ (line t w).v = (line s w).v ∧ (line t w).tag = (line s w).tag
      ∧ (line t w).l = (line s w).l
      ∧ (∀ i : Fin 32, (line t w).data[i] =
          if key % 32 ≤ i.val ∧ i.val < key % 32 + n then v.extractLsb' (8 * (n - 1 - (i.val - key % 32))) 8 else (line s w).data[i])
      ∧ OtherLines s.dcache t.dcache w (lineOf pa)))
  ∧ ∀ (s : State) (base index rt : RegNum) (offset : BitVec 16) (pa : PAddr) (cca : BitVec 3),
    let va := gprRead s base + offset.signExtend 64
    let vx := gprRead s base + gprRead s index
    let down : Word := vx.extractLsb' 3 61 ++ (0 : BitVec 3)
    let be := dataBigEndian s
    let old := gprRead s rt
    let read (a : Word) (n : Nat) (p : Word → State → Prop) : Prop :=
      a.toNat % n = 0 → translate s a .load = .ok pa cca → ∀ x t, physRead s pa n cca = .ok x t → p x t
    let loads (n : Nat) (i : Instr) (extend : Word → Word) : Prop := read va n fun x t => WritesGpr t (exec i s) rt (extend x)
    let links (n : Nat) (i : Instr) (extend : Word → Word) : Prop := read va n fun x t =>
      ∃ u, exec i s = .next u ∧ GprIs t u rt (extend x) ∧ u.llbit = true ∧ MovesOn t u ∧ SameMemory t u
        ∧ u = { t with gpr := u.gpr, llbit := u.llbit, pc := u.pc, delay := u.delay }
    let loadsFpr (a : Word) (n : Nat) (i : Instr) : Prop := read a n fun x t =>
      ∃ u, exec i s = .next u ∧ (if n = 4 then Fpr32Is t u .raw rt (x.extractLsb' 0 32) else Fpr64Is t u .raw rt x)
        ∧ u.fcsr = t.fcsr ∧ MovesOn t u ∧ FpKeeps t u
    let stores (a : Word) (n : Nat) (v : Word) (i : Instr) : Prop :=
      a.toNat % n = 0 → translate s a .store = .ok pa cca → ∀ t, physWrite s pa n v cca = .ok () t → DoesNothing t (exec i s)
    let conditional (n : Nat) (i : Instr) : Prop := va.toNat % n = 0 → translate s va .store = .ok pa cca →
      ∀ t, (if s.llbit then physWrite s pa n old cca = .ok () t else t = s) →
        ∃ u, exec i s = .next u ∧ GprIs t u rt (if s.llbit then 1 else 0) ∧ u.llbit = false ∧ MovesOn t u ∧ SameMemory t u
          ∧ u = { t with gpr := u.gpr, llbit := u.llbit, pc := u.pc, delay := u.delay }
    let up (left : Bool) : Bool := be == left
    let count (w : Nat) (left : Bool) : Nat := if up left then w - va.toNat % w else va.toNat % w + 1
    let first (w : Nat) (left : Bool) : PAddr := if up left then pa else pa - BitVec.ofNat 36 (va.toNat % w)
    let byte (v : Word) (j : Nat) : Byte := v.extractLsb' (8 * j) 8
    let merges (w : Nat) (left : Bool) (i : Instr) (extend : Word → Word) : Prop :=
      let m := count w left
      translate s va .load = .ok pa cca → ∀ x t, physRead s (first w left) m cca = .ok x t →
        ∃ v, WritesGpr t (exec i s) rt (extend v) ∧ ∀ j, j < w → byte v j =
          if left then (if w - m ≤ j then byte x (j - (w - m)) else byte old j) else (if j < m then byte x j else byte old j)
    let parts (w : Nat) (left : Bool) (i : Instr) : Prop :=
      let m := count w left
      translate s va .store = .ok pa cca → ∀ x t, (∀ j, j < m → byte x j = byte old (if left then w - m + j else j)) →
        physWrite s (first w left) m x cca = .ok () t → DoesNothing t (exec i s)
    let word (x : Word) : Word := (x.extractLsb' 0 32).signExtend 64
    loads 1 (.lb base rt offset) (fun x => (x.extractLsb' 0 8).signExtend 64) ∧ loads 1 (.lbu base rt offset) id
    ∧ loads 2 (.lh base rt offset) (fun x => (x.extractLsb' 0 16).signExtend 64) ∧ loads 2 (.lhu base rt offset) id
    ∧ loads 4 (.lw base rt offset) word ∧ links 4 (.ll base rt offset) word
    ∧ merges 4 true (.lwl base rt offset) word ∧ merges 4 false (.lwr base rt offset) word
    ∧ stores va 1 old (.sb base rt offset) ∧ stores va 2 old (.sh base rt offset) ∧ stores va 4 old (.sw base rt offset)
    ∧ conditional 4 (.sc base rt offset) ∧ parts 4 true (.swl base rt offset) ∧ parts 4 false (.swr base rt offset)
    ∧ (exec64 s = true → loads 4 (.lwu base rt offset) id ∧ loads 8 (.ld base rt offset) id ∧ links 8 (.lld base rt offset) id
      ∧ merges 8 true (.ldl base rt offset) id ∧ merges 8 false (.ldr base rt offset) id ∧ stores va 8 old (.sd base rt offset)
      ∧ conditional 8 (.scd base rt offset) ∧ parts 8 true (.sdl base rt offset) ∧ parts 8 false (.sdr base rt offset))
    ∧ (s.cp0.status.cu1 = true →
      loadsFpr va 4 (.lwc1 base rt offset) ∧ stores va 4 ((fpr32 s rt).setWidth 64) (.swc1 base rt offset)
      ∧ (exec64 s = true → loadsFpr vx 4 (.lwxc1 base index rt) ∧ stores vx 4 ((fpr32 s rt).setWidth 64) (.swxc1 base index rt)
        ∧ (fprNumberOk s rt = true →
          loadsFpr va 8 (.ldc1 base rt offset) ∧ loadsFpr vx 8 (.ldxc1 base index rt) ∧ loadsFpr down 8 (.luxc1 base index rt)
          ∧ stores va 8 (fpr64 s rt) (.sdc1 base rt offset) ∧ stores vx 8 (fpr64 s rt) (.sdxc1 base index rt)
          ∧ stores down 8 (fpr64 s rt) (.suxc1 base index rt))))

/-- A cached access that misses fills one unlocked way with the memory of the line, a dirty victim written out first. In
an initialised data cache in which no way holds pa, at least one of the four lines of its set is unlocked, and the bus
reads the line without an error (and none waits to be reported): a cached read of n bytes fills exactly one of the
unlocked ways with the tag, V = 1, Dirty = 0, L = 0 and the 32 bytes of memory as loads see it, every other line stays,
and the value is what memory then holds at pa. If the line replaced was valid and dirty, its bytes have gone to memory
at the address of its own tag before; that the whole write buffer is then empty is the model's choice (log 17: R144 says
only that the victim is written out first). No other byte of memory changes. A store that misses under write-back (code
3) fills a way likewise, puts its bytes into the line and sets Dirty; under write-through with allocation (code 1) its
bytes go to memory, with the write buffer emptied (log 17 too), and then the line is filled; without allocation (code 0)
its bytes only go into the write buffer, the Way Select word staying (the model's choice, log 11). A fill sets
ErrCtl.WSE if the Way Select word of the line is illegal (that every access detects it is the model's reading, log 11).
Nothing else changes but this word and the model's own records. What each load and store instruction makes of these
accesses stands in O36. -/
def Obligations.MissFillsOneUnlockedWay : Prop :=
  ∀ (s : State) (pa : PAddr) (n : Nat) (v : Word) (cca : BitVec 3),
    let key := laneKey (dataBigEndian s) pa.toNat n
    let first := lineKey s (tagOf pa) (lineOf pa)
    let line (t : State) (w : Nat) : CacheLine := getLine t.dcache w (lineOf pa)
    let byte (k : Nat) : Byte := v.extractLsb' (8 * (n - 1 - k)) 8
    let filled (t : State) (w : Nat) : Prop := w ∈ unlockedWays s.dcache pa
      ∧ (line t w).v = true ∧ (line t w).tag = tagOf pa ∧ (line t w).l = false
      ∧ OtherLines s.dcache t.dcache w (lineOf pa) ∧ WaySelectUsed s t s.dcache t.dcache (lineOf pa)
      ∧ t = { s with dcache := t.dcache, mem := t.mem, wbuf := t.wbuf, codeStores := t.codeStores, draws := t.draws,
                     cp0 := { s.cp0 with errCtl := { s.cp0.errCtl with wse := t.cp0.errCtl.wse } } }
    0 < n → n ≤ 8 → pa.toNat % 8 + n ≤ 8 → Memory.wf s.mem = true → cacheWf s.dcache = true → cacheReady s.dcache = true →
    hitWays s.dcache pa = [] → unlockedWays s.dcache pa ≠ [] → readFails s first 32 = false → s.lateError = none →
    ((cca = 0 ∨ cca = 1 ∨ cca = 3) → ∃ t w x, physRead s pa n cca = .ok x t ∧ filled t w ∧ (line t w).dirty = false
      ∧ (∀ i : Fin 32, (line t w).data[i] = seenByte t (first + i.val)) ∧ Holds t pa n x ∧ VictimWritten s t pa w (seenByte s)
      ∧ t.codeStores = s.codeStores)
    ∧ (∃ t w, physWrite s pa n v 3 = .ok () t ∧ filled t w ∧ (line t w).dirty = true ∧ VictimWritten s t pa w (seenByte s)
      ∧ ∀ i : Fin 32, (line t w).data[i] =
          if key % 32 ≤ i.val ∧ i.val < key % 32 + n then byte (i.val - key % 32) else seenByte t (first + i.val))
    ∧ (∃ t w, physWrite s pa n v 1 = .ok () t ∧ filled t w ∧ (line t w).dirty = false ∧ t.wbuf = []
      ∧ (∀ i : Fin 32, (line t w).data[i] = seenByte t (first + i.val))
      ∧ VictimWritten s t pa w fun a =>
          if busAddress s key ≤ a ∧ a < busAddress s key + n then byte (a - busAddress s key) else seenByte s a)
    ∧ (∃ t, physWrite s pa n v 0 = .ok () t ∧ t.wbuf = s.wbuf ++ [{ key := busAddress s key, bytes := splitBytes n v }]
      ∧ t = { s with wbuf := t.wbuf, codeStores := t.codeStores })

/-- SYNC brings every earlier store to memory and changes nothing the program sees, and with Hit Invalidate and a jump
makes stored code sure to be fetched. SYNC with any stype completes with an empty write buffer; memory then holds, byte
by byte, what the processor's loads saw before, so no load sees a change; no register, cache line or other state changes
but the pc and the model's own record of the lines stored to (log 29). What fetches see (O10): after a word store (SW,
uncached, in the base byte order) a fetch of the word, cached or not, may give the stored word and the word before it.
SYNC and then a taken jump (the note a step makes of one, O9) leave an uncached fetch no such choice, if no dirty line
of the data cache holds the bytes, and a later store of other bytes changes nothing about that; with Hit Invalidate at
the cached address between them no fetch has one. That exactly the taken jump completes the recipe, so that an exception
or ERET does not, is the model's choice (log 29). -/
def Obligations.SyncEmptiesTheWriteBuffer : Prop :=
  ∀ (s : State) (stype : BitVec 5),
    (∃ t, exec (.sync stype) s = .next t ∧ t.wbuf = [] ∧ (∀ lane, readByte t.mem lane = seenByte s lane)
      ∧ (∀ lane, seenByte t lane = seenByte s lane) ∧ (∀ r, gprRead t r = gprRead s r) ∧ MovesOn s t
      ∧ t = { s with mem := t.mem, wbuf := t.wbuf, codeStores := t.codeStores, pc := t.pc, delay := t.delay })
    ∧ (s.canonical = true → ∀ (base rt : RegNum) (offset : BitVec 16) (pa : PAddr) (cca : BitVec 3),
      let va := gprRead s base + offset.signExtend 64
      (∀ old : HalfWord, dataBigEndian s = s.latches.bigEndian → Uncached s va 4 .store pa → Holds s pa 4 (old.setWidth 64) →
        ∃ t, exec (.sw base rt offset) s = .next t
          ∧ ∀ cached, ∃ rest, storedWords t pa cached = (gprRead s rt).extractLsb' 0 32 :: old :: rest)
      ∧ (heldDirty s (fetchLane s pa / 32) = false →
        ∃ t, exec (.sync stype) s = .next t
          ∧ storedWords (noteJump t) pa false = []
          ∧ (∀ pa' key n, busAddress s key + n ≤ fetchLane s pa ∨ fetchLane s pa + 4 ≤ busAddress s key →
              storedWords (noteStore (noteJump t) pa' key n) pa false = [])
          ∧ (cp0Usable s = true → s.cp0.errCtl.wst = false → translate s va .load = .ok pa cca →
              (cca = 0 ∨ cca = 1 ∨ cca = 3) →
              ∃ u, exec (.cache base 16 offset) t = .next u ∧ ∀ cached, storedWords (noteJump u) pa cached = [])))

/-- SYSCALL and BREAK always trap; the conditional traps exactly when their condition holds. SYSCALL raises Sys (ExcCode
8) and BREAK raises Bp (9), in every state and with every code field. The twelve conditional traps compare whole 64-bit
registers, or a register with the immediate sign-extended to 64 bits, signed or unsigned; where the condition holds they
raise Tr (13), where it does not they do nothing but move the pc on. An exception saves the restart address, sets EXL,
goes to the general vector and changes nothing else. The words with opcode 0 and functions 0x0C, 0x0D, 0x30 to 0x34 and
0x36, and with opcode 1 and rt field 8 to 12 and 14, decode to these instructions. -/
def Obligations.TrapsSystemCallsAndBreaks : Prop :=
  ∀ (s : State) (rs rt : RegNum) (code : BitVec 10) (code' : BitVec 20) (imm : BitVec 16),
    let a := gprRead s rs
    let b := gprRead s rt
    let c : Word := imm.signExtend 64
    let traps (cond : Prop) (o : Out) : Prop := (cond → Raises s o 13) ∧ (¬ cond → DoesNothing s o)
    Raises s (exec (.syscall code') s) 8 ∧ Raises s (exec (.breakpoint code') s) 9
    ∧ traps (b.toInt ≤ a.toInt) (exec (.tge rs rt code) s)
    ∧ traps (b.toNat ≤ a.toNat) (exec (.tgeu rs rt code) s)
    ∧ traps (a.toInt < b.toInt) (exec (.tlt rs rt code) s)
    ∧ traps (a.toNat < b.toNat) (exec (.tltu rs rt code) s)
    ∧ traps (a = b) (exec (.teq rs rt code) s)
    ∧ traps (a ≠ b) (exec (.tne rs rt code) s)
    ∧ traps (c.toInt ≤ a.toInt) (exec (.tgei rs imm) s)
    ∧ traps (c.toNat ≤ a.toNat) (exec (.tgeiu rs imm) s)
    ∧ traps (a.toInt < c.toInt) (exec (.tlti rs imm) s)
    ∧ traps (a.toNat < c.toNat) (exec (.tltiu rs imm) s)
    ∧ traps (a = c) (exec (.teqi rs imm) s)
    ∧ traps (a ≠ c) (exec (.tnei rs imm) s)
    ∧ decode (0#6 ++ code' ++ 0x0C#6) = .ok (.syscall code')
    ∧ decode (0#6 ++ code' ++ 0x0D#6) = .ok (.breakpoint code')
    ∧ decode (0#6 ++ rs ++ rt ++ code ++ 0x30#6) = .ok (.tge rs rt code)
    ∧ decode (0#6 ++ rs ++ rt ++ code ++ 0x31#6) = .ok (.tgeu rs rt code)
    ∧ decode (0#6 ++ rs ++ rt ++ code ++ 0x32#6) = .ok (.tlt rs rt code)
    ∧ decode (0#6 ++ rs ++ rt ++ code ++ 0x33#6) = .ok (.tltu rs rt code)
    ∧ decode (0#6 ++ rs ++ rt ++ code ++ 0x34#6) = .ok (.teq rs rt code)
    ∧ decode (0#6 ++ rs ++ rt ++ code ++ 0x36#6) = .ok (.tne rs rt code)
    ∧ decode (1#6 ++ rs ++ 8#5 ++ imm) = .ok (.tgei rs imm)
    ∧ decode (1#6 ++ rs ++ 9#5 ++ imm) = .ok (.tgeiu rs imm)
    ∧ decode (1#6 ++ rs ++ 10#5 ++ imm) = .ok (.tlti rs imm)
    ∧ decode (1#6 ++ rs ++ 11#5 ++ imm) = .ok (.tltiu rs imm)
    ∧ decode (1#6 ++ rs ++ 12#5 ++ imm) = .ok (.teqi rs imm)
    ∧ decode (1#6 ++ rs ++ 14#5 ++ imm) = .ok (.tnei rs imm)

/-- MFC0 and DMFC0 read every CP0 register with each field at its place. Where coprocessor 0 is usable MFC0 puts the low
32 bits of the named register, sign-extended, into rt: the lists give each register by its fields, Status and Cause
field by field with their other bits 0, constants, and 0 for TagHi and for every number and select the chip does not
have. Every MFC0 but of Debug, DEPC and DESAVE completes so. DMFC0 with Exec64() true completes with all 64 bits of a
64-bit register (EntryLo0, EntryLo1, Context, BadVAddr, EntryHi, EPC, XContext, DataLo, ErrorEPC) in rt, 0 for a
register the chip does not have, and of a 32-bit register the low word with any upper word. Nothing else changes but the
pc. The fields of Status, Config0 and ErrCtl whose places are parameters stand at the default places here (log 8). -/
def Obligations.MoveFromCp0ReadsEveryRegister : Prop :=
  ∀ (s : State) (rt rd : RegNum) (sel : BitVec 3), cp0Usable s = true →
    let c := s.cp0
    let reads (d : RegNum) (x : BitVec 3) (v : BitVec 32) : Prop := WritesGpr s (exec (.mfc0 rt d x) s) rt (v.signExtend 64)
    let readsAt (d : RegNum) (x : BitVec 3) (v : Word) : Prop :=
      reads d x (v.extractLsb' 0 32) ∧ (exec64 s = true → WritesGpr s (exec (.dmfc0 rt d x) s) rt v)
    let reads64 (d : RegNum) (v : Word) : Prop := readsAt d 0 v
    let absent : Prop := sel = 0 ∧ rd ∈ [(7 : RegNum), 17, 18, 19, 21, 22, 27]
      ∨ sel ≠ 0 ∧ (rd, sel) ∉ [((16 : RegNum), (1 : BitVec 3)), (25, 1), (25, 2), (25, 3), (28, 1), (29, 1)]
    let entry (e : EntryLo) : Word := (0 : BitVec 34) ++ e.pfn ++ e.c ++ BitVec.ofBool e.d ++ BitVec.ofBool e.v ++ BitVec.ofBool e.g
    let perf (m : BitVec 1) (p : PerfCtl) : BitVec 32 := m ++ (0 : BitVec 22) ++ p.event ++ BitVec.ofBool p.ie ++ BitVec.ofBool p.u
      ++ BitVec.ofBool p.s ++ BitVec.ofBool p.k ++ BitVec.ofBool p.exl
    (cp0Name rd sel ≠ .ejtag →
      ∃ v, reads rd sel v ∧ (exec64 s = true → WritesLowWord s (exec (.dmfc0 rt rd sel) s) rt v))
    ∧ reads 0 0 (BitVec.ofBool c.index.p ++ (0 : BitVec 25) ++ c.index.index) ∧ reads 1 0 ((0 : BitVec 26) ++ c.random)
    ∧ reads64 2 (entry c.entryLo0) ∧ reads64 3 (entry c.entryLo1)
    ∧ reads64 4 (c.context.pteBase ++ c.context.badVpn2 ++ (0 : BitVec 4))
      ∧ reads 5 0 ((0 : BitVec 7) ++ c.pageMask ++ (0 : BitVec 13))
    ∧ reads 6 0 ((0 : BitVec 26) ++ c.wired) ∧ reads64 8 c.badVAddr ∧ reads 9 0 c.count
    ∧ reads64 10 (c.entryHi.r ++ (0 : BitVec 22) ++ c.entryHi.vpn2 ++ (0 : BitVec 5) ++ c.entryHi.asid)
      ∧ reads 11 0 c.compare
    ∧ (s.conf.statusTipBit = 16 → reads 12 0 ((0 : BitVec 2) ++ BitVec.ofBool c.status.cu1 ++ BitVec.ofBool c.status.cu0
        ++ BitVec.ofBool c.status.rp ++ BitVec.ofBool c.status.fr ++ BitVec.ofBool c.status.re ++ (0 : BitVec 1)
        ++ BitVec.ofBool c.status.px ++ BitVec.ofBool c.status.bev ++ BitVec.ofBool c.status.ts ++ BitVec.ofBool c.status.sr
        ++ BitVec.ofBool c.status.nmi ++ (0 : BitVec 2) ++ BitVec.ofBool s.timerRequest ++ c.status.im ++ BitVec.ofBool c.status.kx
        ++ BitVec.ofBool c.status.sx ++ BitVec.ofBool c.status.ux ++ c.status.ksu ++ BitVec.ofBool c.status.erl
        ++ BitVec.ofBool c.status.exl ++ BitVec.ofBool c.status.ie))
    ∧ reads 13 0 (BitVec.ofBool c.cause.bd ++ (0 : BitVec 1) ++ c.cause.ce ++ (0 : BitVec 4) ++ BitVec.ofBool c.cause.iv
        ++ (0 : BitVec 7) ++ causeIp s ++ (0 : BitVec 1) ++ c.cause.excCode ++ (0 : BitVec 2))
    ∧ reads64 14 c.epc ∧ reads 15 0 0x12348101 ∧ reads 16 1 0x5E633193
    ∧ reads64 20 (c.xcontext.pteBase ++ c.xcontext.r ++ c.xcontext.badVpn2 ++ (0 : BitVec 4))
    ∧ reads 25 0 (perf 1 c.perfCtl0) ∧ reads 25 1 c.perfCnt0 ∧ reads 25 2 (perf 0 c.perfCtl1) ∧ reads 25 3 c.perfCnt1
    ∧ reads 28 0 ((0 : BitVec 6) ++ c.tagLo) ∧ readsAt 28 1 c.dataLo ∧ reads 29 0 0
    ∧ reads 29 1 (c.dataLo.extractLsb' 32 32) ∧ reads64 30 c.errorEpc ∧ (absent → readsAt rd sel 0)
    ∧ (s.conf.config0 = Params.reset.config0 → reads 16 0 ((1 : BitVec 1) ++ BitVec.ofBool c.config0.te ++ c.config0.wp
        ++ BitVec.ofBool s.latches.bus32 ++ c.config0.adp ++ BitVec.ofBool c.config0.isd ++ BitVec.ofBool c.config0.bbl
        ++ BitVec.ofBool c.config0.tr ++ BitVec.ofBool c.config0.did ++ (0 : BitVec 4) ++ (1 : BitVec 1)
        ++ BitVec.ofBool s.latches.bigEndian ++ (2 : BitVec 2) ++ (0 : BitVec 3) ++ (1 : BitVec 3) ++ (0 : BitVec 4) ++ c.config0.k0))
    ∧ (s.conf.errCtlVg = 4 → s.conf.errCtlWse = 3 → reads 26 0 ((0 : BitVec 27) ++ BitVec.ofBool c.errCtl.vg
        ++ BitVec.ofBool c.errCtl.wse ++ BitVec.ofBool c.errCtl.dmh ++ BitVec.ofBool c.errCtl.imh ++ BitVec.ofBool c.errCtl.wst))

/-- MTC0 and DMTC0 write the writable fields of the register and its side effects. Where coprocessor 0 is usable MTC0,
and DMTC0 with Exec64() true, complete and write exactly the fields the spec names (64-bit registers whole, others from
the low word): Wired also sets Random to 47; Index.P, BadVPN2 and the other read-only fields stay; Random, BadVAddr,
PrID, Config1, TagHi and every register the chip does not have ignore the write; Compare also removes the timer request
and Count keeps it, unless the write makes Count and Compare equal (then the request is open). Status with RP = 0 and FR
as it was is written field by field, SR staying; where it changes FR the FPU registers are open afterwards (R48, log
22); with RP = 1 it sleeps (O45). A write of Config0 from kseg0 that changes K0 stops (U9); one that keeps K0, or from
elsewhere, completes. Config0 with TR = 1 clears every hidden valid bit of the TLB. ErrCtl and Config0 are written at
the default places of their fields (log 8). Nothing else changes but the pc. -/
def Obligations.MoveToCp0WritesItsFields : Prop :=
  ∀ (s : State) (rt rd : RegNum) (sel : BitVec 3), cp0Usable s = true →
    let c := s.cp0
    let v := gprRead s rt
    let w := v.extractLsb' 0 32
    let entry : EntryLo := { pfn := v.extractLsb' 6 24, c := v.extractLsb' 3 3, d := v.getLsbD 2, v := v.getLsbD 1, g := v.getLsbD 0 }
    let perf : PerfCtl := { event := v.extractLsb' 5 4, ie := v.getLsbD 4, u := v.getLsbD 3, s := v.getLsbD 2, k := v.getLsbD 1, exl := v.getLsbD 0 }
    let both (rd : RegNum) (sel : BitVec 3) (p : Out → Prop) : Prop :=
      p (exec (.mtc0 rt rd sel) s) ∧ (exec64 s = true → p (exec (.dmtc0 rt rd sel) s))
    let writes (rd : RegNum) (sel : BitVec 3) (d : Cp0) : Prop := both rd sel fun o =>
      ∃ t, o = .next t ∧ MovesOn s t ∧ t = { s with cp0 := d, pc := t.pc, delay := t.delay }
    let timer (rd : RegNum) (d : Cp0) (request : Bool) : Prop := both rd 0 fun o =>
      ∃ t, o = .next t ∧ MovesOn s t ∧ (d.count ≠ d.compare → t.timerRequest = request)
        ∧ t = { s with cp0 := d, timerRequest := t.timerRequest, draws := t.draws, pc := t.pc, delay := t.delay }
    let absent : Prop := sel = 0 ∧ rd ∈ [(7 : RegNum), 17, 18, 19, 21, 22, 27]
      ∨ sel ≠ 0 ∧ (rd, sel) ∉ [((16 : RegNum), (1 : BitVec 3)), (25, 1), (25, 2), (25, 3), (28, 1), (29, 1)]
    writes 0 0 { c with index := { p := c.index.p, index := v.extractLsb' 0 6 } }
    ∧ writes 2 0 { c with entryLo0 := entry }
    ∧ writes 3 0 { c with entryLo1 := entry }
    ∧ writes 4 0 { c with context := { pteBase := v.extractLsb' 23 41, badVpn2 := c.context.badVpn2 } }
    ∧ writes 5 0 { c with pageMask := v.extractLsb' 13 12 }
    ∧ writes 6 0 { c with wired := v.extractLsb' 0 6, random := 47 }
    ∧ writes 10 0 { c with entryHi := { r := v.extractLsb' 62 2, vpn2 := v.extractLsb' 13 27, asid := v.extractLsb' 0 8 } }
    ∧ writes 13 0 { c with cause := { c.cause with iv := v.getLsbD 23, ip := v.extractLsb' 8 2 } }
    ∧ writes 14 0 { c with epc := v }
    ∧ writes 20 0 { c with xcontext := { c.xcontext with pteBase := v.extractLsb' 33 31 } }
    ∧ writes 25 0 { c with perfCtl0 := perf }
    ∧ writes 25 1 { c with perfCnt0 := w }
    ∧ writes 25 2 { c with perfCtl1 := perf }
    ∧ writes 25 3 { c with perfCnt1 := w }
    ∧ writes 28 0 { c with tagLo := v.extractLsb' 0 26 }
    ∧ writes 28 1 { c with dataLo := v }
    ∧ writes 29 1 { c with dataLo := w ++ c.dataLo.extractLsb' 0 32 }
    ∧ writes 30 0 { c with errorEpc := v }
    ∧ (s.conf.errCtlVg = 4 → s.conf.errCtlWse = 3 → writes 26 0 { c with errCtl :=
        { vg := v.getLsbD 4, wse := v.getLsbD 3, dmh := v.getLsbD 2, imh := v.getLsbD 1, wst := v.getLsbD 0 } })
    ∧ writes 1 0 c ∧ writes 8 0 c ∧ writes 15 0 c ∧ writes 16 1 c ∧ writes 29 0 c ∧ (absent → writes rd sel c)
    ∧ timer 9 { c with count := w } s.timerRequest ∧ timer 11 { c with compare := w } false
    ∧ (v.getLsbD 27 = false → v.getLsbD 26 = s.cp0.status.fr → writes 12 0 (statusWritten c v false))
    ∧ (v.getLsbD 27 = false → v.getLsbD 26 ≠ s.cp0.status.fr → both 12 0 fun o => ∃ t, o = .next t ∧ MovesOn s t
        ∧ t = { s with cp0 := statusWritten c v false, fpr := t.fpr, fprFormat := t.fprFormat, draws := t.draws, pc := t.pc, delay := t.delay })
    ∧ (segmentOf s.pc = .ckseg0 → v.extractLsb' 0 3 ≠ c.config0.k0 → both 16 0 fun o => o = .fault .k0ChangedInKseg0)
    ∧ ((segmentOf s.pc ≠ .ckseg0 ∨ v.extractLsb' 0 3 = c.config0.k0) → both 16 0 fun o => ∃ t, o = .next t ∧ MovesOn s t
      ∧ t.cp0.config0.k0 = v.extractLsb' 0 3
        ∧ (s.conf.config0 = Params.reset.config0 → t.cp0.config0 =
            { te := v.getLsbD 30, wp := v.extractLsb' 28 2, adp := v.extractLsb' 25 2, isd := v.getLsbD 24
              bbl := v.getLsbD 23, tr := v.getLsbD 22, did := v.getLsbD 21, k0 := v.extractLsb' 0 3 })
        ∧ (t.cp0.config0.tr = true → ∀ i : Fin 48, t.tlb[i].valid = false)
        ∧ (t.cp0.config0.tr = false → t.tlb = s.tlb)
        ∧ t = { s with cp0 := { c with config0 := t.cp0.config0 }, tlb := t.tlb, pc := t.pc, delay := t.delay })

/-- Outside Kernel mode every CP0 instruction raises CpU unless CU0 is set. In User or Supervisor mode with Status.CU0 =
0 each of MFC0, MTC0, DMFC0, DMTC0, TLBR, TLBWI, TLBWR, TLBP, ERET, DERET, WAIT and CACHE raises CpU with Cause.CE = 0
and does nothing else, before any other check. -/
def Obligations.Cp0InstructionsArePrivileged : Prop :=
  ∀ (s : State) (rt rd base : RegNum) (sel : BitVec 3) (code : BitVec 19) (op : BitVec 5) (offset : BitVec 16),
    currentMode s ≠ .kernel → s.cp0.status.cu0 = false →
    ∀ i ∈ [Instr.mfc0 rt rd sel, Instr.mtc0 rt rd sel, Instr.dmfc0 rt rd sel, Instr.dmtc0 rt rd sel, Instr.tlbr,
      Instr.tlbwi, Instr.tlbwr, Instr.tlbp, Instr.eret, Instr.deret, Instr.wait code, Instr.cache base op offset],
      RaisesCpu s (exec i s) 0

/-- TLBWI and TLBWR write one entry, TLBR reads one back, TLBP finds the one that matches. Where coprocessor 0 is usable
and Config0.TR = 0: TLBWI with Index at most 47 and no overlap with another valid entry makes the entry what EntryHi,
EntryLo0, EntryLo1 and PageMask say (G the AND of both, valid) and leaves the others; an overlap raises MCheck with
Status.TS set, the entry itself open (D49). TLBWR with Wired at most 47 does the same with some entry from Wired to 47
and, if it writes it, steps Random (47 after Wired). TLBR with Index at most 47 loads the registers from the entry,
above 47 (D32) they are open and it completes. TLBP (legal masks) gives P = 1 if no entry matches, P = 0 and the number
of the one that does, and raises MCheck if several do (D44). Nothing else changes but the pc. TLBWI with Index above 47
(D32), TLBWR with Wired above 47 (U7) and TLBP over an illegal mask (U6, log 30) stop. -/
def Obligations.TlbInstructions : Prop :=
  ∀ s : State, cp0Usable s = true → s.cp0.config0.tr = false →
    let c := s.cp0
    let fresh : TlbEntry := { mask := c.pageMask, r := c.entryHi.r, vpn2 := c.entryHi.vpn2, g := c.entryLo0.g && c.entryLo1.g,
                              asid := c.entryHi.asid, even := { pfn := c.entryLo0.pfn, c := c.entryLo0.c, d := c.entryLo0.d, v := c.entryLo0.v },
                              odd := { pfn := c.entryLo1.pfn, c := c.entryLo1.c, d := c.entryLo1.d, v := c.entryLo1.v }, valid := true }
    let overlap (e : TlbEntry) : Prop := e.valid = true ∧ e.r = fresh.r
      ∧ (∀ k, k < 27 → ((fresh.mask ||| e.mask).setWidth 27).getLsbD k = false → e.vpn2.getLsbD k = fresh.vpn2.getLsbD k)
      ∧ (fresh.g = true ∨ e.g = true ∨ e.asid = fresh.asid)
    let clash (i : Fin 48) : Prop := ∃ j : Fin 48, j ≠ i ∧ overlap s.tlb[j]
    let hit (e : TlbEntry) : Prop := EntryHits e c.entryHi.r c.entryHi.vpn2 c.entryHi.asid
    let keeps (t : State) : Prop := MovesOn s t ∧ SameMemory s t ∧ ∀ r, gprRead t r = gprRead s r
    let checks (o : Out) (i : Fin 48) : Prop := ∃ t, o = .next t ∧ McheckEntered s t ∧ ∀ j : Fin 48, j ≠ i → t.tlb[j] = s.tlb[j]
    let loaded (e : TlbEntry) : Cp0 := { c with
      pageMask := e.mask
      entryHi := { r := e.r, vpn2 := e.vpn2, asid := e.asid }
      entryLo0 := { pfn := e.even.pfn, c := e.even.c, d := e.even.d, v := e.even.v, g := e.g }
      entryLo1 := { pfn := e.odd.pfn, c := e.odd.c, d := e.odd.d, v := e.odd.v, g := e.g }
      errCtl := { c.errCtl with vg := e.valid } }
    (∀ i : Fin 48, c.index.index.toNat = i.val →
      (¬ clash i → ∃ t, exec .tlbwi s = .next t ∧ t.tlb[i] = fresh ∧ (∀ j : Fin 48, j ≠ i → t.tlb[j] = s.tlb[j]) ∧ keeps t
          ∧ t = { s with tlb := t.tlb, pc := t.pc, delay := t.delay })
      ∧ (clash i → checks (exec .tlbwi s) i)
      ∧ (∃ t, exec .tlbr s = .next t ∧ keeps t ∧ t = { s with cp0 := loaded s.tlb[i], pc := t.pc, delay := t.delay }))
    ∧ (47 < c.index.index → exec .tlbwi s = .fault .indexAbove47
      ∧ ∃ t e, exec .tlbr s = .next t ∧ keeps t ∧ t = { s with cp0 := loaded e, draws := t.draws, pc := t.pc, delay := t.delay })
    ∧ (c.wired ≤ 47 → ∃ i : Fin 48, c.wired.toNat ≤ i.val ∧ (clash i → checks (exec .tlbwr s) i)
      ∧ (¬ clash i → ∃ t, exec .tlbwr s = .next t ∧ t.tlb[i] = fresh ∧ (∀ j : Fin 48, j ≠ i → t.tlb[j] = s.tlb[j])
        ∧ t.cp0.random = (if c.random = c.wired then 47 else c.random - 1) ∧ keeps t
        ∧ t = { s with tlb := t.tlb, cp0 := { c with random := t.cp0.random }, pc := t.pc, delay := t.delay }))
    ∧ (47 < c.wired → exec .tlbwr s = .fault .wiredAbove47)
    ∧ (illegalMaskPresent s = true → exec .tlbp s = .fault .illegalPageMask)
    ∧ (illegalMaskPresent s = false →
      ((∀ j : Fin 48, ¬ hit s.tlb[j]) → ∃ t, exec .tlbp s = .next t ∧ t.cp0.index.p = true ∧ keeps t
        ∧ t = { s with cp0 := { c with index := t.cp0.index }, draws := t.draws, pc := t.pc, delay := t.delay })
      ∧ (∀ i : Fin 48, hit s.tlb[i] → (∀ j : Fin 48, j ≠ i → ¬ hit s.tlb[j]) → ∃ t, exec .tlbp s = .next t
        ∧ t.cp0.index.p = false ∧ t.cp0.index.index.toNat = i.val ∧ keeps t
        ∧ t = { s with cp0 := { c with index := t.cp0.index }, pc := t.pc, delay := t.delay })
      ∧ ((∃ i j : Fin 48, i ≠ j ∧ hit s.tlb[i] ∧ hit s.tlb[j]) →
        ∃ t, exec .tlbp s = .next t ∧ McheckEntered s t ∧ t.tlb = s.tlb))

/-- ERET goes to ErrorEPC and clears ERL, or to EPC and clears EXL, and clears LLbit. Outside a delay slot and where
coprocessor 0 is usable: with ERL = 1 the pc becomes ErrorEPC and ERL 0; with ERL = 0 the pc becomes EPC and EXL 0.
LLbit is 0, no delay slot follows, and nothing else changes: no register, no byte of memory, no other field of Status.
-/
def Obligations.EretReturns : Prop :=
  ∀ s : State, cp0Usable s = true → s.delay = none →
    ∃ t, exec .eret s = .next t ∧ t.llbit = false ∧ t.delay = none ∧ SameMemory s t ∧ (∀ r, gprRead t r = gprRead s r)
      ∧ (if s.cp0.status.erl then t.pc = s.cp0.errorEpc
        ∧ t.cp0 = { s.cp0 with status := { s.cp0.status with erl := false } }
         else t.pc = s.cp0.epc ∧ t.cp0 = { s.cp0 with status := { s.cp0.status with exl := false } })
      ∧ t = { s with cp0 := t.cp0, pc := t.pc, llbit := t.llbit }

/-- WAIT, or Status.RP written 1, empties the write buffer and sleeps until a pin, an NMI or a reset. Where coprocessor
0 is usable and no interrupt pin is active, WAIT with any code puts the processor to sleep with an empty write buffer,
memory holding what its loads saw, behind the WAIT; in a delay slot it stays at the WAIT, which is the model's choice
(log 15: the spec says only what an interrupt there saves). With a pin active it clears RP and goes on. MTC0, and DMTC0
with Exec64() true, of a Status with RP = 1 do likewise, with every writable field of Status from the source (RP back to
0 with a pin active) and, where FR changes, the FPU registers open (R48, log 22); nothing else changes. While asleep
with no active pin, no pending NMI, reset or late bus error, a step is only the instruction boundary. With a pin active
it ends the sleep: it is the step of a state that is not asleep, with RP = 0. If it slept in a delay slot, that step
takes the interrupt there if one is due, so that EPC is the branch; else it goes on at the pending target, which is the
model's choice (log 15). -/
def Obligations.SleepUntilAPinWakes : Prop :=
  ∀ (s : State) (code : BitVec 19) (rt : RegNum),
    let v := gprRead s rt
    let sleeps (o : Out) (after : State → State) : Prop :=
      ∃ t, o = .next t ∧ t.sleeping = true ∧ t.wbuf = [] ∧ (∀ lane, readByte t.mem lane = seenByte s lane)
        ∧ (if s.delay.isSome then t.pc = s.pc ∧ t.delay = s.delay else t.pc = s.pc + 4 ∧ t.delay = none)
        ∧ t = { after t with sleeping := true, wbuf := [], mem := t.mem, pc := t.pc, delay := t.delay }
    let goesOn (o : Out) (after : State → State) : Prop :=
      ∃ t, o = .next t ∧ t.cp0.status.rp = false ∧ t.wbuf = [] ∧ (∀ lane, readByte t.mem lane = seenByte s lane) ∧ MovesOn s t
        ∧ t = { after t with wbuf := [], mem := t.mem, pc := t.pc, delay := t.delay }
    let both (p : Out → Prop) : Prop := p (exec (.mtc0 rt 12 0) s) ∧ (exec64 s = true → p (exec (.dmtc0 rt 12 0) s))
    let written (rp : Bool) (t : State) : State :=
      if v.getLsbD 26 = s.cp0.status.fr then { s with cp0 := statusWritten s.cp0 v rp }
      else { s with cp0 := statusWritten s.cp0 v rp, fpr := t.fpr, fprFormat := t.fprFormat, draws := t.draws }
    (cp0Usable s = true → s.intPins = 0 → sleeps (exec (.wait code) s) fun _ => s)
    ∧ (cp0Usable s = true → s.intPins ≠ 0 → goesOn (exec (.wait code) s) fun _ =>
        { s with cp0 := { s.cp0 with status := { s.cp0.status with rp := false } } })
    ∧ (cp0Usable s = true → v.getLsbD 27 = true →
        (s.intPins = 0 → both fun o => sleeps o (written true)) ∧ (s.intPins ≠ 0 → both fun o => goesOn o (written false)))
    ∧ (s.sleeping = true → s.resetRequest = none → s.lateError = none → s.nmiPending = false →
        (s.intPins = 0 → step s = .next (boundary s))
        ∧ (s.intPins ≠ 0 →
          let awake : State := { s with sleeping := false, cp0 := { s.cp0 with status := { s.cp0.status with rp := false } } }
          (s.delay = none ∨ interruptDue s = true → step s = step awake)
          ∧ ∀ target, s.delay = some target → interruptDue s = false → step s = step { awake with pc := target, delay := none }))

/-- The CACHE operations on an indexed line and on the line of an address. Where coprocessor 0 is usable, with ea = base
+ offset naming way ea[13:12], line ea[11:5], doubleword ea[4:3]. WST = 0: Index Store Tag (8, 9) gives the line the
tag, V and L of TagLo; Index Load Tag (4, 5) loads TagLo and DataLo; Index Invalidate (0) clears V and L, Index
Write-Back Invalidate (1) too and sends a valid dirty line to memory. At a cached address: Hit Invalidate (16, 17)
clears V and L of a way that hits, Hit Write-Back Invalidate (21) sends the line to memory if dirty and clears them, Hit
Write-Back (25) sends it if dirty and clears Dirty; without a hit they do nothing. Fill (20) and Fetch And Lock (28,
29), in an initialised cache: on a hit nothing, or L = 1; if several ways hit one of them is taken (log 11) and IMH or
DMH is set; on a miss one unlocked way gets the line from memory (a dirty victim goes to memory first), L as the
operation says, Dirty = 0 in the data cache, and WSE is set if the Way Select word is illegal; with all four ways locked
they stop (U11), and so does each of these at an uncached address (D35). WST = 1: code 1 (4, 5) loads the Way Select
word, and the Dirty bits of the data cache, into TagLo; code 2 (8, 9) stores them, and the Branch Prediction RAM word,
whose format is the model's choice (log 19); code 3 (12, 13) is Index Store Tag with the doubleword of DataLo; the other
codes stop (D35). That a line sent to memory waits in the queue of the stores, and that the buffer is empty after a
dirty victim, is the model's choice (log 17). A selector 2 or 3 and the codes the table calls NOP do nothing. Every
other line, Way Select word, register and byte of memory stays (but for the model's own record, log 29). -/
def Obligations.CacheOperations : Prop :=
  ∀ (s : State) (base : RegNum) (offset : BitVec 16), cp0Usable s = true → s.canonical = true →
    let ea := gprRead s base + offset.signExtend 64
    let way := (ea.extractLsb' 12 2).toNat
    let line := (ea.extractLsb' 5 7).toNat
    let dw := (ea.extractLsb' 3 2).toNat
    let t := s.cp0.tagLo
    let k := s.conf.tagLoDirtyLsb
    let op (k : BitVec 5) : Out := exec (.cache base k offset) s
    let store (x : CacheLine) : CacheLine := { x with tag := t.extractLsb' 0 24, v := t.getLsbD 24, l := t.getLsbD 25 }
    let storeData (x : CacheLine) : CacheLine := { store x with data := Vector.ofFn fun i =>
      if 8 * dw ≤ i.val ∧ i.val < 8 * dw + 8 then s.cp0.dataLo.extractLsb' (8 * (7 - (i.val - 8 * dw))) 8 else x.data[i] }
    let clear (x : CacheLine) : CacheLine := { x with v := false, l := false }
    let lock (x : CacheLine) : CacheLine := { x with l := true }
    let out (x : CacheLine) (l : Nat) : List BusWrite := [{ key := lineKey s x.tag l, bytes := x.data.toList }]
    let inst (o : Out) (w l : Nat) (f : CacheLine → CacheLine) : Prop :=
      ∃ u, o = .next u ∧ MovesOn s u ∧ getLine u.icache w l = f (getLine s.icache w l) ∧ OtherLines s.icache u.icache w l
        ∧ u.icache.ws = s.icache.ws
        ∧ u = { s with icache := u.icache, codeStores := u.codeStores, pc := u.pc, delay := u.delay }
    let data (o : Out) (w l : Nat) (f : CacheLine → CacheLine) (written : List BusWrite) : Prop :=
      ∃ u, o = .next u ∧ MovesOn s u ∧ getLine u.dcache w l = f (getLine s.dcache w l) ∧ OtherLines s.dcache u.dcache w l
        ∧ u.dcache.ws = s.dcache.ws ∧ u.wbuf = s.wbuf ++ written
        ∧ u = { s with dcache := u.dcache, wbuf := u.wbuf, pc := u.pc, delay := u.delay }
    let instHit (o : Out) (ways : List Nat) (l : Nat) (f : CacheLine → CacheLine) : Prop :=
      ∃ u, ∃ w ∈ ways, o = .next u ∧ MovesOn s u ∧ getLine u.icache w l = f (getLine s.icache w l)
        ∧ OtherLines s.icache u.icache w l ∧ u.icache.ws = s.icache.ws
        ∧ u = { s with icache := u.icache, codeStores := u.codeStores, draws := if ways.length = 1 then s.draws else u.draws,
                       pc := u.pc, delay := u.delay, cp0 := { s.cp0 with errCtl := { s.cp0.errCtl with
                         imh := s.cp0.errCtl.imh || decide (1 < ways.length) } } }
    let dataHit (o : Out) (ways : List Nat) (l : Nat) (f : CacheLine → CacheLine) (written : CacheLine → List BusWrite) : Prop :=
      ∃ u, ∃ w ∈ ways, o = .next u ∧ MovesOn s u ∧ getLine u.dcache w l = f (getLine s.dcache w l)
        ∧ OtherLines s.dcache u.dcache w l ∧ u.dcache.ws = s.dcache.ws ∧ u.wbuf = s.wbuf ++ written (getLine s.dcache w l)
        ∧ u = { s with dcache := u.dcache, wbuf := u.wbuf, draws := if ways.length = 1 then s.draws else u.draws,
                       pc := u.pc, delay := u.delay, cp0 := { s.cp0 with errCtl := { s.cp0.errCtl with
                         dmh := s.cp0.errCtl.dmh || decide (1 < ways.length) } } }
    let loads (o : Out) (c : Cache) : Prop :=
      ∃ u, o = .next u ∧ MovesOn s u
        ∧ u.cp0.tagLo = BitVec.ofBool (getLine c way line).l ++ BitVec.ofBool (getLine c way line).v ++ (getLine c way line).tag
        ∧ (∀ k : Fin 8, ∀ i : Fin 32, i.val = 8 * dw + k.val → u.cp0.dataLo.extractLsb' (8 * (7 - k.val)) 8 = (getLine c way line).data[i])
        ∧ u = { s with cp0 := { s.cp0 with tagLo := u.cp0.tagLo, dataLo := u.cp0.dataLo }, pc := u.pc, delay := u.delay }
    let keepsRest (u : State) : Prop := MovesOn s u ∧ (∀ r, gprRead u r = gprRead s r) ∧ u = { s with
      icache := u.icache, dcache := u.dcache, mem := u.mem, wbuf := u.wbuf, draws := u.draws, pc := u.pc, delay := u.delay,
      cp0 := { s.cp0 with errCtl := { s.cp0.errCtl with wse := u.cp0.errCtl.wse } } }
    let fresh (x : CacheLine) (pa : PAddr) (l : Bool) : Prop := x.v = true ∧ x.tag = tagOf pa ∧ x.l = l
    let fillsInst (o : Out) (pa : PAddr) (l : Bool) : Prop := ∃ u w, o = .next u ∧ keepsRest u ∧ w ∈ unlockedWays s.icache pa
      ∧ u.dcache = s.dcache ∧ u.mem = (waited s).mem ∧ u.wbuf = (waited s).wbuf
      ∧ fresh (getLine u.icache w (lineOf pa)) pa l ∧ OtherLines s.icache u.icache w (lineOf pa)
      ∧ WaySelectUsed s u s.icache u.icache (lineOf pa)
      ∧ ∀ i : Fin 32, (getLine u.icache w (lineOf pa)).data[i]
          = readByte u.mem (lineKey s (tagOf pa) (lineOf pa) + (if s.latches.bigEndian then i.val else i.val ^^^ 4))
    let fillsData (o : Out) (pa : PAddr) : Prop := ∃ u w, o = .next u ∧ keepsRest u ∧ w ∈ unlockedWays s.dcache pa
      ∧ u.icache = s.icache ∧ VictimWritten s u pa w (seenByte s)
      ∧ fresh (getLine u.dcache w (lineOf pa)) pa true ∧ (getLine u.dcache w (lineOf pa)).dirty = false ∧ OtherLines s.dcache u.dcache w (lineOf pa)
      ∧ WaySelectUsed s u s.dcache u.dcache (lineOf pa)
      ∧ ∀ i : Fin 32, (getLine u.dcache w (lineOf pa)).data[i] = seenByte u (lineKey s (tagOf pa) (lineOf pa) + i.val)
    let old := getLine s.dcache way line
    (s.cp0.errCtl.wst = false →
      inst (op 8) way line store ∧ data (op 9) way line store [] ∧ loads (op 4) s.icache ∧ loads (op 5) s.dcache
      ∧ inst (op 0) way line clear ∧ data (op 1) way line clear (if old.v && old.dirty then out old line else [])
      ∧ DoesNothing s (op 12) ∧ DoesNothing s (op 13) ∧ DoesNothing s (op 24)
      ∧ (∀ pa : PAddr, translate s ea .load = .ok pa 2 →
          ∀ k ∈ [(16 : BitVec 5), 17, 20, 21, 25, 28, 29], op k = .fault .cacheOpUncached)
      ∧ ∀ (pa : PAddr) (cca : BitVec 3), translate s ea .load = .ok pa cca → (cca = 0 ∨ cca = 1 ∨ cca = 3) →
        (hitWays s.icache pa = [] → ∃ u, op 16 = .next u ∧ MovesOn s u ∧ SameMemory s u
          ∧ u = { s with codeStores := u.codeStores, pc := u.pc, delay := u.delay })
        ∧ (hitWays s.dcache pa = [] → DoesNothing s (op 17) ∧ DoesNothing s (op 21) ∧ DoesNothing s (op 25))
        ∧ (hitWays s.icache pa ≠ [] → instHit (op 16) (hitWays s.icache pa) (lineOf pa) clear
          ∧ (cacheReady s.icache = true → instHit (op 20) (hitWays s.icache pa) (lineOf pa) id
            ∧ instHit (op 28) (hitWays s.icache pa) (lineOf pa) lock))
        ∧ (hitWays s.dcache pa ≠ [] →
          let written (x : CacheLine) : List BusWrite := if x.dirty then out x (lineOf pa) else []
          dataHit (op 17) (hitWays s.dcache pa) (lineOf pa) clear (fun _ => [])
          ∧ dataHit (op 21) (hitWays s.dcache pa) (lineOf pa) clear written
          ∧ dataHit (op 25) (hitWays s.dcache pa) (lineOf pa) (fun x => { x with dirty := false }) written
          ∧ (cacheReady s.dcache = true → dataHit (op 29) (hitWays s.dcache pa) (lineOf pa) lock (fun _ => [])))
        ∧ (s.lateError = none → readFails s (lineKey s (tagOf pa) (lineOf pa)) 32 = false →
          (cacheReady s.icache = true → hitWays s.icache pa = [] → if unlockedWays s.icache pa = []
            then op 20 = .fault .allWaysLocked ∧ op 28 = .fault .allWaysLocked
            else fillsInst (op 20) pa false ∧ fillsInst (op 28) pa true)
          ∧ (cacheReady s.dcache = true → hitWays s.dcache pa = [] → if unlockedWays s.dcache pa = []
            then op 29 = .fault .allWaysLocked else fillsData (op 29) pa)))
    ∧ (s.cp0.errCtl.wst = true →
      (∃ u, op 4 = .next u ∧ MovesOn s u ∧ u.cp0.tagLo.extractLsb' 0 6 = storeGet 0 s.icache.ws line
        ∧ u = { s with cp0 := { s.cp0 with tagLo := u.cp0.tagLo }, draws := u.draws, pc := u.pc, delay := u.delay })
      ∧ (6 ≤ k → k ≤ 22 → ∃ u, op 5 = .next u ∧ MovesOn s u ∧ u.cp0.tagLo.extractLsb' 0 6 = storeGet 0 s.dcache.ws line
        ∧ (∀ w, w < 4 → u.cp0.tagLo.getLsbD (k + w) = (getLine s.dcache w line).dirty)
        ∧ u = { s with cp0 := { s.cp0 with tagLo := u.cp0.tagLo }, draws := u.draws, pc := u.pc, delay := u.delay })
      ∧ (∃ u, op 8 = .next u ∧ MovesOn s u ∧ u.icache.lines = s.icache.lines
        ∧ (∀ l, storeGet 0 u.icache.ws l = if l = line then t.extractLsb' 0 6 else storeGet 0 s.icache.ws l)
        ∧ (∀ a, storeGet 0 u.brRam a = if a = (ea.extractLsb' 3 10).toNat then t.extractLsb' 6 20 else storeGet 0 s.brRam a)
        ∧ u = { s with icache := u.icache, brRam := u.brRam, pc := u.pc, delay := u.delay })
      ∧ (∃ u, op 9 = .next u ∧ MovesOn s u
        ∧ (∀ l, storeGet 0 u.dcache.ws l = if l = line then t.extractLsb' 0 6 else storeGet 0 s.dcache.ws l)
        ∧ (∀ w l, w < 4 → l < 128 → getLine u.dcache w l =
            if l = line then { getLine s.dcache w l with dirty := t.getLsbD (k + w) } else getLine s.dcache w l)
        ∧ u = { s with dcache := u.dcache, pc := u.pc, delay := u.delay })
      ∧ inst (op 12) way line storeData ∧ data (op 13) way line storeData []
      ∧ ∀ k ∈ [(0 : BitVec 5), 1, 16, 17, 20, 21, 24, 25, 28, 29], op k = .fault .cacheOpUndefined)
    ∧ (∀ k : BitVec 5, k.getLsbD 1 = true → DoesNothing s (op k))

/-- SDBBP, DERET and the EJTAG registers are refused: the spec does not describe the unit. SDBBP with any code is
refused in every state; DERET is refused outside a delay slot where coprocessor 0 is usable; there a read or write of
Debug, DEPC or DESAVE (registers 23, 24 and 31, select 0) is refused too. -/
def Obligations.EjtagInstructionsAreRefused : Prop :=
  ∀ (s : State) (code : BitVec 20) (rt : RegNum),
    exec (.sdbbp code) s = .refused .ejtag
    ∧ (cp0Usable s = true → s.delay = none → exec .deret s = .refused .ejtag)
    ∧ (cp0Usable s = true → ∀ d ∈ [(23 : RegNum), 24, 31],
        exec (.mfc0 rt d 0) s = .refused .ejtag ∧ exec (.mtc0 rt d 0) s = .refused .ejtag
        ∧ (exec64 s = true → exec (.dmfc0 rt d 0) s = .refused .ejtag ∧ exec (.dmtc0 rt d 0) s = .refused .ejtag))

/-- FPU arithmetic delivers the rounded result, or traps, by the operands, FCSR.RM and the enables. With CU1 = 1,
operands in registers that fit the format, even numbers or FR = 1, for formats S and D: ADD, SUB, MUL, DIV, ABS, NEG,
SQRT end with the result of the exact operation, rounded once, written to fd with FCSR.Cause replaced and Flags
accumulated, or with FPE and only Cause written; RECIP (1 / fs) and the MADD family (product rounded, then sum or
difference rounded, then for NMADD and NMSUB the sign changed; Cause the union), need Exec64(). A denormalized operand
traps with Cause E, a NaN with V if enabled, else E. For infinities and zeros, in every format and rounding mode: inf -
inf, zero times inf, 0/0, inf/inf and the root of a negative number are the invalid operation (V if enabled, else E); a
normal number by zero is the division by zero (FPE with Z if enabled, else an infinity of the product of the signs,
Cause and Flags Z); every other result has Cause 0 and is the infinity or the zero the rule of the instruction names, a
cancelled sum, or one of two zeros of unlike sign, being -0 only toward minus infinity; zero plus or minus a normal
number is that number or its negation. ABS clears the sign bit, NEG inverts it, and no other bit. With no exception
enabled and FS = 1 every such instruction on finite operands completes (DIV not 0/0, SQRT not of a negative number). fd
is recorded as written in its format and no other register's record changes (the model's form of R43, log 22). -/
def Obligations.FpArithmetic : Prop :=
  (∀ (s : State) (fr ft fs fd : RegNum), s.cp0.status.cu1 = true →
    fprNumberOk s fr = true → fprNumberOk s ft = true → fprNumberOk s fs = true → fprNumberOk s fd = true →
    let special (o : Out) (f : Fmt) (l : List Word) : Prop :=
      (l.any (isDenormal f) = true → RaisesFpe s o 0b100000)
      ∧ (l.any (isDenormal f) = false → l.any (isNan f) = true →
          RaisesFpe s o (if s.fcsr.enables.getLsbD 4 then 0b010000 else 0b100000))
    let ends (o : Out) (f : Fmt) (l : List Word) (e : FpEnd) (ok : Prop) : Prop :=
      special o f l
      ∧ (l.any (isDenormal f) = false → l.any (isNan f) = false → EndsWith s o f fd e)
      ∧ (Masked s → (∀ x ∈ l, Finite f x) → ok → ∃ v c, e = .write v c)
    let two (f : Fmt) (i : Instr) (r : Word → Word → FpResult) (ok : Word → Word → Prop) : Prop :=
      formatFits s fs f.tag = true → formatFits s ft f.tag = true →
      ends (exec i s) f [fpBits s f fs, fpBits s f ft] (endOf s.fcsr f (r (fpBits s f fs) (fpBits s f ft))) (ok (fpBits s f fs) (fpBits s f ft))
    let one (f : Fmt) (i : Instr) (r : Word → FpResult) (ok : Word → Prop) : Prop :=
      formatFits s fs f.tag = true → ends (exec i s) f [fpBits s f fs] (endOf s.fcsr f (r (fpBits s f fs))) (ok (fpBits s f fs))
    let three (f : Fmt) (i : Instr) (minus neg : Bool) : Prop :=
      formatFits s fs f.tag = true → formatFits s ft f.tag = true → formatFits s fr f.tag = true →
      let x := fpBits s f fr
      let e : FpEnd := match endOf s.fcsr f (mulValue f (fpBits s f fs) (fpBits s f ft)) with
        | .trap k => .trap k
        | .write t k => match endOf s.fcsr f (addValue f s.fcsr.rm t (if minus then flipSign f x else x)) with
          | .trap k' => .trap (k ||| k')
          | .write u k' => .write (if neg then flipSign f u else u) (k ||| k')
      ends (exec i s) f [fpBits s f fs, fpBits s f ft, x] e True
    let rm := s.fcsr.rm
    let notZeroOverZero (f : Fmt) (a b : Word) : Prop := ∀ p q, ¬ (classify f a = .zero p ∧ classify f b = .zero q)
    let notNegative (f : Fmt) (a : Word) : Prop := ∀ m e, classify f a ≠ .normal true m e
    two .s (.addS ft fs fd) (addValue .s rm) (fun _ _ => True)
      ∧ two .d (.addD ft fs fd) (addValue .d rm) (fun _ _ => True)
    ∧ two .s (.subS ft fs fd) (fun a b => addValue .s rm a (flipSign .s b)) (fun _ _ => True)
    ∧ two .d (.subD ft fs fd) (fun a b => addValue .d rm a (flipSign .d b)) (fun _ _ => True)
    ∧ two .s (.mulS ft fs fd) (mulValue .s) (fun _ _ => True) ∧ two .d (.mulD ft fs fd) (mulValue .d) (fun _ _ => True)
    ∧ two .s (.divS ft fs fd) (divValue .s) (notZeroOverZero .s)
      ∧ two .d (.divD ft fs fd) (divValue .d) (notZeroOverZero .d)
    ∧ one .s (.absS fs fd) (fun a => .deliver (clearSign .s a)) (fun _ => True)
    ∧ one .d (.absD fs fd) (fun a => .deliver (clearSign .d a)) (fun _ => True)
    ∧ one .s (.negS fs fd) (fun a => .deliver (flipSign .s a)) (fun _ => True)
    ∧ one .d (.negD fs fd) (fun a => .deliver (flipSign .d a)) (fun _ => True)
    ∧ one .s (.sqrtS fs fd) (sqrtValue .s) (notNegative .s) ∧ one .d (.sqrtD fs fd) (sqrtValue .d) (notNegative .d)
    ∧ (exec64 s = true →
      one .s (.recipS fs fd) (divValue .s (oneWord .s)) (fun _ => True)
        ∧ one .d (.recipD fs fd) (divValue .d (oneWord .d)) (fun _ => True)
      ∧ three .s (.maddS fr ft fs fd) false false ∧ three .d (.maddD fr ft fs fd) false false
      ∧ three .s (.msubS fr ft fs fd) true false ∧ three .d (.msubD fr ft fs fd) true false
      ∧ three .s (.nmaddS fr ft fs fd) false true ∧ three .d (.nmaddD fr ft fs fd) false true
      ∧ three .s (.nmsubS fr ft fs fd) true true ∧ three .d (.nmsubD fr ft fs fd) true true))
  ∧ ∀ (c : Fcsr) (f : Fmt) (a b : Word) (p q : Bool),
    let inf (w : Word) (g : Bool) : Prop := classify f w = .inf g
    let zero (w : Word) (g : Bool) : Prop := classify f w = .zero g
    let normal (w : Word) (g : Bool) : Prop := ∃ m k, classify f w = .normal g m k
    let invalid (r : FpResult) : Prop := endOf c f r = .trap (if c.enables.getLsbD 4 then 0b010000 else 0b100000)
    let gives (r : FpResult) (x : FpValue) : Prop := ∃ v, endOf c f r = .write v 0 ∧ classify f v = x
    let adds (minus : Bool) : Prop :=
      let y := if minus then flipSign f b else b
      let g := q != minus
      let sum := addValue f c.rm a y
      (inf a p → inf b q → if p = g then gives sum (.inf p) else invalid sum)
      ∧ (inf a p → Finite f b → gives sum (.inf p)) ∧ (Finite f a → inf b q → gives sum (.inf g))
      ∧ (zero a p → zero b q → gives sum (.zero (if p = g then p else decide (c.rm = 3))))
      ∧ (zero a p → normal b q → endOf c f sum = .write y 0) ∧ (normal a p → zero b q → endOf c f sum = .write a 0)
      ∧ (normal a p → normal b q → scaled f a + (if minus then -scaled f b else scaled f b) = 0 →
          gives sum (.zero (decide (c.rm = 3))))
    let product := mulValue f a b
    let quotient := divValue f a b
    let root := sqrtValue f a
    let signBit : Nat := match f with | .s => 31 | .d => 63
    adds false ∧ adds true
    ∧ (zero a p → inf b q → invalid product) ∧ (inf a p → zero b q → invalid product)
    ∧ (inf a p → (inf b q ∨ normal b q) → gives product (.inf (p != q))) ∧ (normal a p → inf b q → gives product (.inf (p != q)))
    ∧ (zero a p → (zero b q ∨ normal b q) → gives product (.zero (p != q))) ∧ (normal a p → zero b q → gives product (.zero (p != q)))
    ∧ (zero a p → zero b q → invalid quotient) ∧ (inf a p → inf b q → invalid quotient)
    ∧ (inf a p → (zero b q ∨ normal b q) → gives quotient (.inf (p != q)))
    ∧ ((zero a p ∨ normal a p) → inf b q → gives quotient (.zero (p != q))) ∧ (zero a p → normal b q → gives quotient (.zero (p != q)))
    ∧ (normal a p → zero b q → if c.enables.getLsbD 3 then endOf c f quotient = .trap 0b001000
        else ∃ v, endOf c f quotient = .write v 0b001000 ∧ classify f v = .inf (p != q))
    ∧ ((normal a true ∨ inf a true) → invalid root) ∧ ((zero a p ∨ inf a false) → endOf c f root = .write a 0)
    ∧ classify f (oneWord f) = .normal false (2 ^ f.frac) (-(f.frac : Int))
    ∧ endOf c f (.deliver (clearSign f a)) = .write (clearSign f a) 0 ∧ endOf c f (.deliver (flipSign f a)) = .write (flipSign f a) 0
    ∧ ∀ k, k < 64 → (clearSign f a).getLsbD k = (decide (k ≠ signBit) && a.getLsbD k)
        ∧ (flipSign f a).getLsbD k = (decide (k = signBit) != a.getLsbD k)

/-- A sum, product, quotient or root delivered without an exception is the exact one. For finite operands of format S or
D: if ADD, SUB, MUL, DIV or SQRT ends by writing a value with no Cause bit, then that value, as a multiple of the
smallest normal unit, is exactly the sum, difference, product, quotient or square root of the operands: no rounding
happened unnoticed. -/
def Obligations.ExactResultsAreExact : Prop :=
  ∀ (c : Fcsr) (f : Fmt) (a b v : Word), Finite f a → Finite f b →
    let unit : Int := 2 ^ (f.frac + f.bias - 1)
    (endOf c f (addValue f c.rm a b) = .write v 0 → scaled f v = scaled f a + scaled f b)
    ∧ (endOf c f (addValue f c.rm a (flipSign f b)) = .write v 0 → scaled f v = scaled f a - scaled f b)
    ∧ (endOf c f (mulValue f a b) = .write v 0 → scaled f v * unit = scaled f a * scaled f b)
    ∧ (endOf c f (divValue f a b) = .write v 0 → scaled f v * scaled f b = scaled f a * unit)
    ∧ (endOf c f (sqrtValue f a) = .write v 0 → scaled f v * scaled f v = scaled f a * unit)

/-- An exact result is rounded once by FCSR.RM, or overflows or underflows as the tables say; sums, products, quotients
and roots are exact up to that. For an exact non-zero result x (magnitude num * 2^exp, or with sticky strictly between
that and (num + 1) * 2^exp with at least two bits more than the format) of format S or D. If |x| is below 2^Emin: FPE
with U, I if U is enabled, else FPE with E unless FS = 1 and I is not enabled, else a zero or the smallest normal number
by RM and sign with Cause U, I. If it is 2^(Emax + 1) or more, or lies above the greatest finite number and the mode
rounds it up to that (to nearest from the half on; toward plus or minus infinity on that side): FPE with O, I if O or I
is enabled, else an infinity or the greatest finite number by RM and sign with Cause O, I. In every other case, the
greatest finite number itself among them, the result is a normal number of the same sign: to nearest within half a unit
in the last place, an exact half going to even; toward zero not above and at most a unit below; toward plus or minus
infinity on that side; Cause is 0 exactly when nothing is lost, else I (FPE if enabled). A sum or difference of normal
numbers that is not zero, and a product, is handed on exactly; a quotient, so also a reciprocal, and a square root of
normal numbers are bracketed by num and num + 1 at their exponent, sticky telling exactly whether they are more than
num. -/
def Obligations.ResultsAreCorrectlyRounded : Prop :=
  ∀ (c : Fcsr) (f : Fmt),
    (∀ x : Exact, 0 < x.num → (x.sticky = true → 2 ^ (f.frac + 2) ≤ x.num) → Finishes c f x (endFinish c f x))
    ∧ (∀ (a b : Word) (sa sb : Bool) (ma mb : Nat) (ea eb : Int),
      classify f a = .normal sa ma ea → classify f b = .normal sb mb eb →
        (∀ minus : Bool,
          let unit : Int := f.emin - f.frac
          let sum : Int := scaled f a + (if minus then -scaled f b else scaled f b)
          sum ≠ 0 → ∃ x : Exact, addValue f c.rm a (if minus then flipSign f b else b) = .finish x ∧ x.sticky = false ∧ 0 < x.num
            ∧ unit ≤ x.exp ∧ (if x.sign then -1 else 1) * (x.num * 2 ^ (x.exp - unit).toNat : Int) = sum)
        ∧ mulValue f a b = .finish { sign := sa != sb, num := ma * mb, exp := ea + eb, sticky := false }
        ∧ ∃ (x : Exact) (d : Nat), divValue f a b = .finish x ∧ x.sign = (sa != sb) ∧ x.exp = ea - eb - d
          ∧ x.num * mb ≤ ma * 2 ^ d ∧ ma * 2 ^ d < (x.num + 1) * mb ∧ (x.sticky = true ↔ x.num * mb ≠ ma * 2 ^ d)
          ∧ 2 ^ (f.frac + 2) ≤ x.num)
    ∧ ∀ (a : Word) (m : Nat) (k : Int), classify f a = .normal false m k →
        ∃ (x : Exact) (d : Nat), sqrtValue f a = .finish x ∧ x.sign = false ∧ 2 * x.exp = k - d
          ∧ x.num * x.num ≤ m * 2 ^ d ∧ m * 2 ^ d < (x.num + 1) * (x.num + 1)
          ∧ (x.sticky = true ↔ x.num * x.num ≠ m * 2 ^ d) ∧ 2 ^ (f.frac + 2) ≤ x.num

/-- Conversions among S, D, W and L deliver the rounded value or trap. With CU1 = 1, even register numbers or FR = 1,
and an operand that fits its format. CVT, ROUND, TRUNC, CEIL and FLOOR to W, and with Exec64() and FR = 1 to L: a finite
operand, taken as the exact fraction it is, is rounded to the integer nearest to it (ties to even), toward zero, plus or
minus infinity, as the instruction or FCSR.RM says; one that fits in 32 or 64 bits is written to fd, with Cause 0 if it
equals the operand, else with Cause I or, if I is enabled, FPE; one that does not fit, and an infinity, traps as an
invalid operation (V if enabled, else E). CVT.S.D, CVT.D.S, CVT.S.W, CVT.D.W, and with Exec64() and FR = 1 CVT.S.L and
CVT.D.L: a zero or an infinity keeps its sign; any other operand underflows below 2^Emin (R668), overflows from 2^(Emax
+ 1) on or if it is rounded up to that (R667), and is else delivered correctly rounded by FCSR.RM to the destination
format, up to the greatest finite number; with no exception enabled and FS = 1 it completes. Denormalized operands trap
with E, NaNs with V or E. Flags accumulate; nothing else changes. That fd, and with FR = 0 both registers of a 64-bit
pair, is recorded as written in the destination format is the model's form of R43 (log 22). -/
def Obligations.FpConversions : Prop :=
  ∀ (s : State) (fs fd : RegNum), s.cp0.status.cu1 = true → fprNumberOk s fs = true → fprNumberOk s fd = true →
    let c := s.fcsr
    let invalid : BitVec 6 := if c.enables.getLsbD 4 then 0b010000 else 0b100000
    let delivers (o : Out) (dst : Fmt) (tag : FprFormat) (v : Word) (cause : BitVec 6) : Prop :=
      ∃ t, o = .next t ∧ FprIs s t dst tag fd v ∧ MovesOn s t ∧ FpKeeps s t
        ∧ t.fcsr = { c with cause := cause, flags := c.flags ||| cause.extractLsb' 0 5 }
    let lossy (o : Out) (dst : Fmt) (tag : FprFormat) (v : Word) : Prop :=
      if c.enables.getLsbD 0 then RaisesFpe s o 0b000001 else delivers o dst tag v 0b000001
    let special (o : Out) (f : Fmt) (a : Word) : Prop :=
      (isDenormal f a = true → RaisesFpe s o 0b100000) ∧ (isNan f a = true → RaisesFpe s o invalid)
    let exact (sign : Bool) (m : Nat) (k : Int) : Exact := { sign := sign, num := m, exp := k, sticky := false }
    let rounds (o : Out) (dst : Fmt) (x : Exact) : Prop :=
      (∃ e, Finishes c dst x e ∧ match e with
        | .trap k => RaisesFpe s o k
        | .write v k => delivers o dst dst.tag v k)
      ∧ (Masked s → ∃ v cause, delivers o dst dst.tag v cause)
    let between (src dst : Fmt) (i : Instr) : Prop := formatFits s fs src.tag = true →
      let a := fpBits s src fs
      special (exec i s) src a
      ∧ (∀ g, classify src a = .zero g → ∃ v, classify dst v = .zero g ∧ delivers (exec i s) dst dst.tag v 0)
      ∧ (∀ g, classify src a = .inf g → ∃ v, classify dst v = .inf g ∧ delivers (exec i s) dst dst.tag v 0)
      ∧ (∀ g m k, classify src a = .normal g m k → rounds (exec i s) dst (exact g m k))
    let fromInt (tag : FprFormat) (x : Int) (dst : Fmt) (i : Instr) : Prop := formatFits s fs tag = true →
      (x = 0 → ∃ v, classify dst v = .zero false ∧ delivers (exec i s) dst dst.tag v 0)
      ∧ (x ≠ 0 → rounds (exec i s) dst (exact (decide (x < 0)) x.natAbs 0))
    let toInt (src dst : Fmt) (tag : FprFormat) (n : Nat) (mode : BitVec 2) (i : Instr) : Prop := formatFits s fs src.tag = true →
      let a := fpBits s src fs
      special (exec i s) src a
      ∧ (∀ g, classify src a = .zero g → delivers (exec i s) dst tag 0 0)
      ∧ (∀ g, classify src a = .inf g → RaisesFpe s (exec i s) invalid)
      ∧ ∀ g m k, classify src a = .normal g m k →
          let x : Int := (if g then -1 else 1) * (m * 2 ^ k.toNat)
          let p : Int := 2 ^ (-k).toNat
          ∃ r : Int, RoundsTo mode x p r
            ∧ (¬ Fits n r → RaisesFpe s (exec i s) invalid)
            ∧ (Fits n r → if r * p = x then delivers (exec i s) dst tag (BitVec.ofInt 64 r) 0
                else lossy (exec i s) dst tag (BitVec.ofInt 64 r))
    let word (src : Fmt) (mode : BitVec 2) (i : Instr) : Prop := toInt src .s .w 32 mode i
    let long (src : Fmt) (mode : BitVec 2) (i : Instr) : Prop := toInt src .d .l 64 mode i
    between .d .s (.cvtSD fs fd) ∧ between .s .d (.cvtDS fs fd)
    ∧ fromInt .w (fpr32 s fs).toInt .s (.cvtSW fs fd) ∧ fromInt .w (fpr32 s fs).toInt .d (.cvtDW fs fd)
    ∧ word .s c.rm (.cvtWS fs fd) ∧ word .d c.rm (.cvtWD fs fd)
    ∧ word .s 0 (.roundWS fs fd) ∧ word .d 0 (.roundWD fs fd) ∧ word .s 1 (.truncWS fs fd) ∧ word .d 1 (.truncWD fs fd)
    ∧ word .s 2 (.ceilWS fs fd) ∧ word .d 2 (.ceilWD fs fd) ∧ word .s 3 (.floorWS fs fd) ∧ word .d 3 (.floorWD fs fd)
    ∧ (exec64 s = true → s.cp0.status.fr = true →
      fromInt .l (fpr64 s fs).toInt .s (.cvtSL fs fd) ∧ fromInt .l (fpr64 s fs).toInt .d (.cvtDL fs fd)
      ∧ long .s c.rm (.cvtLS fs fd) ∧ long .d c.rm (.cvtLD fs fd)
      ∧ long .s 0 (.roundLS fs fd) ∧ long .d 0 (.roundLD fs fd) ∧ long .s 1 (.truncLS fs fd) ∧ long .d 1 (.truncLD fs fd)
      ∧ long .s 2 (.ceilLS fs fd) ∧ long .d 2 (.ceilLD fs fd) ∧ long .s 3 (.floorLS fs fd) ∧ long .d 3 (.floorLD fs fd))

/-- C.cond.fmt sets one condition code by the relation of the operands, or traps on a NaN. With CU1 = 1 and operands
that fit the format: for operands that are numbers each of the 16 conditions in S and D writes FCC[cc] with: bit 2 of
the condition and a < b, or bit 1 and a = b (as numbers, -0 equal to +0, an infinity equal to itself and beyond every
finite number on its side); with a NaN operand and a condition below 8 with bit 0 of the condition. FCSR.Cause becomes
0, the other condition codes, Flags and every register stay. A denormalized operand traps with Cause E; a NaN under a
condition from 8 up with V if enabled, else E. -/
def Obligations.FpCompares : Prop :=
  ∀ (s : State) (ft fs : RegNum) (cc : BitVec 3), s.cp0.status.cu1 = true → fprNumberOk s fs = true → fprNumberOk s ft = true →
    let sets (o : Out) (x : Bool) : Prop := ∃ t, o = .next t
      ∧ (∀ k : BitVec 3, t.fcsr.fcc.getLsbD k.toNat = if k = cc then x else s.fcsr.fcc.getLsbD k.toNat)
      ∧ t.fcsr = { s.fcsr with cause := 0, fcc := t.fcsr.fcc } ∧ t.fpr = s.fpr ∧ t.fprFormat = s.fprFormat
        ∧ MovesOn s t ∧ FpKeeps s t
    let compares (f : Fmt) (cond : Nat) (i : Instr) : Prop := formatFits s fs f.tag = true → formatFits s ft f.tag = true →
      let a := fpBits s f fs
      let b := fpBits s f ft
      let den := isDenormal f a || isDenormal f b
      let nan := isNan f a || isNan f b
      (Finite f a → Finite f b →
        sets (exec i s) (cond / 4 % 2 == 1 && decide (scaled f a < scaled f b) || cond / 2 % 2 == 1 && decide (scaled f a = scaled f b)))
      ∧ (∀ g, classify f a = .inf g → (Finite f b ∨ ∃ h, classify f b = .inf h) →
        sets (exec i s) (cond / 4 % 2 == 1 && g && decide (classify f b ≠ .inf true) || cond / 2 % 2 == 1 && decide (classify f b = .inf g)))
      ∧ (∀ g, classify f b = .inf g → Finite f a → sets (exec i s) (cond / 4 % 2 == 1 && !g))
      ∧ (den = true → RaisesFpe s (exec i s) 0b100000)
      ∧ (den = false → nan = true → if cond < 8 then sets (exec i s) (cond % 2 == 1)
          else RaisesFpe s (exec i s) (if s.fcsr.enables.getLsbD 4 then 0b010000 else 0b100000))
    compares .s 0 (.cFS ft fs cc) ∧ compares .d 0 (.cFD ft fs cc)
    ∧ compares .s 1 (.cUnS ft fs cc) ∧ compares .d 1 (.cUnD ft fs cc)
    ∧ compares .s 2 (.cEqS ft fs cc) ∧ compares .d 2 (.cEqD ft fs cc)
    ∧ compares .s 3 (.cUeqS ft fs cc) ∧ compares .d 3 (.cUeqD ft fs cc)
    ∧ compares .s 4 (.cOltS ft fs cc) ∧ compares .d 4 (.cOltD ft fs cc)
    ∧ compares .s 5 (.cUltS ft fs cc) ∧ compares .d 5 (.cUltD ft fs cc)
    ∧ compares .s 6 (.cOleS ft fs cc) ∧ compares .d 6 (.cOleD ft fs cc)
    ∧ compares .s 7 (.cUleS ft fs cc) ∧ compares .d 7 (.cUleD ft fs cc)
    ∧ compares .s 8 (.cSfS ft fs cc) ∧ compares .d 8 (.cSfD ft fs cc)
    ∧ compares .s 9 (.cNgleS ft fs cc) ∧ compares .d 9 (.cNgleD ft fs cc)
    ∧ compares .s 10 (.cSeqS ft fs cc) ∧ compares .d 10 (.cSeqD ft fs cc)
    ∧ compares .s 11 (.cNglS ft fs cc) ∧ compares .d 11 (.cNglD ft fs cc)
    ∧ compares .s 12 (.cLtS ft fs cc) ∧ compares .d 12 (.cLtD ft fs cc)
    ∧ compares .s 13 (.cNgeS ft fs cc) ∧ compares .d 13 (.cNgeD ft fs cc)
    ∧ compares .s 14 (.cLeS ft fs cc) ∧ compares .d 14 (.cLeD ft fs cc)
    ∧ compares .s 15 (.cNgtS ft fs cc) ∧ compares .d 15 (.cNgtD ft fs cc)

/-- The FPU moves copy the bits, raise nothing and leave FCSR alone. With CU1 = 1: MOV.S and MOV.D copy the bits of fs
to fd; MOVT, MOVF, MOVN and MOVZ do so if FCC[cc] is 1, is 0, or general register rt is not or is zero, and otherwise do
nothing, whatever the register numbers. A copy needs even register numbers or FR = 1, else it stops (D22), and a source
that fits the format. fd is recorded as written in the format of the instruction, which is the model's reading of R43
(log 22). NaNs and denormalized values are copied as any bits; FCSR, the other FPU registers and everything else stay.
-/
def Obligations.FpMoves : Prop :=
  ∀ (s : State) (rt fs fd : RegNum) (cc : BitVec 3), s.cp0.status.cu1 = true →
    let copies (f : Fmt) (o : Out) : Prop :=
      ∃ t, o = .next t ∧ FprIs s t f f.tag fd (fpBits s f fs) ∧ t.fcsr = s.fcsr ∧ MovesOn s t ∧ FpKeeps s t
    let moves (f : Fmt) (p : Prop) (i : Instr) : Prop := (¬ p → DoesNothing s (exec i s))
      ∧ (p → fprNumberOk s fs = true → fprNumberOk s fd = true → formatFits s fs f.tag = true → copies f (exec i s))
      ∧ (p → (fprNumberOk s fs = false ∨ fprNumberOk s fd = false) → exec i s = .fault .oddFprWithFr0)
    let cond := s.fcsr.fcc.getLsbD cc.toNat
    moves .s True (.movS fs fd) ∧ moves .d True (.movD fs fd)
    ∧ moves .s (cond = true) (.movtS cc fs fd) ∧ moves .d (cond = true) (.movtD cc fs fd)
    ∧ moves .s (cond = false) (.movfS cc fs fd) ∧ moves .d (cond = false) (.movfD cc fs fd)
    ∧ moves .s (gprRead s rt ≠ 0) (.movnS rt fs fd) ∧ moves .d (gprRead s rt ≠ 0) (.movnD rt fs fd)
    ∧ moves .s (gprRead s rt = 0) (.movzS rt fs fd) ∧ moves .d (gprRead s rt = 0) (.movzD rt fs fd)

/-- Moves between the integer and FPU registers, and the FPU control registers. With CU1 = 1: MTC1 puts the low word of
rt into FPU register fs, MFC1 the low word of fs, sign-extended, into rt; with Exec64() and an even number or FR = 1
DMTC1 and DMFC1 move all 64 bits. The register is then recorded as fit for every format, the others keep their record
(the model's form of R43, log 22). CFC1 reads FIR (0), FCCR (25), FEXR (26), FENR (28), FCSR (31) with each field at its
place; CTC1 writes the fields of 25, 26, 28 or 31 and ignores 0, and raises FPE with the new FCSR if a write of 26, 28
or 31 leaves Cause E or a Cause bit whose Enable is set. That a write of 25 takes bits 7:0 also where bits 31:8 are not
zero is the model's choice (R745 against R58, log 35). Another control register stops the program. Nothing else changes.
-/
def Obligations.FpTransfersAndControl : Prop :=
  ∀ (s : State) (rt fs : RegNum), s.cp0.status.cu1 = true →
    let v := gprRead s rt
    let f := s.fcsr
    let keeps (t : State) : Prop := t.fcsr = s.fcsr ∧ MovesOn s t ∧ FpKeeps s t
    let reads (k : RegNum) (x : BitVec 32) : Prop := WritesGpr s (exec (.cfc1 rt k) s) rt (x.signExtend 64)
    let writes (k : RegNum) (new : Fcsr) (traps : Bool) : Prop :=
      if traps && (new.cause.getLsbD 5 || (new.cause.extractLsb' 0 5 &&& new.enables) != 0) then
        ∃ t, exec (.ctc1 rt k) s = .next t ∧ Entered { s with fcsr := new } 15 0x180 t ∧ KeepsAddresses s t
      else ∃ t, exec (.ctc1 rt k) s = .next t ∧ MovesOn s t ∧ t = { s with fcsr := new, pc := t.pc, delay := t.delay }
    (∃ t, exec (.mtc1 rt fs) s = .next t ∧ Fpr32Is s t .raw fs (v.extractLsb' 0 32) ∧ keeps t)
    ∧ WritesGpr s (exec (.mfc1 rt fs) s) rt ((fpr32 s fs).signExtend 64)
    ∧ (exec64 s = true → fprNumberOk s fs = true → (∃ t, exec (.dmtc1 rt fs) s = .next t ∧ Fpr64Is s t .raw fs v ∧ keeps t)
        ∧ WritesGpr s (exec (.dmfc1 rt fs) s) rt (fpr64 s fs))
    ∧ reads 0 0x00038101 ∧ reads 25 ((0 : BitVec 24) ++ f.fcc)
    ∧ reads 26 ((0 : BitVec 14) ++ f.cause ++ (0 : BitVec 5) ++ f.flags ++ (0 : BitVec 2))
    ∧ reads 28 ((0 : BitVec 20) ++ f.enables ++ (0 : BitVec 4) ++ BitVec.ofBool f.fs ++ f.rm)
    ∧ reads 31 (f.fcc.extractLsb' 1 7 ++ BitVec.ofBool f.fs ++ f.fcc.extractLsb' 0 1 ++ (0 : BitVec 5) ++ f.cause ++ f.enables ++ f.flags ++ f.rm)
    ∧ writes 0 f false ∧ writes 25 { f with fcc := v.extractLsb' 0 8 } false
    ∧ writes 26 { f with cause := v.extractLsb' 12 6, flags := v.extractLsb' 2 5 } true
    ∧ writes 28 { f with enables := v.extractLsb' 7 5, fs := v.getLsbD 2, rm := v.extractLsb' 0 2 } true
    ∧ writes 31 { fcc := v.extractLsb' 25 7 ++ v.extractLsb' 23 1, fs := v.getLsbD 24, cause := v.extractLsb' 12 6,
                  enables := v.extractLsb' 7 5, flags := v.extractLsb' 2 5, rm := v.extractLsb' 0 2 } true
    ∧ ((fs ≠ 0 ∧ fs ≠ 25 ∧ fs ≠ 26 ∧ fs ≠ 28 ∧ fs ≠ 31) →
        exec (.cfc1 rt fs) s = .fault .unknownFcr ∧ exec (.ctc1 rt fs) s = .fault .unknownFcr)

/-- FPU loads bring the bytes at the address into the register, FPU stores put them there. With CU1 = 1, for an uncached
address (no copy in the data cache, no bus error): LWC1 at base + offset, and with Exec64() LWXC1 at base + index, load
an aligned word into the low word of the FPU register, LDC1 and LDXC1 an aligned doubleword, LUXC1 the doubleword at
base + index with the low three bits cleared; SWC1, SWXC1, SDC1, SDXC1 and SUXC1 store likewise. 64-bit forms name an
even register or FR = 1. A loaded register is recorded as fit for every format, the others keep their record (the
model's form of R43, log 22). A load changes no byte of memory and no other register (where READ_OVERTAKES_WRITES is
false the buffered writes reach memory first), a store no other byte and no register; FCSR stays. -/
def Obligations.UncachedFpLoadsAndStores : Prop :=
  ∀ (s : State) (base index r : RegNum) (offset : BitVec 16) (pa : PAddr) (v : Word), s.cp0.status.cu1 = true →
    let va := gprRead s base + offset.signExtend 64
    let vx := gprRead s base + gprRead s index
    let down : Word := vx.extractLsb' 3 61 ++ (0 : BitVec 3)
    let keeps (t : State) : Prop := t.fcsr = s.fcsr ∧ MovesOn s t ∧ FpKeeps (waited s) t
    let loads32 (a : Word) (i : Instr) : Prop := UncachedLoad s a 4 pa → Holds s pa 4 v →
      ∃ t, exec i s = .next t ∧ Fpr32Is s t .raw r (v.extractLsb' 0 32) ∧ keeps t
    let loads64 (a : Word) (i : Instr) : Prop := UncachedLoad s a 8 pa → Holds s pa 8 v → fprNumberOk s r = true →
      ∃ t, exec i s = .next t ∧ Fpr64Is s t .raw r v ∧ keeps t
    let stores32 (a : Word) (i : Instr) : Prop := Memory.wf s.mem = true → Uncached s a 4 .store pa →
      Stores s (exec i s) pa 4 ((fpr32 s r).setWidth 64)
    let stores64 (a : Word) (i : Instr) : Prop := Memory.wf s.mem = true → Uncached s a 8 .store pa → fprNumberOk s r = true →
      Stores s (exec i s) pa 8 (fpr64 s r)
    loads32 va (.lwc1 base r offset) ∧ stores32 va (.swc1 base r offset)
    ∧ (exec64 s = true →
      loads32 vx (.lwxc1 base index r) ∧ loads64 va (.ldc1 base r offset) ∧ loads64 vx (.ldxc1 base index r)
      ∧ loads64 down (.luxc1 base index r) ∧ stores32 vx (.swxc1 base index r) ∧ stores64 va (.sdc1 base r offset)
      ∧ stores64 vx (.sdxc1 base index r)
      ∧ stores64 down (.suxc1 base index r))

/-- Every coprocessor 1 instruction raises CpU with CE = 1 while CU1 is 0. With Status.CU1 = 0 each instruction whose
word has opcode 17, 19, 49, 53, 57 or 61, or opcode 0 with function 1 (MOVF, MOVT), raises CpU with Cause.CE = 1 in
every mode and does nothing else: no other test of the instruction comes before. -/
def Obligations.Coprocessor1IsTestedFirst : Prop :=
  ∀ (s : State) (i : Instr), s.cp0.status.cu1 = false →
    let w := encode i
    let op := w.extractLsb' 26 6
    (op = 17 ∨ op = 19 ∨ op = 49 ∨ op = 53 ∨ op = 57 ∨ op = 61 ∨ (op = 0
      ∧ w.extractLsb' 0 6 = 1)) → RaisesCpu s (exec i s) 1

/-- In 32-bit User mode each MIPS-64 level instruction raises RI or FPE as the table says. In User mode with UX = 0 and
PX = 0: the MIPS-64 level integer instructions and loads and stores raise RI, DMFC0 and DMTC0 do with CU0 = 1; with CU1
= 1 the MIPS-64 level FPU arithmetic and conversions raise FPE with Cause E, and the FPU transfers, loads and stores of
that level raise FPE with Cause E or RI by the parameter FPU_MOVE64_FAULT. Nothing else happens. -/
def Obligations.Mips64LevelNeedsExec64 : Prop :=
  ∀ (s : State) (a b c d : RegNum) (sa : BitVec 5) (sel : BitVec 3) (imm : BitVec 16), User32 s →
    (∀ i ∈ [Instr.dadd a b d, Instr.daddi a b imm, Instr.daddiu a b imm, Instr.daddu a b d, Instr.dclo a b d,
      Instr.dclz a b d, Instr.ddiv a b, Instr.ddivu a b, Instr.dmult a b, Instr.dmultu a b, Instr.dsub a b d,
    Instr.dsubu a b d, Instr.dsll a b sa, Instr.dsrl a b sa, Instr.dsra a b sa, Instr.dsllv a b d,
      Instr.dsrlv a b d, Instr.dsrav a b d, Instr.dsll32 a b sa, Instr.dsrl32 a b sa, Instr.dsra32 a b sa,
    Instr.ld a b imm, Instr.ldl a b imm, Instr.ldr a b imm, Instr.lld a b imm, Instr.lwu a b imm,
      Instr.scd a b imm, Instr.sd a b imm, Instr.sdl a b imm, Instr.sdr a b imm],
      Raises s (exec i s) 10)
    ∧ (s.cp0.status.cu0 = true → ∀ i ∈ [Instr.dmfc0 a b sel, Instr.dmtc0 a b sel], Raises s (exec i s) 10)
    ∧ (s.cp0.status.cu1 = true → ∀ i ∈ [Instr.maddS d c b a, Instr.maddD d c b a, Instr.msubS d c b a,
      Instr.msubD d c b a, Instr.nmaddS d c b a, Instr.nmaddD d c b a, Instr.nmsubS d c b a,
    Instr.nmsubD d c b a, Instr.recipS a b, Instr.recipD a b, Instr.cvtSL a b, Instr.cvtDL a b, Instr.cvtLS a b,
      Instr.cvtLD a b, Instr.roundLS a b, Instr.roundLD a b, Instr.truncLS a b, Instr.truncLD a b,
    Instr.ceilLS a b, Instr.ceilLD a b, Instr.floorLS a b, Instr.floorLD a b],
      RaisesFpe s (exec i s) 0b100000)
    ∧ (s.cp0.status.cu1 = true → ∀ i ∈ [Instr.dmtc1 a b, Instr.dmfc1 a b, Instr.ldc1 a b imm,
      Instr.sdc1 a b imm, Instr.luxc1 a b d, Instr.suxc1 a b d, Instr.lwxc1 a b d, Instr.swxc1 a b d,
    Instr.ldxc1 a b d, Instr.sdxc1 a b d],
      if s.conf.fpuMove64IsRi then Raises s (exec i s) 10 else RaisesFpe s (exec i s) 0b100000)

/-- NMI, an enabled interrupt and a late bus error, in this order, come before the instruction; a failing data read
raises or records DBE. With no reset requested: a pending NMI is taken: ErrorEPC is the restart address, ERL, BEV and
NMI are 1, SR, TS and RP 0, the pc is the reset vector, EPC, Cause, EXL, KSU, IE, IM and the general registers stay;
else, awake, with no host hold (the model's choice how the host delays an interrupt, log 24) and no multiple TLB match
on the fetch (that machine check comes first: the model's reading of R817, log 30), an interrupt enters Int (ExcCode 0,
offset 0x200 if Cause.IV and EXL = 0) exactly as IE, EXL, ERL and the AND of IM with Cause.IP say; else, awake, a data
bus error whose instructions have completed enters DBE (ExcCode 7) at the current instruction (that it waits behind NMI
and interrupts is the model's choice, log 16). Cause.IP is: IP7 pin 5, or the timer request with Config0.TE, or a
performance counter with IE and bit 31; IP6 to IP2 pins 4 to 0; IP1 and IP0 their register bits. With none pending, a
data read that the bus answers with an error (uncached, or the fill of a cached miss) raises DBE at the instruction with
Config0.ISD = 1, and else completes with the error recorded, to be raised after at most DBE_SKID more instructions: the
destination of a load, also LWL to LDR, LL and the FPU loads, holds any value (LLbit stays), and no line, Way Select
word or other register changes. A store whose fill fails changes no byte of memory (R540), the writes buffered before it
being in memory under code 1 (R241 drains the buffer before the fill); SC and SCD then change nothing; Fill and Fetch
And Lock leave both caches alone. That the error comes before the choice of a way, with the victim and the Way Select
word as they were, is the model's choice (log 33). How the recorded error is reported later is the model's reading (log
16). -/
def Obligations.PendingEventsComeFirst : Prop :=
  ∀ s : State, s.resetRequest = none →
    (s.nmiPending = true → ∃ t, step s = .next (boundary t) ∧ t.pc = s.conf.resetVector
      ∧ t.delay = none
        ∧ t.nmiPending = false ∧ (∀ r, gprRead t r = gprRead s r) ∧ SameMemory s t
        ∧ t.cp0 = { s.cp0 with
            errorEpc := if s.delay.isSome then s.pc - 4 else s.pc
            status := { s.cp0.status with erl := true, bev := true, ts := false, rp := false, sr := false, nmi := true } })
    ∧ (s.nmiPending = false → s.sleeping = false → s.intHeld = false → fetchMeetsMultiple s = false →
        s.cp0.status.ie = true → s.cp0.status.exl = false → s.cp0.status.erl = false → causeIp s &&& s.cp0.status.im ≠ 0 →
        ∃ t, step s = .next (boundary t) ∧ Entered s 0 (if s.cp0.cause.iv then 0x200 else 0x180) t ∧ KeepsAddresses s t)
    ∧ (s.nmiPending = false → s.sleeping = false → interruptDue s = false → ∀ e, s.lateError = some e → e.left = 0 →
        ∃ t, step s = .next (boundary t) ∧ Entered s 7 0x180 t ∧ KeepsAddresses s t)
    ∧ ((s.cp0.status.ie = false ∨ s.cp0.status.exl = true ∨ s.cp0.status.erl = true ∨ causeIp s &&& s.cp0.status.im = 0) →
        interruptDue s = false)
    ∧ (causeIp s).getLsbD 7 = (s.intPins.getLsbD 5 || (s.timerRequest && s.cp0.config0.te)
        || (s.cp0.perfCtl0.ie && s.cp0.perfCnt0.getLsbD 31) || (s.cp0.perfCtl1.ie && s.cp0.perfCnt1.getLsbD 31))
    ∧ (∀ k, k < 5 → (causeIp s).getLsbD (k + 2) = s.intPins.getLsbD k)
    ∧ (∀ k, k < 2 → (causeIp s).getLsbD k = s.cp0.cause.ip.getLsbD k)
    ∧ (s.lateError = none → ∀ (base index rt : RegNum) (offset : BitVec 16) (pa : PAddr) (cca : BitVec 3),
      let va := gprRead s base + offset.signExtend 64
      let vx := gprRead s base + gprRead s index
      let down : Word := vx.extractLsb' 3 61 ++ (0 : BitVec 3)
      let up (left : Bool) : Bool := dataBigEndian s == left
      let count (w : Nat) (left : Bool) : Nat := if up left then w - va.toNat % w else va.toNat % w + 1
      let first (w : Nat) (left : Bool) : PAddr := if up left then pa else pa - BitVec.ofNat 36 (va.toNat % w)
      let frees (dest : Dest) (i : Instr) : Prop := ∃ b, Freed (waited s) dest b ∧ BusErrorNoted b dest (exec i s)
      let load (a : Word) (n : Nat) (dest : Dest) (i : Instr) : Prop :=
        a.toNat % n = 0 → translate s a .load = .ok pa cca → BusAnswersError s pa n cca → frees dest i
      let merge (w : Nat) (left : Bool) (i : Instr) : Prop :=
        translate s va .load = .ok pa cca → BusAnswersError s (first w left) (count w left) cca → frees (.gpr rt) i
      let drops (p : PAddr) (n : Nat) (i : Instr) : Prop :=
        (cca = 3 → BusAnswersError s p n cca → BusErrorNoted (waited s) .none (exec i s))
        ∧ (cca = 1 → BusAnswersError s p n cca → BusErrorNoted { s with mem := memView s, wbuf := [] } .none (exec i s))
      let store (a : Word) (n : Nat) (i : Instr) : Prop :=
        a.toNat % n = 0 → translate s a .store = .ok pa cca → drops pa n i
      let part (w : Nat) (left : Bool) (i : Instr) : Prop := translate s va .store = .ok pa cca →
        drops (first w left) (count w left) i
      let conditional (n : Nat) (i : Instr) : Prop := va.toNat % n = 0 → translate s va .store = .ok pa cca → s.llbit = true →
        (cca = 1 ∨ cca = 3) → BusAnswersError s pa n cca → BusErrorNoted s .none (exec i s)
      load va 1 (.gpr rt) (.lb base rt offset) ∧ load va 1 (.gpr rt) (.lbu base rt offset) ∧ load va 2 (.gpr rt) (.lh base rt offset)
      ∧ load va 2 (.gpr rt) (.lhu base rt offset) ∧ load va 4 (.gpr rt) (.lw base rt offset) ∧ load va 4 (.gpr rt) (.ll base rt offset)
      ∧ merge 4 true (.lwl base rt offset) ∧ merge 4 false (.lwr base rt offset)
      ∧ store va 1 (.sb base rt offset) ∧ store va 2 (.sh base rt offset) ∧ store va 4 (.sw base rt offset)
      ∧ part 4 true (.swl base rt offset) ∧ part 4 false (.swr base rt offset) ∧ conditional 4 (.sc base rt offset)
      ∧ (exec64 s = true → load va 4 (.gpr rt) (.lwu base rt offset) ∧ load va 8 (.gpr rt) (.ld base rt offset)
        ∧ load va 8 (.gpr rt) (.lld base rt offset) ∧ merge 8 true (.ldl base rt offset) ∧ merge 8 false (.ldr base rt offset)
        ∧ store va 8 (.sd base rt offset) ∧ part 8 true (.sdl base rt offset) ∧ part 8 false (.sdr base rt offset)
        ∧ conditional 8 (.scd base rt offset))
      ∧ (s.cp0.status.cu1 = true →
        load va 4 (.fpr rt false) (.lwc1 base rt offset) ∧ store va 4 (.swc1 base rt offset)
        ∧ (exec64 s = true →
          load vx 4 (.fpr rt false) (.lwxc1 base index rt) ∧ store vx 4 (.swxc1 base index rt)
          ∧ (fprNumberOk s rt = true → load va 8 (.fpr rt true) (.ldc1 base rt offset) ∧ load vx 8 (.fpr rt true) (.ldxc1 base index rt)
            ∧ load down 8 (.fpr rt true) (.luxc1 base index rt) ∧ store va 8 (.sdc1 base rt offset)
            ∧ store vx 8 (.sdxc1 base index rt) ∧ store down 8 (.suxc1 base index rt))))
      ∧ (cp0Usable s = true → s.cp0.errCtl.wst = false → translate s va .load = .ok pa cca → (cca = 0 ∨ cca = 1 ∨ cca = 3) →
        readFails s (lineKey s (tagOf pa) (lineOf pa)) 32 = true →
        (cacheReady s.dcache = true → hitWays s.dcache pa = [] → BusErrorNoted (waited s) .none (exec (.cache base 29 offset) s))
        ∧ (cacheReady s.icache = true → hitWays s.icache pa = [] →
          ∀ k ∈ [(20 : BitVec 5), 28], BusErrorNoted (waited s) .none (exec (.cache base k offset) s))))

/-- Between instructions the host sets the pins, and Count never passes Compare unnoticed. At an instruction boundary
with an entry h of the schedule: Count advances by h.count modulo 2^32, and the timer request is set exactly if it was
set or one of the values Count takes on the way equals Compare; each performance counter advances by the host's amount
modulo 2^32 exactly if it is enabled, with ERL = 0 and EXL = 1 by its EXL bit, with ERL = 0 and EXL = 0 by its K, S or U
bit for the mode KSU names (and while the processor sleeps only for event 0), and otherwise keeps its value; the pins
are sampled, an active NMI sample after an inactive one makes NMI pending; no general register changes, and what the
processor's loads see changes only by the host's own writes: h.drain buffered writes, oldest first, reach memory, then
each write of the host that lies within the 2^36 bytes, so a byte of memory is what the last of these that covers it
puts there, else what it was; loads see the writes that still wait over it. Where the schedule is at its end the
platform is idle: Count advances by one, the write buffer empties, the hold on interrupts ends and all else stays. This
order and the idle platform are the model's choice (logs 5 and 32). -/
def Obligations.BoundaryDrivesTimerAndPins : Prop :=
  (∀ (s : State) (h : HostInput) (rest : List HostInput), s.host = h :: rest →
    let t := boundary s
    let st := s.cp0.status
    let counts (p : PerfCtl) : Prop := st.erl = false ∧ (s.sleeping = true → p.event = 0)
      ∧ (st.exl = true ∧ p.exl = true ∨ st.exl = false ∧ (st.ksu = 0 ∧ p.k = true ∨ st.ksu = 1 ∧ p.s = true ∨ st.ksu = 2 ∧ p.u = true))
    t.host = rest ∧ t.cp0.count = s.cp0.count + BitVec.ofNat 32 h.count
    ∧ (t.timerRequest = true ↔ s.timerRequest = true ∨ ∃ k, 0 < k ∧ k ≤ h.count
      ∧ s.cp0.count + BitVec.ofNat 32 k = s.cp0.compare)
    ∧ t.cp0.perfCnt0 = (if counts s.cp0.perfCtl0 then s.cp0.perfCnt0 + BitVec.ofNat 32 h.perf0 else s.cp0.perfCnt0)
    ∧ t.cp0.perfCnt1 = (if counts s.cp0.perfCtl1 then s.cp0.perfCnt1 + BitVec.ofNat 32 h.perf1 else s.cp0.perfCnt1)
    ∧ t.intPins = h.intPins ∧ t.nmiPin = h.nmi ∧ t.nmiPending = (s.nmiPending || (h.nmi && !s.nmiPin))
      ∧ t.resetRequest = h.reset
    ∧ (∀ r, gprRead t r = gprRead s r) ∧ (h.dma = [] → ∀ lane, seenByte t lane = seenByte s lane)
    ∧ t.pc = s.pc ∧ t.delay = s.delay ∧ t.cp0.status = s.cp0.status ∧ t.wbuf = s.wbuf.drop h.drain
    ∧ (Memory.wf s.mem = true → ∀ lane,
        let dma := h.dma.filter fun w => decide (w.key + w.bytes.length ≤ 2 ^ 36)
        readByte t.mem lane = (lastWritten (s.wbuf.take h.drain ++ dma) lane).getD (readByte s.mem lane)
          ∧ seenByte t lane = (lastWritten (s.wbuf.take h.drain ++ dma ++ s.wbuf.drop h.drain) lane).getD (readByte s.mem lane)))
  ∧ ∀ s : State, s.host = [] →
    let t := boundary s
    t.wbuf = [] ∧ (∀ lane, readByte t.mem lane = seenByte s lane) ∧ (∀ lane, seenByte t lane = seenByte s lane)
      ∧ (t.timerRequest = true ↔ s.timerRequest = true ∨ s.cp0.count + 1 = s.cp0.compare)
      ∧ t = { s with cp0 := { s.cp0 with count := s.cp0.count + 1 }, timerRequest := t.timerRequest, mem := t.mem, wbuf := [], intHeld := false }

/-- A User-mode instruction changes no privileged state except by entering an exception. In User mode with Status.CU0 =
0, whatever the instruction and the state: if it completes, either every CP0 register but the multiple-hit and Way
Select flags of ErrCtl, the TLB, the instruction cache, the Branch Prediction RAM, the mode latches and the pins are as
before, so the mode is the same; or it entered an exception: EXL is 1, the pc is at one of the vectors, Status is
otherwise the same but for TS, and the TLB and the instruction cache are as before. An exception is the only way out of
User mode. -/
def Obligations.UserModeGainsNoPrivilege : Prop :=
  ∀ (i : Instr) (s t : State), s.cp0.status.ksu = 2 → s.cp0.status.exl = false → s.cp0.status.erl = false →
    s.cp0.status.cu0 = false → exec i s = .next t →
    t.tlb = s.tlb ∧ t.icache = s.icache ∧ t.brRam = s.brRam ∧ t.latches = s.latches ∧ t.intPins = s.intPins
      ∧ t.conf = s.conf
    ∧ (t.cp0 = { s.cp0 with errCtl := { s.cp0.errCtl with imh := t.cp0.errCtl.imh, dmh := t.cp0.errCtl.dmh, wse := t.cp0.errCtl.wse } }
      ∨ (t.cp0.status = { s.cp0.status with exl := true, ts := t.cp0.status.ts } ∧ t.delay = none
          ∧ (t.pc = vectors s ∨ t.pc = vectors s + 0x080 ∨ t.pc = vectors s + 0x180)
          ∧ t.cp0.random = s.cp0.random ∧ t.cp0.wired = s.cp0.wired ∧ t.cp0.config0 = s.cp0.config0
          ∧ t.cp0.compare = s.cp0.compare ∧ t.cp0.errorEpc = s.cp0.errorEpc))
end

