-- ==== Sys2Proof/Laws/Memory.lean ====
section
/-! SUPPORT. The laws of the canonical form (Store.lean): what a read gives after a write, that every operation keeps the form,
and that equal contents are equal data. -/

namespace Sys2Proof.Laws

open Sys2Proof.Machine

section Store

variable {α : Type} [DecidableEq α] {d : α}

theorem storeWfFrom_cons {lo k : Nat} {v : α} {t : List (Nat × α)} :
    storeWfFrom d lo ((k, v) :: t) = true ↔ lo ≤ k ∧ v ≠ d ∧ storeWfFrom d (k + 1) t = true := by
  simp [storeWfFrom, and_assoc]

theorem storeWfFrom_mono {lo lo' : Nat} (h : lo' ≤ lo) {m : List (Nat × α)} (hm : storeWfFrom d lo m = true) :
    storeWfFrom d lo' m = true := by
  cases m with
  | nil => rfl
  | cons e t =>
    obtain ⟨k, v⟩ := e
    rw [storeWfFrom_cons] at *
    exact ⟨by omega, hm.2⟩

/-- An unlisted key reads as the default. -/
theorem storeGet_of_lt {lo x : Nat} (h : x < lo) {m : List (Nat × α)} (hm : storeWfFrom d lo m = true) :
    storeGet d m x = d := by
  induction m generalizing lo with
  | nil => rfl
  | cons e t ih =>
    obtain ⟨k, v⟩ := e
    rw [storeWfFrom_cons] at hm
    have hx : x ≠ k := by omega
    simp only [storeGet, if_neg hx]
    exact ih (by omega) hm.2.2

/-- A write keeps the canonical form. -/
theorem storeWfFrom_set {lo x : Nat} {v : α} {m : List (Nat × α)} (hx : lo ≤ x) (hm : storeWfFrom d lo m = true) :
    storeWfFrom d lo (storeSet d m x v) = true := by
  induction m generalizing lo with
  | nil =>
    simp only [storeSet]
    split
    · rfl
    · rename_i h; simp [storeWfFrom, hx, h]
  | cons e t ih =>
    obtain ⟨k, w⟩ := e
    obtain ⟨hk, hw, ht⟩ := storeWfFrom_cons.1 hm
    simp only [storeSet]
    split
    · split
      · exact hm
      · rename_i h1 h2
        exact storeWfFrom_cons.2 ⟨hx, h2, storeWfFrom_cons.2 ⟨by omega, hw, ht⟩⟩
    · split
      · split
        · exact storeWfFrom_mono (by omega) ht
        · rename_i h1 h2 h3
          exact storeWfFrom_cons.2 ⟨hx, h3, storeWfFrom_mono (by omega) ht⟩
      · exact storeWfFrom_cons.2 ⟨hk, hw, ih (by omega) ht⟩

theorem storeWf_set {x : Nat} {v : α} {m : List (Nat × α)} (hm : storeWf d m = true) :
    storeWf d (storeSet d m x v) = true :=
  storeWfFrom_set (Nat.zero_le x) hm

/-- A read gives what was written at the key, and what it gave before elsewhere. -/
theorem storeGet_setFrom {lo x y : Nat} {v : α} {m : List (Nat × α)} (hm : storeWfFrom d lo m = true) :
    storeGet d (storeSet d m x v) y = if y = x then v else storeGet d m y := by
  induction m generalizing lo with
  | nil =>
    simp only [storeSet]
    split
    · rename_i h; subst h; simp [storeGet]
    · simp [storeGet]
  | cons e t ih =>
    obtain ⟨k, w⟩ := e
    obtain ⟨hk, hw, ht⟩ := storeWfFrom_cons.1 hm
    simp only [storeSet]
    split
    · rename_i h1
      split
      · rename_i h2
        split
        · rename_i h3
          subst h3; subst h2
          have : y ≠ k := by omega
          simp only [storeGet, if_neg this]
          exact storeGet_of_lt (by omega) ht
        · rfl
      · simp only [storeGet]
    · rename_i h1
      split
      · rename_i h2
        subst h2
        split
        · rename_i h3
          subst h3
          by_cases h : y = x
          · subst h; simp only [if_true]; exact storeGet_of_lt (by omega) ht
          · simp only [storeGet, if_neg h]
        · simp only [storeGet]
          split <;> rfl
      · rename_i h2
        simp only [storeGet]
        by_cases h : y = k
        · have : y ≠ x := by omega
          rw [if_pos h, if_neg this, if_pos h]
        · rw [if_neg h, ih ht, if_neg h]

theorem storeGet_set {x y : Nat} {v : α} {m : List (Nat × α)} (hm : storeWf d m = true) :
    storeGet d (storeSet d m x v) y = if y = x then v else storeGet d m y :=
  storeGet_setFrom hm

/-- Equal contents in canonical form are equal data. -/
theorem store_extFrom {lo : Nat} {m n : List (Nat × α)} (hm : storeWfFrom d lo m = true)
    (hn : storeWfFrom d lo n = true) (h : ∀ x, storeGet d m x = storeGet d n x) : m = n := by
  induction m generalizing lo n with
  | nil =>
    cases n with
    | nil => rfl
    | cons e t =>
      obtain ⟨k, v⟩ := e
      have := h k
      simp only [storeGet, if_true] at this
      exact absurd this.symm (storeWfFrom_cons.1 hn).2.1
  | cons e t ih =>
    obtain ⟨k, v⟩ := e
    obtain ⟨hk, hv, ht⟩ := storeWfFrom_cons.1 hm
    cases n with
    | nil =>
      have := h k
      simp only [storeGet, if_true] at this
      exact absurd this hv
    | cons e' t' =>
      obtain ⟨k', v'⟩ := e'
      obtain ⟨hk', hv', ht'⟩ := storeWfFrom_cons.1 hn
      have hkk : k = k' := by
        rcases Nat.lt_trichotomy k k' with hlt | heq | hgt
        · have := h k
          simp only [storeGet, if_true, if_neg (show k ≠ k' by omega)] at this
          rw [storeGet_of_lt (by omega) ht'] at this
          exact absurd this hv
        · exact heq
        · have := h k'
          simp only [storeGet, if_true, if_neg (show k' ≠ k by omega)] at this
          rw [storeGet_of_lt (by omega) ht] at this
          exact absurd this.symm hv'
      subst hkk
      have hvv : v = v' := by simpa [storeGet] using h k
      subst hvv
      rw [ih ht ht']
      intro x
      by_cases hx : x = k
      · subst hx; rw [storeGet_of_lt (by omega) ht, storeGet_of_lt (by omega) ht']
      · simpa [storeGet, hx] using h x

theorem store_ext {m n : List (Nat × α)} (hm : storeWf d m = true) (hn : storeWf d n = true)
    (h : ∀ x, storeGet d m x = storeGet d n x) : m = n :=
  store_extFrom hm hn h

/-- A change of every entry keeps the canonical form. -/
theorem storeWfFrom_map {f : Nat → α → α} {lo : Nat} {m : List (Nat × α)} (hm : storeWfFrom d lo m = true) :
    storeWfFrom d lo (storeMap d f m) = true := by
  induction m generalizing lo with
  | nil => rfl
  | cons e t ih =>
    obtain ⟨k, v⟩ := e
    obtain ⟨hk, -, ht⟩ := storeWfFrom_cons.1 hm
    simp only [storeMap]
    split
    · exact storeWfFrom_mono (by omega) (ih ht)
    · exact storeWfFrom_cons.2 ⟨hk, ‹_›, ih ht⟩

theorem storeWf_map {f : Nat → α → α} {m : List (Nat × α)} (hm : storeWf d m = true) : storeWf d (storeMap d f m) = true :=
  storeWfFrom_map hm

/-- A read after a change of every entry gives the changed entry; the change must keep the default. -/
theorem storeGet_mapFrom {f : Nat → α → α} (hf : ∀ k, f k d = d) {lo x : Nat} {m : List (Nat × α)}
    (hm : storeWfFrom d lo m = true) : storeGet d (storeMap d f m) x = f x (storeGet d m x) := by
  induction m generalizing lo with
  | nil => exact (hf x).symm
  | cons e t ih =>
    obtain ⟨k, v⟩ := e
    obtain ⟨-, -, ht⟩ := storeWfFrom_cons.1 hm
    simp only [storeMap]
    by_cases hx : x = k
    · subst hx
      split
      · rw [storeGet_of_lt (Nat.lt_succ_self x) (storeWfFrom_map ht)]; simp [storeGet, *]
      · simp [storeGet]
    · split <;> simp only [storeGet, if_neg hx, ih ht]

theorem storeGet_map {f : Nat → α → α} (hf : ∀ k, f k d = d) {x : Nat} {m : List (Nat × α)} (hm : storeWf d m = true) :
    storeGet d (storeMap d f m) x = f x (storeGet d m x) :=
  storeGet_mapFrom hf hm

/-- Any list put into canonical form is in it. -/
theorem storeWf_normal (n : Nat) (m : List (Nat × α)) : storeWf d (storeNormal d n m) = true := by
  unfold storeNormal
  generalize List.range n = l
  suffices h : ∀ acc : List (Nat × α), storeWf d acc = true →
      storeWf d (l.foldl (fun acc k => storeSet d acc k (storeGet d m k)) acc) = true from h [] rfl
  induction l with
  | nil => exact fun _ h => h
  | cons k l ih => exact fun acc h => ih _ (storeWf_set h)

end Store

/-! Memory. -/

theorem wf_writeByte {m : List Host.Cell} {k : Nat} {b : Byte} (h : Memory.wf m = true) :
    Memory.wf (writeByte m k b) = true := storeWf_set h

theorem readByte_writeByte {m : List Host.Cell} {k a : Nat} {b : Byte} (h : Memory.wf m = true) :
    readByte (writeByte m k b) a = if a = k then b else readByte m a := storeGet_set h

theorem wf_writeBytes {m : List Host.Cell} {k : Nat} {bs : List Byte} (h : Memory.wf m = true) :
    Memory.wf (writeBytes m k bs) = true := by
  induction bs generalizing m k with
  | nil => exact h
  | cons b bs ih => exact ih (wf_writeByte h)

/-- After a write of several bytes a read gives the written byte inside, and what it gave before outside. -/
theorem readByte_writeBytes {m : List Host.Cell} {k a : Nat} {bs : List Byte} (h : Memory.wf m = true) :
    readByte (writeBytes m k bs) a = if k ≤ a ∧ a < k + bs.length then bs.getD (a - k) 0 else readByte m a := by
  induction bs generalizing m k with
  | nil => simp [writeBytes]
  | cons b bs ih =>
    simp only [writeBytes, ih (wf_writeByte h), readByte_writeByte h, List.length_cons]
    by_cases h1 : a = k
    · subst h1; simp
    · by_cases h2 : k + 1 ≤ a ∧ a < k + 1 + bs.length
      · rw [if_pos h2, if_pos ⟨by omega, by omega⟩]
        obtain ⟨n, hn⟩ : ∃ n, a - k = n + 1 := ⟨a - k - 1, by omega⟩
        rw [hn, show a - (k + 1) = n by omega]
        simp
      · rw [if_neg h2, if_neg h1, if_neg (by omega)]

theorem wf_applyWrite {m : List Host.Cell} {w : BusWrite} (h : Memory.wf m = true) : Memory.wf (applyWrite m w) = true :=
  wf_writeBytes h

theorem wf_foldl_applyWrite {l : List BusWrite} {m : List Host.Cell} (h : Memory.wf m = true) :
    Memory.wf (l.foldl applyWrite m) = true := by
  induction l generalizing m with
  | nil => exact h
  | cons w l ih => exact ih (wf_applyWrite h)

theorem wf_memView {s : State} (h : Memory.wf s.mem = true) : Memory.wf (memView s) = true := wf_foldl_applyWrite h

theorem wf_drain {s : State} {n : Nat} (h : Memory.wf s.mem = true) : Memory.wf (drain n s).mem = true :=
  wf_foldl_applyWrite h

theorem wf_drainAll {s : State} (h : Memory.wf s.mem = true) : Memory.wf (drainAll s).mem = true := wf_memView h

theorem wf_reset : Memory.wf State.reset.mem = true := rfl

/-- What reaches the bus changes nothing the processor's own loads see. -/
theorem memView_drain (n : Nat) (s : State) : memView (drain n s) = memView s := by
  simp only [memView, drain, ← List.foldl_append, List.take_append_drop]

theorem memView_drainAll (s : State) : memView (drainAll s) = memView s := rfl

/-- A buffered write is seen by later loads at once. -/
theorem memView_enqueue (s : State) (w : BusWrite) : memView (enqueue s w) = applyWrite (memView s) w := by
  simp [memView, enqueue, List.foldl_append]

/-! The caches. -/

theorem cacheWf_setLine {c : Cache} {w l : Nat} {x : CacheLine} (h : cacheWf c = true) :
    cacheWf (setLine c w l x) = true := by
  simp only [cacheWf, setLine, Bool.and_eq_true] at *
  exact ⟨storeWf_set h.1, h.2⟩

/-- The line written is the line read; the other lines are as before. -/
theorem getLine_setLine {c : Cache} {w l w' l' : Nat} {x : CacheLine} (h : cacheWf c = true) :
    getLine (setLine c w l x) w' l' = if 128 * w' + l' = 128 * w + l then x else getLine c w' l' := by
  simp only [cacheWf, Bool.and_eq_true] at h
  exact storeGet_set h.1

theorem cacheWf_resetCache (a : Cache) : cacheWf (resetCache a) = true := by
  simp only [cacheWf, resetCache, Bool.and_eq_true]
  exact ⟨storeWf_normal _ _, storeWf_normal _ _⟩

end Sys2Proof.Laws
end

