-- ==== Sys2Proof/Laws/State.lean ====
section
/-! SUPPORT. One lemma for each field of State under each update of it, so that no later proof unfolds a record update. -/

namespace Sys2Proof.Laws

open Sys2Proof.Machine

@[simp] theorem spend_gpr (n : Nat) (s : State) : (spend n s).gpr = s.gpr := rfl
@[simp] theorem spend_hi (n : Nat) (s : State) : (spend n s).hi = s.hi := rfl
@[simp] theorem spend_lo (n : Nat) (s : State) : (spend n s).lo = s.lo := rfl
@[simp] theorem spend_pc (n : Nat) (s : State) : (spend n s).pc = s.pc := rfl
@[simp] theorem spend_delay (n : Nat) (s : State) : (spend n s).delay = s.delay := rfl
@[simp] theorem spend_llbit (n : Nat) (s : State) : (spend n s).llbit = s.llbit := rfl
@[simp] theorem spend_fpr (n : Nat) (s : State) : (spend n s).fpr = s.fpr := rfl
@[simp] theorem spend_fprFormat (n : Nat) (s : State) : (spend n s).fprFormat = s.fprFormat := rfl
@[simp] theorem spend_fcsr (n : Nat) (s : State) : (spend n s).fcsr = s.fcsr := rfl
@[simp] theorem spend_cp0 (n : Nat) (s : State) : (spend n s).cp0 = s.cp0 := rfl
@[simp] theorem spend_tlb (n : Nat) (s : State) : (spend n s).tlb = s.tlb := rfl
@[simp] theorem spend_icache (n : Nat) (s : State) : (spend n s).icache = s.icache := rfl
@[simp] theorem spend_dcache (n : Nat) (s : State) : (spend n s).dcache = s.dcache := rfl
@[simp] theorem spend_brRam (n : Nat) (s : State) : (spend n s).brRam = s.brRam := rfl
@[simp] theorem spend_wbuf (n : Nat) (s : State) : (spend n s).wbuf = s.wbuf := rfl
@[simp] theorem spend_mem (n : Nat) (s : State) : (spend n s).mem = s.mem := rfl
@[simp] theorem spend_codeStores (n : Nat) (s : State) : (spend n s).codeStores = s.codeStores := rfl
@[simp] theorem spend_lateError (n : Nat) (s : State) : (spend n s).lateError = s.lateError := rfl
@[simp] theorem spend_intPins (n : Nat) (s : State) : (spend n s).intPins = s.intPins := rfl
@[simp] theorem spend_nmiPin (n : Nat) (s : State) : (spend n s).nmiPin = s.nmiPin := rfl
@[simp] theorem spend_nmiPending (n : Nat) (s : State) : (spend n s).nmiPending = s.nmiPending := rfl
@[simp] theorem spend_intHeld (n : Nat) (s : State) : (spend n s).intHeld = s.intHeld := rfl
@[simp] theorem spend_timerRequest (n : Nat) (s : State) : (spend n s).timerRequest = s.timerRequest := rfl
@[simp] theorem spend_sleeping (n : Nat) (s : State) : (spend n s).sleeping = s.sleeping := rfl
@[simp] theorem spend_resetRequest (n : Nat) (s : State) : (spend n s).resetRequest = s.resetRequest := rfl
@[simp] theorem spend_latches (n : Nat) (s : State) : (spend n s).latches = s.latches := rfl
@[simp] theorem spend_conf (n : Nat) (s : State) : (spend n s).conf = s.conf := rfl
@[simp] theorem spend_host (n : Nat) (s : State) : (spend n s).host = s.host := rfl
@[simp] theorem spend_draws (n : Nat) (s : State) : (spend n s).draws = s.draws + n := rfl

@[simp] theorem setStatus_gpr (s : State) (x : Status) : (setStatus s x).gpr = s.gpr := rfl
@[simp] theorem setStatus_hi (s : State) (x : Status) : (setStatus s x).hi = s.hi := rfl
@[simp] theorem setStatus_lo (s : State) (x : Status) : (setStatus s x).lo = s.lo := rfl
@[simp] theorem setStatus_pc (s : State) (x : Status) : (setStatus s x).pc = s.pc := rfl
@[simp] theorem setStatus_delay (s : State) (x : Status) : (setStatus s x).delay = s.delay := rfl
@[simp] theorem setStatus_llbit (s : State) (x : Status) : (setStatus s x).llbit = s.llbit := rfl
@[simp] theorem setStatus_fpr (s : State) (x : Status) : (setStatus s x).fpr = s.fpr := rfl
@[simp] theorem setStatus_fprFormat (s : State) (x : Status) : (setStatus s x).fprFormat = s.fprFormat := rfl
@[simp] theorem setStatus_fcsr (s : State) (x : Status) : (setStatus s x).fcsr = s.fcsr := rfl
@[simp] theorem setStatus_cp0 (s : State) (x : Status) : (setStatus s x).cp0 = { s.cp0 with status := x } := rfl
@[simp] theorem setStatus_tlb (s : State) (x : Status) : (setStatus s x).tlb = s.tlb := rfl
@[simp] theorem setStatus_icache (s : State) (x : Status) : (setStatus s x).icache = s.icache := rfl
@[simp] theorem setStatus_dcache (s : State) (x : Status) : (setStatus s x).dcache = s.dcache := rfl
@[simp] theorem setStatus_brRam (s : State) (x : Status) : (setStatus s x).brRam = s.brRam := rfl
@[simp] theorem setStatus_wbuf (s : State) (x : Status) : (setStatus s x).wbuf = s.wbuf := rfl
@[simp] theorem setStatus_mem (s : State) (x : Status) : (setStatus s x).mem = s.mem := rfl
@[simp] theorem setStatus_codeStores (s : State) (x : Status) : (setStatus s x).codeStores = s.codeStores := rfl
@[simp] theorem setStatus_lateError (s : State) (x : Status) : (setStatus s x).lateError = s.lateError := rfl
@[simp] theorem setStatus_intPins (s : State) (x : Status) : (setStatus s x).intPins = s.intPins := rfl
@[simp] theorem setStatus_nmiPin (s : State) (x : Status) : (setStatus s x).nmiPin = s.nmiPin := rfl
@[simp] theorem setStatus_nmiPending (s : State) (x : Status) : (setStatus s x).nmiPending = s.nmiPending := rfl
@[simp] theorem setStatus_intHeld (s : State) (x : Status) : (setStatus s x).intHeld = s.intHeld := rfl
@[simp] theorem setStatus_timerRequest (s : State) (x : Status) : (setStatus s x).timerRequest = s.timerRequest := rfl
@[simp] theorem setStatus_sleeping (s : State) (x : Status) : (setStatus s x).sleeping = s.sleeping := rfl
@[simp] theorem setStatus_resetRequest (s : State) (x : Status) : (setStatus s x).resetRequest = s.resetRequest := rfl
@[simp] theorem setStatus_latches (s : State) (x : Status) : (setStatus s x).latches = s.latches := rfl
@[simp] theorem setStatus_conf (s : State) (x : Status) : (setStatus s x).conf = s.conf := rfl
@[simp] theorem setStatus_host (s : State) (x : Status) : (setStatus s x).host = s.host := rfl
@[simp] theorem setStatus_draws (s : State) (x : Status) : (setStatus s x).draws = s.draws := rfl

@[simp] theorem setFpuCause_gpr (s : State) (c : BitVec 6) : (setFpuCause s c).gpr = s.gpr := rfl
@[simp] theorem setFpuCause_hi (s : State) (c : BitVec 6) : (setFpuCause s c).hi = s.hi := rfl
@[simp] theorem setFpuCause_lo (s : State) (c : BitVec 6) : (setFpuCause s c).lo = s.lo := rfl
@[simp] theorem setFpuCause_pc (s : State) (c : BitVec 6) : (setFpuCause s c).pc = s.pc := rfl
@[simp] theorem setFpuCause_delay (s : State) (c : BitVec 6) : (setFpuCause s c).delay = s.delay := rfl
@[simp] theorem setFpuCause_llbit (s : State) (c : BitVec 6) : (setFpuCause s c).llbit = s.llbit := rfl
@[simp] theorem setFpuCause_fpr (s : State) (c : BitVec 6) : (setFpuCause s c).fpr = s.fpr := rfl
@[simp] theorem setFpuCause_fprFormat (s : State) (c : BitVec 6) : (setFpuCause s c).fprFormat = s.fprFormat := rfl
@[simp] theorem setFpuCause_fcsr (s : State) (c : BitVec 6) : (setFpuCause s c).fcsr = { s.fcsr with cause := c } := rfl
@[simp] theorem setFpuCause_cp0 (s : State) (c : BitVec 6) : (setFpuCause s c).cp0 = s.cp0 := rfl
@[simp] theorem setFpuCause_tlb (s : State) (c : BitVec 6) : (setFpuCause s c).tlb = s.tlb := rfl
@[simp] theorem setFpuCause_icache (s : State) (c : BitVec 6) : (setFpuCause s c).icache = s.icache := rfl
@[simp] theorem setFpuCause_dcache (s : State) (c : BitVec 6) : (setFpuCause s c).dcache = s.dcache := rfl
@[simp] theorem setFpuCause_brRam (s : State) (c : BitVec 6) : (setFpuCause s c).brRam = s.brRam := rfl
@[simp] theorem setFpuCause_wbuf (s : State) (c : BitVec 6) : (setFpuCause s c).wbuf = s.wbuf := rfl
@[simp] theorem setFpuCause_mem (s : State) (c : BitVec 6) : (setFpuCause s c).mem = s.mem := rfl
@[simp] theorem setFpuCause_codeStores (s : State) (c : BitVec 6) : (setFpuCause s c).codeStores = s.codeStores := rfl
@[simp] theorem setFpuCause_lateError (s : State) (c : BitVec 6) : (setFpuCause s c).lateError = s.lateError := rfl
@[simp] theorem setFpuCause_intPins (s : State) (c : BitVec 6) : (setFpuCause s c).intPins = s.intPins := rfl
@[simp] theorem setFpuCause_nmiPin (s : State) (c : BitVec 6) : (setFpuCause s c).nmiPin = s.nmiPin := rfl
@[simp] theorem setFpuCause_nmiPending (s : State) (c : BitVec 6) : (setFpuCause s c).nmiPending = s.nmiPending := rfl
@[simp] theorem setFpuCause_intHeld (s : State) (c : BitVec 6) : (setFpuCause s c).intHeld = s.intHeld := rfl
@[simp] theorem setFpuCause_timerRequest (s : State) (c : BitVec 6) : (setFpuCause s c).timerRequest = s.timerRequest := rfl
@[simp] theorem setFpuCause_sleeping (s : State) (c : BitVec 6) : (setFpuCause s c).sleeping = s.sleeping := rfl
@[simp] theorem setFpuCause_resetRequest (s : State) (c : BitVec 6) : (setFpuCause s c).resetRequest = s.resetRequest := rfl
@[simp] theorem setFpuCause_latches (s : State) (c : BitVec 6) : (setFpuCause s c).latches = s.latches := rfl
@[simp] theorem setFpuCause_conf (s : State) (c : BitVec 6) : (setFpuCause s c).conf = s.conf := rfl
@[simp] theorem setFpuCause_host (s : State) (c : BitVec 6) : (setFpuCause s c).host = s.host := rfl
@[simp] theorem setFpuCause_draws (s : State) (c : BitVec 6) : (setFpuCause s c).draws = s.draws := rfl

@[simp] theorem setContainer_gpr (s : State) (i : RegNum) (v : Word) (f : FprFormat) : (setContainer s i v f).gpr = s.gpr := rfl
@[simp] theorem setContainer_hi (s : State) (i : RegNum) (v : Word) (f : FprFormat) : (setContainer s i v f).hi = s.hi := rfl
@[simp] theorem setContainer_lo (s : State) (i : RegNum) (v : Word) (f : FprFormat) : (setContainer s i v f).lo = s.lo := rfl
@[simp] theorem setContainer_pc (s : State) (i : RegNum) (v : Word) (f : FprFormat) : (setContainer s i v f).pc = s.pc := rfl
@[simp] theorem setContainer_delay (s : State) (i : RegNum) (v : Word) (f : FprFormat) : (setContainer s i v f).delay = s.delay := rfl
@[simp] theorem setContainer_llbit (s : State) (i : RegNum) (v : Word) (f : FprFormat) : (setContainer s i v f).llbit = s.llbit := rfl
@[simp] theorem setContainer_fpr (s : State) (i : RegNum) (v : Word) (f : FprFormat) : (setContainer s i v f).fpr = s.fpr.set i.toNat v i.isLt := rfl
@[simp] theorem setContainer_fprFormat (s : State) (i : RegNum) (v : Word) (f : FprFormat) : (setContainer s i v f).fprFormat = s.fprFormat.set i.toNat f i.isLt := rfl
@[simp] theorem setContainer_fcsr (s : State) (i : RegNum) (v : Word) (f : FprFormat) : (setContainer s i v f).fcsr = s.fcsr := rfl
@[simp] theorem setContainer_cp0 (s : State) (i : RegNum) (v : Word) (f : FprFormat) : (setContainer s i v f).cp0 = s.cp0 := rfl
@[simp] theorem setContainer_tlb (s : State) (i : RegNum) (v : Word) (f : FprFormat) : (setContainer s i v f).tlb = s.tlb := rfl
@[simp] theorem setContainer_icache (s : State) (i : RegNum) (v : Word) (f : FprFormat) : (setContainer s i v f).icache = s.icache := rfl
@[simp] theorem setContainer_dcache (s : State) (i : RegNum) (v : Word) (f : FprFormat) : (setContainer s i v f).dcache = s.dcache := rfl
@[simp] theorem setContainer_brRam (s : State) (i : RegNum) (v : Word) (f : FprFormat) : (setContainer s i v f).brRam = s.brRam := rfl
@[simp] theorem setContainer_wbuf (s : State) (i : RegNum) (v : Word) (f : FprFormat) : (setContainer s i v f).wbuf = s.wbuf := rfl
@[simp] theorem setContainer_mem (s : State) (i : RegNum) (v : Word) (f : FprFormat) : (setContainer s i v f).mem = s.mem := rfl
@[simp] theorem setContainer_codeStores (s : State) (i : RegNum) (v : Word) (f : FprFormat) : (setContainer s i v f).codeStores = s.codeStores := rfl
@[simp] theorem setContainer_lateError (s : State) (i : RegNum) (v : Word) (f : FprFormat) : (setContainer s i v f).lateError = s.lateError := rfl
@[simp] theorem setContainer_intPins (s : State) (i : RegNum) (v : Word) (f : FprFormat) : (setContainer s i v f).intPins = s.intPins := rfl
@[simp] theorem setContainer_nmiPin (s : State) (i : RegNum) (v : Word) (f : FprFormat) : (setContainer s i v f).nmiPin = s.nmiPin := rfl
@[simp] theorem setContainer_nmiPending (s : State) (i : RegNum) (v : Word) (f : FprFormat) : (setContainer s i v f).nmiPending = s.nmiPending := rfl
@[simp] theorem setContainer_intHeld (s : State) (i : RegNum) (v : Word) (f : FprFormat) : (setContainer s i v f).intHeld = s.intHeld := rfl
@[simp] theorem setContainer_timerRequest (s : State) (i : RegNum) (v : Word) (f : FprFormat) : (setContainer s i v f).timerRequest = s.timerRequest := rfl
@[simp] theorem setContainer_sleeping (s : State) (i : RegNum) (v : Word) (f : FprFormat) : (setContainer s i v f).sleeping = s.sleeping := rfl
@[simp] theorem setContainer_resetRequest (s : State) (i : RegNum) (v : Word) (f : FprFormat) : (setContainer s i v f).resetRequest = s.resetRequest := rfl
@[simp] theorem setContainer_latches (s : State) (i : RegNum) (v : Word) (f : FprFormat) : (setContainer s i v f).latches = s.latches := rfl
@[simp] theorem setContainer_conf (s : State) (i : RegNum) (v : Word) (f : FprFormat) : (setContainer s i v f).conf = s.conf := rfl
@[simp] theorem setContainer_host (s : State) (i : RegNum) (v : Word) (f : FprFormat) : (setContainer s i v f).host = s.host := rfl
@[simp] theorem setContainer_draws (s : State) (i : RegNum) (v : Word) (f : FprFormat) : (setContainer s i v f).draws = s.draws := rfl

@[simp] theorem setTlb_gpr (s : State) (i : Fin 48) (e : TlbEntry) : (setTlb s i e).gpr = s.gpr := rfl
@[simp] theorem setTlb_hi (s : State) (i : Fin 48) (e : TlbEntry) : (setTlb s i e).hi = s.hi := rfl
@[simp] theorem setTlb_lo (s : State) (i : Fin 48) (e : TlbEntry) : (setTlb s i e).lo = s.lo := rfl
@[simp] theorem setTlb_pc (s : State) (i : Fin 48) (e : TlbEntry) : (setTlb s i e).pc = s.pc := rfl
@[simp] theorem setTlb_delay (s : State) (i : Fin 48) (e : TlbEntry) : (setTlb s i e).delay = s.delay := rfl
@[simp] theorem setTlb_llbit (s : State) (i : Fin 48) (e : TlbEntry) : (setTlb s i e).llbit = s.llbit := rfl
@[simp] theorem setTlb_fpr (s : State) (i : Fin 48) (e : TlbEntry) : (setTlb s i e).fpr = s.fpr := rfl
@[simp] theorem setTlb_fprFormat (s : State) (i : Fin 48) (e : TlbEntry) : (setTlb s i e).fprFormat = s.fprFormat := rfl
@[simp] theorem setTlb_fcsr (s : State) (i : Fin 48) (e : TlbEntry) : (setTlb s i e).fcsr = s.fcsr := rfl
@[simp] theorem setTlb_cp0 (s : State) (i : Fin 48) (e : TlbEntry) : (setTlb s i e).cp0 = s.cp0 := rfl
@[simp] theorem setTlb_tlb (s : State) (i : Fin 48) (e : TlbEntry) : (setTlb s i e).tlb = s.tlb.set i e := rfl
@[simp] theorem setTlb_icache (s : State) (i : Fin 48) (e : TlbEntry) : (setTlb s i e).icache = s.icache := rfl
@[simp] theorem setTlb_dcache (s : State) (i : Fin 48) (e : TlbEntry) : (setTlb s i e).dcache = s.dcache := rfl
@[simp] theorem setTlb_brRam (s : State) (i : Fin 48) (e : TlbEntry) : (setTlb s i e).brRam = s.brRam := rfl
@[simp] theorem setTlb_wbuf (s : State) (i : Fin 48) (e : TlbEntry) : (setTlb s i e).wbuf = s.wbuf := rfl
@[simp] theorem setTlb_mem (s : State) (i : Fin 48) (e : TlbEntry) : (setTlb s i e).mem = s.mem := rfl
@[simp] theorem setTlb_codeStores (s : State) (i : Fin 48) (e : TlbEntry) : (setTlb s i e).codeStores = s.codeStores := rfl
@[simp] theorem setTlb_lateError (s : State) (i : Fin 48) (e : TlbEntry) : (setTlb s i e).lateError = s.lateError := rfl
@[simp] theorem setTlb_intPins (s : State) (i : Fin 48) (e : TlbEntry) : (setTlb s i e).intPins = s.intPins := rfl
@[simp] theorem setTlb_nmiPin (s : State) (i : Fin 48) (e : TlbEntry) : (setTlb s i e).nmiPin = s.nmiPin := rfl
@[simp] theorem setTlb_nmiPending (s : State) (i : Fin 48) (e : TlbEntry) : (setTlb s i e).nmiPending = s.nmiPending := rfl
@[simp] theorem setTlb_intHeld (s : State) (i : Fin 48) (e : TlbEntry) : (setTlb s i e).intHeld = s.intHeld := rfl
@[simp] theorem setTlb_timerRequest (s : State) (i : Fin 48) (e : TlbEntry) : (setTlb s i e).timerRequest = s.timerRequest := rfl
@[simp] theorem setTlb_sleeping (s : State) (i : Fin 48) (e : TlbEntry) : (setTlb s i e).sleeping = s.sleeping := rfl
@[simp] theorem setTlb_resetRequest (s : State) (i : Fin 48) (e : TlbEntry) : (setTlb s i e).resetRequest = s.resetRequest := rfl
@[simp] theorem setTlb_latches (s : State) (i : Fin 48) (e : TlbEntry) : (setTlb s i e).latches = s.latches := rfl
@[simp] theorem setTlb_conf (s : State) (i : Fin 48) (e : TlbEntry) : (setTlb s i e).conf = s.conf := rfl
@[simp] theorem setTlb_host (s : State) (i : Fin 48) (e : TlbEntry) : (setTlb s i e).host = s.host := rfl
@[simp] theorem setTlb_draws (s : State) (i : Fin 48) (e : TlbEntry) : (setTlb s i e).draws = s.draws := rfl

@[simp] theorem enqueue_gpr (s : State) (w : BusWrite) : (enqueue s w).gpr = s.gpr := rfl
@[simp] theorem enqueue_hi (s : State) (w : BusWrite) : (enqueue s w).hi = s.hi := rfl
@[simp] theorem enqueue_lo (s : State) (w : BusWrite) : (enqueue s w).lo = s.lo := rfl
@[simp] theorem enqueue_pc (s : State) (w : BusWrite) : (enqueue s w).pc = s.pc := rfl
@[simp] theorem enqueue_delay (s : State) (w : BusWrite) : (enqueue s w).delay = s.delay := rfl
@[simp] theorem enqueue_llbit (s : State) (w : BusWrite) : (enqueue s w).llbit = s.llbit := rfl
@[simp] theorem enqueue_fpr (s : State) (w : BusWrite) : (enqueue s w).fpr = s.fpr := rfl
@[simp] theorem enqueue_fprFormat (s : State) (w : BusWrite) : (enqueue s w).fprFormat = s.fprFormat := rfl
@[simp] theorem enqueue_fcsr (s : State) (w : BusWrite) : (enqueue s w).fcsr = s.fcsr := rfl
@[simp] theorem enqueue_cp0 (s : State) (w : BusWrite) : (enqueue s w).cp0 = s.cp0 := rfl
@[simp] theorem enqueue_tlb (s : State) (w : BusWrite) : (enqueue s w).tlb = s.tlb := rfl
@[simp] theorem enqueue_icache (s : State) (w : BusWrite) : (enqueue s w).icache = s.icache := rfl
@[simp] theorem enqueue_dcache (s : State) (w : BusWrite) : (enqueue s w).dcache = s.dcache := rfl
@[simp] theorem enqueue_brRam (s : State) (w : BusWrite) : (enqueue s w).brRam = s.brRam := rfl
@[simp] theorem enqueue_wbuf (s : State) (w : BusWrite) : (enqueue s w).wbuf = s.wbuf ++ [w] := rfl
@[simp] theorem enqueue_mem (s : State) (w : BusWrite) : (enqueue s w).mem = s.mem := rfl
@[simp] theorem enqueue_codeStores (s : State) (w : BusWrite) : (enqueue s w).codeStores = s.codeStores := rfl
@[simp] theorem enqueue_lateError (s : State) (w : BusWrite) : (enqueue s w).lateError = s.lateError := rfl
@[simp] theorem enqueue_intPins (s : State) (w : BusWrite) : (enqueue s w).intPins = s.intPins := rfl
@[simp] theorem enqueue_nmiPin (s : State) (w : BusWrite) : (enqueue s w).nmiPin = s.nmiPin := rfl
@[simp] theorem enqueue_nmiPending (s : State) (w : BusWrite) : (enqueue s w).nmiPending = s.nmiPending := rfl
@[simp] theorem enqueue_intHeld (s : State) (w : BusWrite) : (enqueue s w).intHeld = s.intHeld := rfl
@[simp] theorem enqueue_timerRequest (s : State) (w : BusWrite) : (enqueue s w).timerRequest = s.timerRequest := rfl
@[simp] theorem enqueue_sleeping (s : State) (w : BusWrite) : (enqueue s w).sleeping = s.sleeping := rfl
@[simp] theorem enqueue_resetRequest (s : State) (w : BusWrite) : (enqueue s w).resetRequest = s.resetRequest := rfl
@[simp] theorem enqueue_latches (s : State) (w : BusWrite) : (enqueue s w).latches = s.latches := rfl
@[simp] theorem enqueue_conf (s : State) (w : BusWrite) : (enqueue s w).conf = s.conf := rfl
@[simp] theorem enqueue_host (s : State) (w : BusWrite) : (enqueue s w).host = s.host := rfl
@[simp] theorem enqueue_draws (s : State) (w : BusWrite) : (enqueue s w).draws = s.draws := rfl

@[simp] theorem drain_gpr (n : Nat) (s : State) : (drain n s).gpr = s.gpr := rfl
@[simp] theorem drain_hi (n : Nat) (s : State) : (drain n s).hi = s.hi := rfl
@[simp] theorem drain_lo (n : Nat) (s : State) : (drain n s).lo = s.lo := rfl
@[simp] theorem drain_pc (n : Nat) (s : State) : (drain n s).pc = s.pc := rfl
@[simp] theorem drain_delay (n : Nat) (s : State) : (drain n s).delay = s.delay := rfl
@[simp] theorem drain_llbit (n : Nat) (s : State) : (drain n s).llbit = s.llbit := rfl
@[simp] theorem drain_fpr (n : Nat) (s : State) : (drain n s).fpr = s.fpr := rfl
@[simp] theorem drain_fprFormat (n : Nat) (s : State) : (drain n s).fprFormat = s.fprFormat := rfl
@[simp] theorem drain_fcsr (n : Nat) (s : State) : (drain n s).fcsr = s.fcsr := rfl
@[simp] theorem drain_cp0 (n : Nat) (s : State) : (drain n s).cp0 = s.cp0 := rfl
@[simp] theorem drain_tlb (n : Nat) (s : State) : (drain n s).tlb = s.tlb := rfl
@[simp] theorem drain_icache (n : Nat) (s : State) : (drain n s).icache = s.icache := rfl
@[simp] theorem drain_dcache (n : Nat) (s : State) : (drain n s).dcache = s.dcache := rfl
@[simp] theorem drain_brRam (n : Nat) (s : State) : (drain n s).brRam = s.brRam := rfl
@[simp] theorem drain_wbuf (n : Nat) (s : State) : (drain n s).wbuf = s.wbuf.drop n := rfl
@[simp] theorem drain_mem (n : Nat) (s : State) : (drain n s).mem = (s.wbuf.take n).foldl applyWrite s.mem := rfl
@[simp] theorem drain_codeStores (n : Nat) (s : State) : (drain n s).codeStores = s.codeStores := rfl
@[simp] theorem drain_lateError (n : Nat) (s : State) : (drain n s).lateError = s.lateError := rfl
@[simp] theorem drain_intPins (n : Nat) (s : State) : (drain n s).intPins = s.intPins := rfl
@[simp] theorem drain_nmiPin (n : Nat) (s : State) : (drain n s).nmiPin = s.nmiPin := rfl
@[simp] theorem drain_nmiPending (n : Nat) (s : State) : (drain n s).nmiPending = s.nmiPending := rfl
@[simp] theorem drain_intHeld (n : Nat) (s : State) : (drain n s).intHeld = s.intHeld := rfl
@[simp] theorem drain_timerRequest (n : Nat) (s : State) : (drain n s).timerRequest = s.timerRequest := rfl
@[simp] theorem drain_sleeping (n : Nat) (s : State) : (drain n s).sleeping = s.sleeping := rfl
@[simp] theorem drain_resetRequest (n : Nat) (s : State) : (drain n s).resetRequest = s.resetRequest := rfl
@[simp] theorem drain_latches (n : Nat) (s : State) : (drain n s).latches = s.latches := rfl
@[simp] theorem drain_conf (n : Nat) (s : State) : (drain n s).conf = s.conf := rfl
@[simp] theorem drain_host (n : Nat) (s : State) : (drain n s).host = s.host := rfl
@[simp] theorem drain_draws (n : Nat) (s : State) : (drain n s).draws = s.draws := rfl

@[simp] theorem drainAll_gpr (s : State) : (drainAll s).gpr = s.gpr := rfl
@[simp] theorem drainAll_hi (s : State) : (drainAll s).hi = s.hi := rfl
@[simp] theorem drainAll_lo (s : State) : (drainAll s).lo = s.lo := rfl
@[simp] theorem drainAll_pc (s : State) : (drainAll s).pc = s.pc := rfl
@[simp] theorem drainAll_delay (s : State) : (drainAll s).delay = s.delay := rfl
@[simp] theorem drainAll_llbit (s : State) : (drainAll s).llbit = s.llbit := rfl
@[simp] theorem drainAll_fpr (s : State) : (drainAll s).fpr = s.fpr := rfl
@[simp] theorem drainAll_fprFormat (s : State) : (drainAll s).fprFormat = s.fprFormat := rfl
@[simp] theorem drainAll_fcsr (s : State) : (drainAll s).fcsr = s.fcsr := rfl
@[simp] theorem drainAll_cp0 (s : State) : (drainAll s).cp0 = s.cp0 := rfl
@[simp] theorem drainAll_tlb (s : State) : (drainAll s).tlb = s.tlb := rfl
@[simp] theorem drainAll_icache (s : State) : (drainAll s).icache = s.icache := rfl
@[simp] theorem drainAll_dcache (s : State) : (drainAll s).dcache = s.dcache := rfl
@[simp] theorem drainAll_brRam (s : State) : (drainAll s).brRam = s.brRam := rfl
@[simp] theorem drainAll_wbuf (s : State) : (drainAll s).wbuf = [] := rfl
@[simp] theorem drainAll_mem (s : State) : (drainAll s).mem = memView s := rfl
@[simp] theorem drainAll_codeStores (s : State) : (drainAll s).codeStores = s.codeStores := rfl
@[simp] theorem drainAll_lateError (s : State) : (drainAll s).lateError = s.lateError := rfl
@[simp] theorem drainAll_intPins (s : State) : (drainAll s).intPins = s.intPins := rfl
@[simp] theorem drainAll_nmiPin (s : State) : (drainAll s).nmiPin = s.nmiPin := rfl
@[simp] theorem drainAll_nmiPending (s : State) : (drainAll s).nmiPending = s.nmiPending := rfl
@[simp] theorem drainAll_intHeld (s : State) : (drainAll s).intHeld = s.intHeld := rfl
@[simp] theorem drainAll_timerRequest (s : State) : (drainAll s).timerRequest = s.timerRequest := rfl
@[simp] theorem drainAll_sleeping (s : State) : (drainAll s).sleeping = s.sleeping := rfl
@[simp] theorem drainAll_resetRequest (s : State) : (drainAll s).resetRequest = s.resetRequest := rfl
@[simp] theorem drainAll_latches (s : State) : (drainAll s).latches = s.latches := rfl
@[simp] theorem drainAll_conf (s : State) : (drainAll s).conf = s.conf := rfl
@[simp] theorem drainAll_host (s : State) : (drainAll s).host = s.host := rfl
@[simp] theorem drainAll_draws (s : State) : (drainAll s).draws = s.draws := rfl

@[simp] theorem setICache_gpr (s : State) (c : Cache) : (setCache s .inst c).gpr = s.gpr := rfl
@[simp] theorem setICache_hi (s : State) (c : Cache) : (setCache s .inst c).hi = s.hi := rfl
@[simp] theorem setICache_lo (s : State) (c : Cache) : (setCache s .inst c).lo = s.lo := rfl
@[simp] theorem setICache_pc (s : State) (c : Cache) : (setCache s .inst c).pc = s.pc := rfl
@[simp] theorem setICache_delay (s : State) (c : Cache) : (setCache s .inst c).delay = s.delay := rfl
@[simp] theorem setICache_llbit (s : State) (c : Cache) : (setCache s .inst c).llbit = s.llbit := rfl
@[simp] theorem setICache_fpr (s : State) (c : Cache) : (setCache s .inst c).fpr = s.fpr := rfl
@[simp] theorem setICache_fprFormat (s : State) (c : Cache) : (setCache s .inst c).fprFormat = s.fprFormat := rfl
@[simp] theorem setICache_fcsr (s : State) (c : Cache) : (setCache s .inst c).fcsr = s.fcsr := rfl
@[simp] theorem setICache_cp0 (s : State) (c : Cache) : (setCache s .inst c).cp0 = s.cp0 := rfl
@[simp] theorem setICache_tlb (s : State) (c : Cache) : (setCache s .inst c).tlb = s.tlb := rfl
@[simp] theorem setICache_icache (s : State) (c : Cache) : (setCache s .inst c).icache = c := rfl
@[simp] theorem setICache_dcache (s : State) (c : Cache) : (setCache s .inst c).dcache = s.dcache := rfl
@[simp] theorem setICache_brRam (s : State) (c : Cache) : (setCache s .inst c).brRam = s.brRam := rfl
@[simp] theorem setICache_wbuf (s : State) (c : Cache) : (setCache s .inst c).wbuf = s.wbuf := rfl
@[simp] theorem setICache_mem (s : State) (c : Cache) : (setCache s .inst c).mem = s.mem := rfl
@[simp] theorem setICache_codeStores (s : State) (c : Cache) : (setCache s .inst c).codeStores = s.codeStores := rfl
@[simp] theorem setICache_lateError (s : State) (c : Cache) : (setCache s .inst c).lateError = s.lateError := rfl
@[simp] theorem setICache_intPins (s : State) (c : Cache) : (setCache s .inst c).intPins = s.intPins := rfl
@[simp] theorem setICache_nmiPin (s : State) (c : Cache) : (setCache s .inst c).nmiPin = s.nmiPin := rfl
@[simp] theorem setICache_nmiPending (s : State) (c : Cache) : (setCache s .inst c).nmiPending = s.nmiPending := rfl
@[simp] theorem setICache_intHeld (s : State) (c : Cache) : (setCache s .inst c).intHeld = s.intHeld := rfl
@[simp] theorem setICache_timerRequest (s : State) (c : Cache) : (setCache s .inst c).timerRequest = s.timerRequest := rfl
@[simp] theorem setICache_sleeping (s : State) (c : Cache) : (setCache s .inst c).sleeping = s.sleeping := rfl
@[simp] theorem setICache_resetRequest (s : State) (c : Cache) : (setCache s .inst c).resetRequest = s.resetRequest := rfl
@[simp] theorem setICache_latches (s : State) (c : Cache) : (setCache s .inst c).latches = s.latches := rfl
@[simp] theorem setICache_conf (s : State) (c : Cache) : (setCache s .inst c).conf = s.conf := rfl
@[simp] theorem setICache_host (s : State) (c : Cache) : (setCache s .inst c).host = s.host := rfl
@[simp] theorem setICache_draws (s : State) (c : Cache) : (setCache s .inst c).draws = s.draws := rfl

@[simp] theorem setDCache_gpr (s : State) (c : Cache) : (setCache s .data c).gpr = s.gpr := rfl
@[simp] theorem setDCache_hi (s : State) (c : Cache) : (setCache s .data c).hi = s.hi := rfl
@[simp] theorem setDCache_lo (s : State) (c : Cache) : (setCache s .data c).lo = s.lo := rfl
@[simp] theorem setDCache_pc (s : State) (c : Cache) : (setCache s .data c).pc = s.pc := rfl
@[simp] theorem setDCache_delay (s : State) (c : Cache) : (setCache s .data c).delay = s.delay := rfl
@[simp] theorem setDCache_llbit (s : State) (c : Cache) : (setCache s .data c).llbit = s.llbit := rfl
@[simp] theorem setDCache_fpr (s : State) (c : Cache) : (setCache s .data c).fpr = s.fpr := rfl
@[simp] theorem setDCache_fprFormat (s : State) (c : Cache) : (setCache s .data c).fprFormat = s.fprFormat := rfl
@[simp] theorem setDCache_fcsr (s : State) (c : Cache) : (setCache s .data c).fcsr = s.fcsr := rfl
@[simp] theorem setDCache_cp0 (s : State) (c : Cache) : (setCache s .data c).cp0 = s.cp0 := rfl
@[simp] theorem setDCache_tlb (s : State) (c : Cache) : (setCache s .data c).tlb = s.tlb := rfl
@[simp] theorem setDCache_icache (s : State) (c : Cache) : (setCache s .data c).icache = s.icache := rfl
@[simp] theorem setDCache_dcache (s : State) (c : Cache) : (setCache s .data c).dcache = c := rfl
@[simp] theorem setDCache_brRam (s : State) (c : Cache) : (setCache s .data c).brRam = s.brRam := rfl
@[simp] theorem setDCache_wbuf (s : State) (c : Cache) : (setCache s .data c).wbuf = s.wbuf := rfl
@[simp] theorem setDCache_mem (s : State) (c : Cache) : (setCache s .data c).mem = s.mem := rfl
@[simp] theorem setDCache_codeStores (s : State) (c : Cache) : (setCache s .data c).codeStores = s.codeStores := rfl
@[simp] theorem setDCache_lateError (s : State) (c : Cache) : (setCache s .data c).lateError = s.lateError := rfl
@[simp] theorem setDCache_intPins (s : State) (c : Cache) : (setCache s .data c).intPins = s.intPins := rfl
@[simp] theorem setDCache_nmiPin (s : State) (c : Cache) : (setCache s .data c).nmiPin = s.nmiPin := rfl
@[simp] theorem setDCache_nmiPending (s : State) (c : Cache) : (setCache s .data c).nmiPending = s.nmiPending := rfl
@[simp] theorem setDCache_intHeld (s : State) (c : Cache) : (setCache s .data c).intHeld = s.intHeld := rfl
@[simp] theorem setDCache_timerRequest (s : State) (c : Cache) : (setCache s .data c).timerRequest = s.timerRequest := rfl
@[simp] theorem setDCache_sleeping (s : State) (c : Cache) : (setCache s .data c).sleeping = s.sleeping := rfl
@[simp] theorem setDCache_resetRequest (s : State) (c : Cache) : (setCache s .data c).resetRequest = s.resetRequest := rfl
@[simp] theorem setDCache_latches (s : State) (c : Cache) : (setCache s .data c).latches = s.latches := rfl
@[simp] theorem setDCache_conf (s : State) (c : Cache) : (setCache s .data c).conf = s.conf := rfl
@[simp] theorem setDCache_host (s : State) (c : Cache) : (setCache s .data c).host = s.host := rfl
@[simp] theorem setDCache_draws (s : State) (c : Cache) : (setCache s .data c).draws = s.draws := rfl

@[simp] theorem takeException_gpr (e : Exc) (s : State) : (takeException e s).gpr = s.gpr := rfl
@[simp] theorem takeException_hi (e : Exc) (s : State) : (takeException e s).hi = s.hi := rfl
@[simp] theorem takeException_lo (e : Exc) (s : State) : (takeException e s).lo = s.lo := rfl
@[simp] theorem takeException_pc (e : Exc) (s : State) : (takeException e s).pc = vectorBase s + vectorOffset s e := rfl
@[simp] theorem takeException_delay (e : Exc) (s : State) : (takeException e s).delay = none := rfl
@[simp] theorem takeException_llbit (e : Exc) (s : State) : (takeException e s).llbit = s.llbit := rfl
@[simp] theorem takeException_fpr (e : Exc) (s : State) : (takeException e s).fpr = s.fpr := rfl
@[simp] theorem takeException_fprFormat (e : Exc) (s : State) : (takeException e s).fprFormat = s.fprFormat := rfl
@[simp] theorem takeException_fcsr (e : Exc) (s : State) : (takeException e s).fcsr = s.fcsr := rfl
@[simp] theorem takeException_tlb (e : Exc) (s : State) : (takeException e s).tlb = s.tlb := rfl
@[simp] theorem takeException_icache (e : Exc) (s : State) : (takeException e s).icache = s.icache := rfl
@[simp] theorem takeException_dcache (e : Exc) (s : State) : (takeException e s).dcache = s.dcache := rfl
@[simp] theorem takeException_brRam (e : Exc) (s : State) : (takeException e s).brRam = s.brRam := rfl
@[simp] theorem takeException_wbuf (e : Exc) (s : State) : (takeException e s).wbuf = s.wbuf := rfl
@[simp] theorem takeException_mem (e : Exc) (s : State) : (takeException e s).mem = s.mem := rfl
@[simp] theorem takeException_codeStores (e : Exc) (s : State) : (takeException e s).codeStores = s.codeStores := rfl
@[simp] theorem takeException_lateError (e : Exc) (s : State) : (takeException e s).lateError = if e == .int then s.lateError.map fun l => { l with regs := none } else none := rfl
@[simp] theorem takeException_intPins (e : Exc) (s : State) : (takeException e s).intPins = s.intPins := rfl
@[simp] theorem takeException_nmiPin (e : Exc) (s : State) : (takeException e s).nmiPin = s.nmiPin := rfl
@[simp] theorem takeException_nmiPending (e : Exc) (s : State) : (takeException e s).nmiPending = s.nmiPending := rfl
@[simp] theorem takeException_intHeld (e : Exc) (s : State) : (takeException e s).intHeld = s.intHeld := rfl
@[simp] theorem takeException_timerRequest (e : Exc) (s : State) : (takeException e s).timerRequest = s.timerRequest := rfl
@[simp] theorem takeException_sleeping (e : Exc) (s : State) : (takeException e s).sleeping = s.sleeping := rfl
@[simp] theorem takeException_resetRequest (e : Exc) (s : State) : (takeException e s).resetRequest = s.resetRequest := rfl
@[simp] theorem takeException_latches (e : Exc) (s : State) : (takeException e s).latches = s.latches := rfl
@[simp] theorem takeException_conf (e : Exc) (s : State) : (takeException e s).conf = s.conf := rfl
@[simp] theorem takeException_host (e : Exc) (s : State) : (takeException e s).host = s.host := rfl
@[simp] theorem takeException_draws (e : Exc) (s : State) : (takeException e s).draws = s.draws + 4 := rfl

@[simp] theorem branch_gpr (c : Bool) (a : Word) (s : State) : (branch c a s).gpr = s.gpr := rfl
@[simp] theorem branch_hi (c : Bool) (a : Word) (s : State) : (branch c a s).hi = s.hi := rfl
@[simp] theorem branch_lo (c : Bool) (a : Word) (s : State) : (branch c a s).lo = s.lo := rfl
@[simp] theorem branch_pc (c : Bool) (a : Word) (s : State) : (branch c a s).pc = s.pc + 4 := rfl
@[simp] theorem branch_delay (c : Bool) (a : Word) (s : State) : (branch c a s).delay = some (if c then a else s.pc + 8) := rfl
@[simp] theorem branch_llbit (c : Bool) (a : Word) (s : State) : (branch c a s).llbit = s.llbit := rfl
@[simp] theorem branch_fpr (c : Bool) (a : Word) (s : State) : (branch c a s).fpr = s.fpr := rfl
@[simp] theorem branch_fprFormat (c : Bool) (a : Word) (s : State) : (branch c a s).fprFormat = s.fprFormat := rfl
@[simp] theorem branch_fcsr (c : Bool) (a : Word) (s : State) : (branch c a s).fcsr = s.fcsr := rfl
@[simp] theorem branch_cp0 (c : Bool) (a : Word) (s : State) : (branch c a s).cp0 = s.cp0 := rfl
@[simp] theorem branch_tlb (c : Bool) (a : Word) (s : State) : (branch c a s).tlb = s.tlb := rfl
@[simp] theorem branch_icache (c : Bool) (a : Word) (s : State) : (branch c a s).icache = s.icache := rfl
@[simp] theorem branch_dcache (c : Bool) (a : Word) (s : State) : (branch c a s).dcache = s.dcache := rfl
@[simp] theorem branch_brRam (c : Bool) (a : Word) (s : State) : (branch c a s).brRam = s.brRam := rfl
@[simp] theorem branch_wbuf (c : Bool) (a : Word) (s : State) : (branch c a s).wbuf = s.wbuf := rfl
@[simp] theorem branch_mem (c : Bool) (a : Word) (s : State) : (branch c a s).mem = s.mem := rfl
@[simp] theorem branch_codeStores (c : Bool) (a : Word) (s : State) : (branch c a s).codeStores = s.codeStores := rfl
@[simp] theorem branch_lateError (c : Bool) (a : Word) (s : State) : (branch c a s).lateError = s.lateError := rfl
@[simp] theorem branch_intPins (c : Bool) (a : Word) (s : State) : (branch c a s).intPins = s.intPins := rfl
@[simp] theorem branch_nmiPin (c : Bool) (a : Word) (s : State) : (branch c a s).nmiPin = s.nmiPin := rfl
@[simp] theorem branch_nmiPending (c : Bool) (a : Word) (s : State) : (branch c a s).nmiPending = s.nmiPending := rfl
@[simp] theorem branch_intHeld (c : Bool) (a : Word) (s : State) : (branch c a s).intHeld = s.intHeld := rfl
@[simp] theorem branch_timerRequest (c : Bool) (a : Word) (s : State) : (branch c a s).timerRequest = s.timerRequest := rfl
@[simp] theorem branch_sleeping (c : Bool) (a : Word) (s : State) : (branch c a s).sleeping = s.sleeping := rfl
@[simp] theorem branch_resetRequest (c : Bool) (a : Word) (s : State) : (branch c a s).resetRequest = s.resetRequest := rfl
@[simp] theorem branch_latches (c : Bool) (a : Word) (s : State) : (branch c a s).latches = s.latches := rfl
@[simp] theorem branch_conf (c : Bool) (a : Word) (s : State) : (branch c a s).conf = s.conf := rfl
@[simp] theorem branch_host (c : Bool) (a : Word) (s : State) : (branch c a s).host = s.host := rfl
@[simp] theorem branch_draws (c : Bool) (a : Word) (s : State) : (branch c a s).draws = s.draws := rfl

@[simp] theorem specialEntry_gpr (sr nmi : Bool) (s : State) : (specialEntry sr nmi s).gpr = s.gpr := rfl
@[simp] theorem specialEntry_hi (sr nmi : Bool) (s : State) : (specialEntry sr nmi s).hi = s.hi := rfl
@[simp] theorem specialEntry_lo (sr nmi : Bool) (s : State) : (specialEntry sr nmi s).lo = s.lo := rfl
@[simp] theorem specialEntry_pc (sr nmi : Bool) (s : State) : (specialEntry sr nmi s).pc = s.conf.resetVector := rfl
@[simp] theorem specialEntry_delay (sr nmi : Bool) (s : State) : (specialEntry sr nmi s).delay = none := rfl
@[simp] theorem specialEntry_llbit (sr nmi : Bool) (s : State) : (specialEntry sr nmi s).llbit = s.llbit := rfl
@[simp] theorem specialEntry_fpr (sr nmi : Bool) (s : State) : (specialEntry sr nmi s).fpr = s.fpr := rfl
@[simp] theorem specialEntry_fprFormat (sr nmi : Bool) (s : State) : (specialEntry sr nmi s).fprFormat = s.fprFormat := rfl
@[simp] theorem specialEntry_fcsr (sr nmi : Bool) (s : State) : (specialEntry sr nmi s).fcsr = s.fcsr := rfl
@[simp] theorem specialEntry_tlb (sr nmi : Bool) (s : State) : (specialEntry sr nmi s).tlb = s.tlb := rfl
@[simp] theorem specialEntry_icache (sr nmi : Bool) (s : State) : (specialEntry sr nmi s).icache = s.icache := rfl
@[simp] theorem specialEntry_dcache (sr nmi : Bool) (s : State) : (specialEntry sr nmi s).dcache = s.dcache := rfl
@[simp] theorem specialEntry_brRam (sr nmi : Bool) (s : State) : (specialEntry sr nmi s).brRam = s.brRam := rfl
@[simp] theorem specialEntry_wbuf (sr nmi : Bool) (s : State) : (specialEntry sr nmi s).wbuf = s.wbuf := rfl
@[simp] theorem specialEntry_mem (sr nmi : Bool) (s : State) : (specialEntry sr nmi s).mem = s.mem := rfl
@[simp] theorem specialEntry_codeStores (sr nmi : Bool) (s : State) : (specialEntry sr nmi s).codeStores = s.codeStores := rfl
@[simp] theorem specialEntry_lateError (sr nmi : Bool) (s : State) : (specialEntry sr nmi s).lateError = s.lateError := rfl
@[simp] theorem specialEntry_intPins (sr nmi : Bool) (s : State) : (specialEntry sr nmi s).intPins = s.intPins := rfl
@[simp] theorem specialEntry_nmiPin (sr nmi : Bool) (s : State) : (specialEntry sr nmi s).nmiPin = s.nmiPin := rfl
@[simp] theorem specialEntry_nmiPending (sr nmi : Bool) (s : State) : (specialEntry sr nmi s).nmiPending = s.nmiPending := rfl
@[simp] theorem specialEntry_intHeld (sr nmi : Bool) (s : State) : (specialEntry sr nmi s).intHeld = s.intHeld := rfl
@[simp] theorem specialEntry_timerRequest (sr nmi : Bool) (s : State) : (specialEntry sr nmi s).timerRequest = s.timerRequest := rfl
@[simp] theorem specialEntry_sleeping (sr nmi : Bool) (s : State) : (specialEntry sr nmi s).sleeping = false := rfl
@[simp] theorem specialEntry_resetRequest (sr nmi : Bool) (s : State) : (specialEntry sr nmi s).resetRequest = s.resetRequest := rfl
@[simp] theorem specialEntry_latches (sr nmi : Bool) (s : State) : (specialEntry sr nmi s).latches = s.latches := rfl
@[simp] theorem specialEntry_conf (sr nmi : Bool) (s : State) : (specialEntry sr nmi s).conf = s.conf := rfl
@[simp] theorem specialEntry_host (sr nmi : Bool) (s : State) : (specialEntry sr nmi s).host = s.host := rfl
@[simp] theorem specialEntry_draws (sr nmi : Bool) (s : State) : (specialEntry sr nmi s).draws = s.draws := rfl

@[simp] theorem clearTlb_gpr (s : State) : (clearTlb s).gpr = s.gpr := rfl
@[simp] theorem clearTlb_hi (s : State) : (clearTlb s).hi = s.hi := rfl
@[simp] theorem clearTlb_lo (s : State) : (clearTlb s).lo = s.lo := rfl
@[simp] theorem clearTlb_pc (s : State) : (clearTlb s).pc = s.pc := rfl
@[simp] theorem clearTlb_delay (s : State) : (clearTlb s).delay = s.delay := rfl
@[simp] theorem clearTlb_llbit (s : State) : (clearTlb s).llbit = s.llbit := rfl
@[simp] theorem clearTlb_fpr (s : State) : (clearTlb s).fpr = s.fpr := rfl
@[simp] theorem clearTlb_fprFormat (s : State) : (clearTlb s).fprFormat = s.fprFormat := rfl
@[simp] theorem clearTlb_fcsr (s : State) : (clearTlb s).fcsr = s.fcsr := rfl
@[simp] theorem clearTlb_cp0 (s : State) : (clearTlb s).cp0 = s.cp0 := rfl
@[simp] theorem clearTlb_icache (s : State) : (clearTlb s).icache = s.icache := rfl
@[simp] theorem clearTlb_dcache (s : State) : (clearTlb s).dcache = s.dcache := rfl
@[simp] theorem clearTlb_brRam (s : State) : (clearTlb s).brRam = s.brRam := rfl
@[simp] theorem clearTlb_wbuf (s : State) : (clearTlb s).wbuf = s.wbuf := rfl
@[simp] theorem clearTlb_mem (s : State) : (clearTlb s).mem = s.mem := rfl
@[simp] theorem clearTlb_codeStores (s : State) : (clearTlb s).codeStores = s.codeStores := rfl
@[simp] theorem clearTlb_lateError (s : State) : (clearTlb s).lateError = s.lateError := rfl
@[simp] theorem clearTlb_intPins (s : State) : (clearTlb s).intPins = s.intPins := rfl
@[simp] theorem clearTlb_nmiPin (s : State) : (clearTlb s).nmiPin = s.nmiPin := rfl
@[simp] theorem clearTlb_nmiPending (s : State) : (clearTlb s).nmiPending = s.nmiPending := rfl
@[simp] theorem clearTlb_intHeld (s : State) : (clearTlb s).intHeld = s.intHeld := rfl
@[simp] theorem clearTlb_timerRequest (s : State) : (clearTlb s).timerRequest = s.timerRequest := rfl
@[simp] theorem clearTlb_sleeping (s : State) : (clearTlb s).sleeping = s.sleeping := rfl
@[simp] theorem clearTlb_resetRequest (s : State) : (clearTlb s).resetRequest = s.resetRequest := rfl
@[simp] theorem clearTlb_latches (s : State) : (clearTlb s).latches = s.latches := rfl
@[simp] theorem clearTlb_conf (s : State) : (clearTlb s).conf = s.conf := rfl
@[simp] theorem clearTlb_host (s : State) : (clearTlb s).host = s.host := rfl
@[simp] theorem clearTlb_draws (s : State) : (clearTlb s).draws = s.draws := rfl

@[simp] theorem loadEntry_gpr (s : State) (e : TlbEntry) : (loadEntry s e).gpr = s.gpr := rfl
@[simp] theorem loadEntry_hi (s : State) (e : TlbEntry) : (loadEntry s e).hi = s.hi := rfl
@[simp] theorem loadEntry_lo (s : State) (e : TlbEntry) : (loadEntry s e).lo = s.lo := rfl
@[simp] theorem loadEntry_pc (s : State) (e : TlbEntry) : (loadEntry s e).pc = s.pc := rfl
@[simp] theorem loadEntry_delay (s : State) (e : TlbEntry) : (loadEntry s e).delay = s.delay := rfl
@[simp] theorem loadEntry_llbit (s : State) (e : TlbEntry) : (loadEntry s e).llbit = s.llbit := rfl
@[simp] theorem loadEntry_fpr (s : State) (e : TlbEntry) : (loadEntry s e).fpr = s.fpr := rfl
@[simp] theorem loadEntry_fprFormat (s : State) (e : TlbEntry) : (loadEntry s e).fprFormat = s.fprFormat := rfl
@[simp] theorem loadEntry_fcsr (s : State) (e : TlbEntry) : (loadEntry s e).fcsr = s.fcsr := rfl
@[simp] theorem loadEntry_tlb (s : State) (e : TlbEntry) : (loadEntry s e).tlb = s.tlb := rfl
@[simp] theorem loadEntry_icache (s : State) (e : TlbEntry) : (loadEntry s e).icache = s.icache := rfl
@[simp] theorem loadEntry_dcache (s : State) (e : TlbEntry) : (loadEntry s e).dcache = s.dcache := rfl
@[simp] theorem loadEntry_brRam (s : State) (e : TlbEntry) : (loadEntry s e).brRam = s.brRam := rfl
@[simp] theorem loadEntry_wbuf (s : State) (e : TlbEntry) : (loadEntry s e).wbuf = s.wbuf := rfl
@[simp] theorem loadEntry_mem (s : State) (e : TlbEntry) : (loadEntry s e).mem = s.mem := rfl
@[simp] theorem loadEntry_codeStores (s : State) (e : TlbEntry) : (loadEntry s e).codeStores = s.codeStores := rfl
@[simp] theorem loadEntry_lateError (s : State) (e : TlbEntry) : (loadEntry s e).lateError = s.lateError := rfl
@[simp] theorem loadEntry_intPins (s : State) (e : TlbEntry) : (loadEntry s e).intPins = s.intPins := rfl
@[simp] theorem loadEntry_nmiPin (s : State) (e : TlbEntry) : (loadEntry s e).nmiPin = s.nmiPin := rfl
@[simp] theorem loadEntry_nmiPending (s : State) (e : TlbEntry) : (loadEntry s e).nmiPending = s.nmiPending := rfl
@[simp] theorem loadEntry_intHeld (s : State) (e : TlbEntry) : (loadEntry s e).intHeld = s.intHeld := rfl
@[simp] theorem loadEntry_timerRequest (s : State) (e : TlbEntry) : (loadEntry s e).timerRequest = s.timerRequest := rfl
@[simp] theorem loadEntry_sleeping (s : State) (e : TlbEntry) : (loadEntry s e).sleeping = s.sleeping := rfl
@[simp] theorem loadEntry_resetRequest (s : State) (e : TlbEntry) : (loadEntry s e).resetRequest = s.resetRequest := rfl
@[simp] theorem loadEntry_latches (s : State) (e : TlbEntry) : (loadEntry s e).latches = s.latches := rfl
@[simp] theorem loadEntry_conf (s : State) (e : TlbEntry) : (loadEntry s e).conf = s.conf := rfl
@[simp] theorem loadEntry_host (s : State) (e : TlbEntry) : (loadEntry s e).host = s.host := rfl
@[simp] theorem loadEntry_draws (s : State) (e : TlbEntry) : (loadEntry s e).draws = s.draws := rfl

@[simp] theorem gprWrite_hi (s : State) (r : RegNum) (v : Word) : (gprWrite s r v).hi = s.hi := by
  unfold gprWrite; split <;> rfl
@[simp] theorem gprWrite_lo (s : State) (r : RegNum) (v : Word) : (gprWrite s r v).lo = s.lo := by
  unfold gprWrite; split <;> rfl
@[simp] theorem gprWrite_pc (s : State) (r : RegNum) (v : Word) : (gprWrite s r v).pc = s.pc := by
  unfold gprWrite; split <;> rfl
@[simp] theorem gprWrite_delay (s : State) (r : RegNum) (v : Word) : (gprWrite s r v).delay = s.delay := by
  unfold gprWrite; split <;> rfl
@[simp] theorem gprWrite_llbit (s : State) (r : RegNum) (v : Word) : (gprWrite s r v).llbit = s.llbit := by
  unfold gprWrite; split <;> rfl
@[simp] theorem gprWrite_fpr (s : State) (r : RegNum) (v : Word) : (gprWrite s r v).fpr = s.fpr := by
  unfold gprWrite; split <;> rfl
@[simp] theorem gprWrite_fprFormat (s : State) (r : RegNum) (v : Word) : (gprWrite s r v).fprFormat = s.fprFormat := by
  unfold gprWrite; split <;> rfl
@[simp] theorem gprWrite_fcsr (s : State) (r : RegNum) (v : Word) : (gprWrite s r v).fcsr = s.fcsr := by
  unfold gprWrite; split <;> rfl
@[simp] theorem gprWrite_cp0 (s : State) (r : RegNum) (v : Word) : (gprWrite s r v).cp0 = s.cp0 := by
  unfold gprWrite; split <;> rfl
@[simp] theorem gprWrite_tlb (s : State) (r : RegNum) (v : Word) : (gprWrite s r v).tlb = s.tlb := by
  unfold gprWrite; split <;> rfl
@[simp] theorem gprWrite_icache (s : State) (r : RegNum) (v : Word) : (gprWrite s r v).icache = s.icache := by
  unfold gprWrite; split <;> rfl
@[simp] theorem gprWrite_dcache (s : State) (r : RegNum) (v : Word) : (gprWrite s r v).dcache = s.dcache := by
  unfold gprWrite; split <;> rfl
@[simp] theorem gprWrite_brRam (s : State) (r : RegNum) (v : Word) : (gprWrite s r v).brRam = s.brRam := by
  unfold gprWrite; split <;> rfl
@[simp] theorem gprWrite_wbuf (s : State) (r : RegNum) (v : Word) : (gprWrite s r v).wbuf = s.wbuf := by
  unfold gprWrite; split <;> rfl
@[simp] theorem gprWrite_mem (s : State) (r : RegNum) (v : Word) : (gprWrite s r v).mem = s.mem := by
  unfold gprWrite; split <;> rfl
@[simp] theorem gprWrite_codeStores (s : State) (r : RegNum) (v : Word) : (gprWrite s r v).codeStores = s.codeStores := by
  unfold gprWrite; split <;> rfl
@[simp] theorem gprWrite_lateError (s : State) (r : RegNum) (v : Word) : (gprWrite s r v).lateError = s.lateError := by
  unfold gprWrite; split <;> rfl
@[simp] theorem gprWrite_intPins (s : State) (r : RegNum) (v : Word) : (gprWrite s r v).intPins = s.intPins := by
  unfold gprWrite; split <;> rfl
@[simp] theorem gprWrite_nmiPin (s : State) (r : RegNum) (v : Word) : (gprWrite s r v).nmiPin = s.nmiPin := by
  unfold gprWrite; split <;> rfl
@[simp] theorem gprWrite_nmiPending (s : State) (r : RegNum) (v : Word) : (gprWrite s r v).nmiPending = s.nmiPending := by
  unfold gprWrite; split <;> rfl
@[simp] theorem gprWrite_intHeld (s : State) (r : RegNum) (v : Word) : (gprWrite s r v).intHeld = s.intHeld := by
  unfold gprWrite; split <;> rfl
@[simp] theorem gprWrite_timerRequest (s : State) (r : RegNum) (v : Word) : (gprWrite s r v).timerRequest = s.timerRequest := by
  unfold gprWrite; split <;> rfl
@[simp] theorem gprWrite_sleeping (s : State) (r : RegNum) (v : Word) : (gprWrite s r v).sleeping = s.sleeping := by
  unfold gprWrite; split <;> rfl
@[simp] theorem gprWrite_resetRequest (s : State) (r : RegNum) (v : Word) : (gprWrite s r v).resetRequest = s.resetRequest := by
  unfold gprWrite; split <;> rfl
@[simp] theorem gprWrite_latches (s : State) (r : RegNum) (v : Word) : (gprWrite s r v).latches = s.latches := by
  unfold gprWrite; split <;> rfl
@[simp] theorem gprWrite_conf (s : State) (r : RegNum) (v : Word) : (gprWrite s r v).conf = s.conf := by
  unfold gprWrite; split <;> rfl
@[simp] theorem gprWrite_host (s : State) (r : RegNum) (v : Word) : (gprWrite s r v).host = s.host := by
  unfold gprWrite; split <;> rfl
@[simp] theorem gprWrite_draws (s : State) (r : RegNum) (v : Word) : (gprWrite s r v).draws = s.draws := by
  unfold gprWrite; split <;> rfl

@[simp] theorem advance_gpr (s : State) : (advance s).gpr = s.gpr := by
  unfold advance; split <;> simp_all
@[simp] theorem advance_hi (s : State) : (advance s).hi = s.hi := by
  unfold advance; split <;> simp_all
@[simp] theorem advance_lo (s : State) : (advance s).lo = s.lo := by
  unfold advance; split <;> simp_all
@[simp] theorem advance_delay (s : State) : (advance s).delay = none := by
  unfold advance; split <;> simp_all
@[simp] theorem advance_llbit (s : State) : (advance s).llbit = s.llbit := by
  unfold advance; split <;> simp_all
@[simp] theorem advance_fpr (s : State) : (advance s).fpr = s.fpr := by
  unfold advance; split <;> simp_all
@[simp] theorem advance_fprFormat (s : State) : (advance s).fprFormat = s.fprFormat := by
  unfold advance; split <;> simp_all
@[simp] theorem advance_fcsr (s : State) : (advance s).fcsr = s.fcsr := by
  unfold advance; split <;> simp_all
@[simp] theorem advance_cp0 (s : State) : (advance s).cp0 = s.cp0 := by
  unfold advance; split <;> simp_all
@[simp] theorem advance_tlb (s : State) : (advance s).tlb = s.tlb := by
  unfold advance; split <;> simp_all
@[simp] theorem advance_icache (s : State) : (advance s).icache = s.icache := by
  unfold advance; split <;> simp_all
@[simp] theorem advance_dcache (s : State) : (advance s).dcache = s.dcache := by
  unfold advance; split <;> simp_all
@[simp] theorem advance_brRam (s : State) : (advance s).brRam = s.brRam := by
  unfold advance; split <;> simp_all
@[simp] theorem advance_wbuf (s : State) : (advance s).wbuf = s.wbuf := by
  unfold advance; split <;> simp_all
@[simp] theorem advance_mem (s : State) : (advance s).mem = s.mem := by
  unfold advance; split <;> simp_all
@[simp] theorem advance_codeStores (s : State) : (advance s).codeStores = s.codeStores := by
  unfold advance; split <;> simp_all
@[simp] theorem advance_lateError (s : State) : (advance s).lateError = s.lateError := by
  unfold advance; split <;> simp_all
@[simp] theorem advance_intPins (s : State) : (advance s).intPins = s.intPins := by
  unfold advance; split <;> simp_all
@[simp] theorem advance_nmiPin (s : State) : (advance s).nmiPin = s.nmiPin := by
  unfold advance; split <;> simp_all
@[simp] theorem advance_nmiPending (s : State) : (advance s).nmiPending = s.nmiPending := by
  unfold advance; split <;> simp_all
@[simp] theorem advance_intHeld (s : State) : (advance s).intHeld = s.intHeld := by
  unfold advance; split <;> simp_all
@[simp] theorem advance_timerRequest (s : State) : (advance s).timerRequest = s.timerRequest := by
  unfold advance; split <;> simp_all
@[simp] theorem advance_sleeping (s : State) : (advance s).sleeping = s.sleeping := by
  unfold advance; split <;> simp_all
@[simp] theorem advance_resetRequest (s : State) : (advance s).resetRequest = s.resetRequest := by
  unfold advance; split <;> simp_all
@[simp] theorem advance_latches (s : State) : (advance s).latches = s.latches := by
  unfold advance; split <;> simp_all
@[simp] theorem advance_conf (s : State) : (advance s).conf = s.conf := by
  unfold advance; split <;> simp_all
@[simp] theorem advance_host (s : State) : (advance s).host = s.host := by
  unfold advance; split <;> simp_all
@[simp] theorem advance_draws (s : State) : (advance s).draws = s.draws := by
  unfold advance; split <;> simp_all

@[simp] theorem waitForWrites_gpr (s : State) : (waitForWrites s).gpr = s.gpr := by
  unfold waitForWrites; split <;> rfl
@[simp] theorem waitForWrites_hi (s : State) : (waitForWrites s).hi = s.hi := by
  unfold waitForWrites; split <;> rfl
@[simp] theorem waitForWrites_lo (s : State) : (waitForWrites s).lo = s.lo := by
  unfold waitForWrites; split <;> rfl
@[simp] theorem waitForWrites_pc (s : State) : (waitForWrites s).pc = s.pc := by
  unfold waitForWrites; split <;> rfl
@[simp] theorem waitForWrites_delay (s : State) : (waitForWrites s).delay = s.delay := by
  unfold waitForWrites; split <;> rfl
@[simp] theorem waitForWrites_llbit (s : State) : (waitForWrites s).llbit = s.llbit := by
  unfold waitForWrites; split <;> rfl
@[simp] theorem waitForWrites_fpr (s : State) : (waitForWrites s).fpr = s.fpr := by
  unfold waitForWrites; split <;> rfl
@[simp] theorem waitForWrites_fprFormat (s : State) : (waitForWrites s).fprFormat = s.fprFormat := by
  unfold waitForWrites; split <;> rfl
@[simp] theorem waitForWrites_fcsr (s : State) : (waitForWrites s).fcsr = s.fcsr := by
  unfold waitForWrites; split <;> rfl
@[simp] theorem waitForWrites_cp0 (s : State) : (waitForWrites s).cp0 = s.cp0 := by
  unfold waitForWrites; split <;> rfl
@[simp] theorem waitForWrites_tlb (s : State) : (waitForWrites s).tlb = s.tlb := by
  unfold waitForWrites; split <;> rfl
@[simp] theorem waitForWrites_icache (s : State) : (waitForWrites s).icache = s.icache := by
  unfold waitForWrites; split <;> rfl
@[simp] theorem waitForWrites_dcache (s : State) : (waitForWrites s).dcache = s.dcache := by
  unfold waitForWrites; split <;> rfl
@[simp] theorem waitForWrites_brRam (s : State) : (waitForWrites s).brRam = s.brRam := by
  unfold waitForWrites; split <;> rfl
@[simp] theorem waitForWrites_codeStores (s : State) : (waitForWrites s).codeStores = s.codeStores := by
  unfold waitForWrites; split <;> rfl
@[simp] theorem waitForWrites_lateError (s : State) : (waitForWrites s).lateError = s.lateError := by
  unfold waitForWrites; split <;> rfl
@[simp] theorem waitForWrites_intPins (s : State) : (waitForWrites s).intPins = s.intPins := by
  unfold waitForWrites; split <;> rfl
@[simp] theorem waitForWrites_nmiPin (s : State) : (waitForWrites s).nmiPin = s.nmiPin := by
  unfold waitForWrites; split <;> rfl
@[simp] theorem waitForWrites_nmiPending (s : State) : (waitForWrites s).nmiPending = s.nmiPending := by
  unfold waitForWrites; split <;> rfl
@[simp] theorem waitForWrites_intHeld (s : State) : (waitForWrites s).intHeld = s.intHeld := by
  unfold waitForWrites; split <;> rfl
@[simp] theorem waitForWrites_timerRequest (s : State) : (waitForWrites s).timerRequest = s.timerRequest := by
  unfold waitForWrites; split <;> rfl
@[simp] theorem waitForWrites_sleeping (s : State) : (waitForWrites s).sleeping = s.sleeping := by
  unfold waitForWrites; split <;> rfl
@[simp] theorem waitForWrites_resetRequest (s : State) : (waitForWrites s).resetRequest = s.resetRequest := by
  unfold waitForWrites; split <;> rfl
@[simp] theorem waitForWrites_latches (s : State) : (waitForWrites s).latches = s.latches := by
  unfold waitForWrites; split <;> rfl
@[simp] theorem waitForWrites_conf (s : State) : (waitForWrites s).conf = s.conf := by
  unfold waitForWrites; split <;> rfl
@[simp] theorem waitForWrites_host (s : State) : (waitForWrites s).host = s.host := by
  unfold waitForWrites; split <;> rfl
@[simp] theorem waitForWrites_draws (s : State) : (waitForWrites s).draws = s.draws := by
  unfold waitForWrites; split <;> rfl

@[simp] theorem noteSync_gpr (s : State) : (noteSync s).gpr = s.gpr := rfl
@[simp] theorem noteSync_hi (s : State) : (noteSync s).hi = s.hi := rfl
@[simp] theorem noteSync_lo (s : State) : (noteSync s).lo = s.lo := rfl
@[simp] theorem noteSync_pc (s : State) : (noteSync s).pc = s.pc := rfl
@[simp] theorem noteSync_delay (s : State) : (noteSync s).delay = s.delay := rfl
@[simp] theorem noteSync_llbit (s : State) : (noteSync s).llbit = s.llbit := rfl
@[simp] theorem noteSync_fpr (s : State) : (noteSync s).fpr = s.fpr := rfl
@[simp] theorem noteSync_fprFormat (s : State) : (noteSync s).fprFormat = s.fprFormat := rfl
@[simp] theorem noteSync_fcsr (s : State) : (noteSync s).fcsr = s.fcsr := rfl
@[simp] theorem noteSync_cp0 (s : State) : (noteSync s).cp0 = s.cp0 := rfl
@[simp] theorem noteSync_tlb (s : State) : (noteSync s).tlb = s.tlb := rfl
@[simp] theorem noteSync_icache (s : State) : (noteSync s).icache = s.icache := rfl
@[simp] theorem noteSync_dcache (s : State) : (noteSync s).dcache = s.dcache := rfl
@[simp] theorem noteSync_brRam (s : State) : (noteSync s).brRam = s.brRam := rfl
@[simp] theorem noteSync_wbuf (s : State) : (noteSync s).wbuf = s.wbuf := rfl
@[simp] theorem noteSync_mem (s : State) : (noteSync s).mem = s.mem := rfl
@[simp] theorem noteSync_lateError (s : State) : (noteSync s).lateError = s.lateError := rfl
@[simp] theorem noteSync_intPins (s : State) : (noteSync s).intPins = s.intPins := rfl
@[simp] theorem noteSync_nmiPin (s : State) : (noteSync s).nmiPin = s.nmiPin := rfl
@[simp] theorem noteSync_nmiPending (s : State) : (noteSync s).nmiPending = s.nmiPending := rfl
@[simp] theorem noteSync_intHeld (s : State) : (noteSync s).intHeld = s.intHeld := rfl
@[simp] theorem noteSync_timerRequest (s : State) : (noteSync s).timerRequest = s.timerRequest := rfl
@[simp] theorem noteSync_sleeping (s : State) : (noteSync s).sleeping = s.sleeping := rfl
@[simp] theorem noteSync_resetRequest (s : State) : (noteSync s).resetRequest = s.resetRequest := rfl
@[simp] theorem noteSync_latches (s : State) : (noteSync s).latches = s.latches := rfl
@[simp] theorem noteSync_conf (s : State) : (noteSync s).conf = s.conf := rfl
@[simp] theorem noteSync_host (s : State) : (noteSync s).host = s.host := rfl
@[simp] theorem noteSync_draws (s : State) : (noteSync s).draws = s.draws := rfl

@[simp] theorem noteJump_gpr (s : State) : (noteJump s).gpr = s.gpr := rfl
@[simp] theorem noteJump_hi (s : State) : (noteJump s).hi = s.hi := rfl
@[simp] theorem noteJump_lo (s : State) : (noteJump s).lo = s.lo := rfl
@[simp] theorem noteJump_pc (s : State) : (noteJump s).pc = s.pc := rfl
@[simp] theorem noteJump_delay (s : State) : (noteJump s).delay = s.delay := rfl
@[simp] theorem noteJump_llbit (s : State) : (noteJump s).llbit = s.llbit := rfl
@[simp] theorem noteJump_fpr (s : State) : (noteJump s).fpr = s.fpr := rfl
@[simp] theorem noteJump_fprFormat (s : State) : (noteJump s).fprFormat = s.fprFormat := rfl
@[simp] theorem noteJump_fcsr (s : State) : (noteJump s).fcsr = s.fcsr := rfl
@[simp] theorem noteJump_cp0 (s : State) : (noteJump s).cp0 = s.cp0 := rfl
@[simp] theorem noteJump_tlb (s : State) : (noteJump s).tlb = s.tlb := rfl
@[simp] theorem noteJump_icache (s : State) : (noteJump s).icache = s.icache := rfl
@[simp] theorem noteJump_dcache (s : State) : (noteJump s).dcache = s.dcache := rfl
@[simp] theorem noteJump_brRam (s : State) : (noteJump s).brRam = s.brRam := rfl
@[simp] theorem noteJump_wbuf (s : State) : (noteJump s).wbuf = s.wbuf := rfl
@[simp] theorem noteJump_mem (s : State) : (noteJump s).mem = s.mem := rfl
@[simp] theorem noteJump_lateError (s : State) : (noteJump s).lateError = s.lateError := rfl
@[simp] theorem noteJump_intPins (s : State) : (noteJump s).intPins = s.intPins := rfl
@[simp] theorem noteJump_nmiPin (s : State) : (noteJump s).nmiPin = s.nmiPin := rfl
@[simp] theorem noteJump_nmiPending (s : State) : (noteJump s).nmiPending = s.nmiPending := rfl
@[simp] theorem noteJump_intHeld (s : State) : (noteJump s).intHeld = s.intHeld := rfl
@[simp] theorem noteJump_timerRequest (s : State) : (noteJump s).timerRequest = s.timerRequest := rfl
@[simp] theorem noteJump_sleeping (s : State) : (noteJump s).sleeping = s.sleeping := rfl
@[simp] theorem noteJump_resetRequest (s : State) : (noteJump s).resetRequest = s.resetRequest := rfl
@[simp] theorem noteJump_latches (s : State) : (noteJump s).latches = s.latches := rfl
@[simp] theorem noteJump_conf (s : State) : (noteJump s).conf = s.conf := rfl
@[simp] theorem noteJump_host (s : State) : (noteJump s).host = s.host := rfl
@[simp] theorem noteJump_draws (s : State) : (noteJump s).draws = s.draws := rfl

@[simp] theorem noteStore_gpr (s : State) (pa : PAddr) (k n : Nat) : (noteStore s pa k n).gpr = s.gpr := rfl
@[simp] theorem noteStore_hi (s : State) (pa : PAddr) (k n : Nat) : (noteStore s pa k n).hi = s.hi := rfl
@[simp] theorem noteStore_lo (s : State) (pa : PAddr) (k n : Nat) : (noteStore s pa k n).lo = s.lo := rfl
@[simp] theorem noteStore_pc (s : State) (pa : PAddr) (k n : Nat) : (noteStore s pa k n).pc = s.pc := rfl
@[simp] theorem noteStore_delay (s : State) (pa : PAddr) (k n : Nat) : (noteStore s pa k n).delay = s.delay := rfl
@[simp] theorem noteStore_llbit (s : State) (pa : PAddr) (k n : Nat) : (noteStore s pa k n).llbit = s.llbit := rfl
@[simp] theorem noteStore_fpr (s : State) (pa : PAddr) (k n : Nat) : (noteStore s pa k n).fpr = s.fpr := rfl
@[simp] theorem noteStore_fprFormat (s : State) (pa : PAddr) (k n : Nat) : (noteStore s pa k n).fprFormat = s.fprFormat := rfl
@[simp] theorem noteStore_fcsr (s : State) (pa : PAddr) (k n : Nat) : (noteStore s pa k n).fcsr = s.fcsr := rfl
@[simp] theorem noteStore_cp0 (s : State) (pa : PAddr) (k n : Nat) : (noteStore s pa k n).cp0 = s.cp0 := rfl
@[simp] theorem noteStore_tlb (s : State) (pa : PAddr) (k n : Nat) : (noteStore s pa k n).tlb = s.tlb := rfl
@[simp] theorem noteStore_icache (s : State) (pa : PAddr) (k n : Nat) : (noteStore s pa k n).icache = s.icache := rfl
@[simp] theorem noteStore_dcache (s : State) (pa : PAddr) (k n : Nat) : (noteStore s pa k n).dcache = s.dcache := rfl
@[simp] theorem noteStore_brRam (s : State) (pa : PAddr) (k n : Nat) : (noteStore s pa k n).brRam = s.brRam := rfl
@[simp] theorem noteStore_wbuf (s : State) (pa : PAddr) (k n : Nat) : (noteStore s pa k n).wbuf = s.wbuf := rfl
@[simp] theorem noteStore_mem (s : State) (pa : PAddr) (k n : Nat) : (noteStore s pa k n).mem = s.mem := rfl
@[simp] theorem noteStore_lateError (s : State) (pa : PAddr) (k n : Nat) : (noteStore s pa k n).lateError = s.lateError := rfl
@[simp] theorem noteStore_intPins (s : State) (pa : PAddr) (k n : Nat) : (noteStore s pa k n).intPins = s.intPins := rfl
@[simp] theorem noteStore_nmiPin (s : State) (pa : PAddr) (k n : Nat) : (noteStore s pa k n).nmiPin = s.nmiPin := rfl
@[simp] theorem noteStore_nmiPending (s : State) (pa : PAddr) (k n : Nat) : (noteStore s pa k n).nmiPending = s.nmiPending := rfl
@[simp] theorem noteStore_intHeld (s : State) (pa : PAddr) (k n : Nat) : (noteStore s pa k n).intHeld = s.intHeld := rfl
@[simp] theorem noteStore_timerRequest (s : State) (pa : PAddr) (k n : Nat) : (noteStore s pa k n).timerRequest = s.timerRequest := rfl
@[simp] theorem noteStore_sleeping (s : State) (pa : PAddr) (k n : Nat) : (noteStore s pa k n).sleeping = s.sleeping := rfl
@[simp] theorem noteStore_resetRequest (s : State) (pa : PAddr) (k n : Nat) : (noteStore s pa k n).resetRequest = s.resetRequest := rfl
@[simp] theorem noteStore_latches (s : State) (pa : PAddr) (k n : Nat) : (noteStore s pa k n).latches = s.latches := rfl
@[simp] theorem noteStore_conf (s : State) (pa : PAddr) (k n : Nat) : (noteStore s pa k n).conf = s.conf := rfl
@[simp] theorem noteStore_host (s : State) (pa : PAddr) (k n : Nat) : (noteStore s pa k n).host = s.host := rfl
@[simp] theorem noteStore_draws (s : State) (pa : PAddr) (k n : Nat) : (noteStore s pa k n).draws = s.draws := rfl

@[simp] theorem noteInvalidate_gpr (s : State) (pa : PAddr) : (noteInvalidate s pa).gpr = s.gpr := rfl
@[simp] theorem noteInvalidate_hi (s : State) (pa : PAddr) : (noteInvalidate s pa).hi = s.hi := rfl
@[simp] theorem noteInvalidate_lo (s : State) (pa : PAddr) : (noteInvalidate s pa).lo = s.lo := rfl
@[simp] theorem noteInvalidate_pc (s : State) (pa : PAddr) : (noteInvalidate s pa).pc = s.pc := rfl
@[simp] theorem noteInvalidate_delay (s : State) (pa : PAddr) : (noteInvalidate s pa).delay = s.delay := rfl
@[simp] theorem noteInvalidate_llbit (s : State) (pa : PAddr) : (noteInvalidate s pa).llbit = s.llbit := rfl
@[simp] theorem noteInvalidate_fpr (s : State) (pa : PAddr) : (noteInvalidate s pa).fpr = s.fpr := rfl
@[simp] theorem noteInvalidate_fprFormat (s : State) (pa : PAddr) : (noteInvalidate s pa).fprFormat = s.fprFormat := rfl
@[simp] theorem noteInvalidate_fcsr (s : State) (pa : PAddr) : (noteInvalidate s pa).fcsr = s.fcsr := rfl
@[simp] theorem noteInvalidate_cp0 (s : State) (pa : PAddr) : (noteInvalidate s pa).cp0 = s.cp0 := rfl
@[simp] theorem noteInvalidate_tlb (s : State) (pa : PAddr) : (noteInvalidate s pa).tlb = s.tlb := rfl
@[simp] theorem noteInvalidate_icache (s : State) (pa : PAddr) : (noteInvalidate s pa).icache = s.icache := rfl
@[simp] theorem noteInvalidate_dcache (s : State) (pa : PAddr) : (noteInvalidate s pa).dcache = s.dcache := rfl
@[simp] theorem noteInvalidate_brRam (s : State) (pa : PAddr) : (noteInvalidate s pa).brRam = s.brRam := rfl
@[simp] theorem noteInvalidate_wbuf (s : State) (pa : PAddr) : (noteInvalidate s pa).wbuf = s.wbuf := rfl
@[simp] theorem noteInvalidate_mem (s : State) (pa : PAddr) : (noteInvalidate s pa).mem = s.mem := rfl
@[simp] theorem noteInvalidate_lateError (s : State) (pa : PAddr) : (noteInvalidate s pa).lateError = s.lateError := rfl
@[simp] theorem noteInvalidate_intPins (s : State) (pa : PAddr) : (noteInvalidate s pa).intPins = s.intPins := rfl
@[simp] theorem noteInvalidate_nmiPin (s : State) (pa : PAddr) : (noteInvalidate s pa).nmiPin = s.nmiPin := rfl
@[simp] theorem noteInvalidate_nmiPending (s : State) (pa : PAddr) : (noteInvalidate s pa).nmiPending = s.nmiPending := rfl
@[simp] theorem noteInvalidate_intHeld (s : State) (pa : PAddr) : (noteInvalidate s pa).intHeld = s.intHeld := rfl
@[simp] theorem noteInvalidate_timerRequest (s : State) (pa : PAddr) : (noteInvalidate s pa).timerRequest = s.timerRequest := rfl
@[simp] theorem noteInvalidate_sleeping (s : State) (pa : PAddr) : (noteInvalidate s pa).sleeping = s.sleeping := rfl
@[simp] theorem noteInvalidate_resetRequest (s : State) (pa : PAddr) : (noteInvalidate s pa).resetRequest = s.resetRequest := rfl
@[simp] theorem noteInvalidate_latches (s : State) (pa : PAddr) : (noteInvalidate s pa).latches = s.latches := rfl
@[simp] theorem noteInvalidate_conf (s : State) (pa : PAddr) : (noteInvalidate s pa).conf = s.conf := rfl
@[simp] theorem noteInvalidate_host (s : State) (pa : PAddr) : (noteInvalidate s pa).host = s.host := rfl
@[simp] theorem noteInvalidate_draws (s : State) (pa : PAddr) : (noteInvalidate s pa).draws = s.draws := rfl

@[simp] theorem returnFromException_gpr (s : State) : (returnFromException s).gpr = s.gpr := by
  unfold returnFromException; dsimp only; split <;> rfl
@[simp] theorem returnFromException_hi (s : State) : (returnFromException s).hi = s.hi := by
  unfold returnFromException; dsimp only; split <;> rfl
@[simp] theorem returnFromException_lo (s : State) : (returnFromException s).lo = s.lo := by
  unfold returnFromException; dsimp only; split <;> rfl
@[simp] theorem returnFromException_delay (s : State) : (returnFromException s).delay = s.delay := by
  unfold returnFromException; dsimp only; split <;> rfl
@[simp] theorem returnFromException_llbit (s : State) : (returnFromException s).llbit = false := by
  unfold returnFromException; dsimp only; split <;> rfl
@[simp] theorem returnFromException_fpr (s : State) : (returnFromException s).fpr = s.fpr := by
  unfold returnFromException; dsimp only; split <;> rfl
@[simp] theorem returnFromException_fprFormat (s : State) : (returnFromException s).fprFormat = s.fprFormat := by
  unfold returnFromException; dsimp only; split <;> rfl
@[simp] theorem returnFromException_fcsr (s : State) : (returnFromException s).fcsr = s.fcsr := by
  unfold returnFromException; dsimp only; split <;> rfl
@[simp] theorem returnFromException_tlb (s : State) : (returnFromException s).tlb = s.tlb := by
  unfold returnFromException; dsimp only; split <;> rfl
@[simp] theorem returnFromException_icache (s : State) : (returnFromException s).icache = s.icache := by
  unfold returnFromException; dsimp only; split <;> rfl
@[simp] theorem returnFromException_dcache (s : State) : (returnFromException s).dcache = s.dcache := by
  unfold returnFromException; dsimp only; split <;> rfl
@[simp] theorem returnFromException_brRam (s : State) : (returnFromException s).brRam = s.brRam := by
  unfold returnFromException; dsimp only; split <;> rfl
@[simp] theorem returnFromException_wbuf (s : State) : (returnFromException s).wbuf = s.wbuf := by
  unfold returnFromException; dsimp only; split <;> rfl
@[simp] theorem returnFromException_mem (s : State) : (returnFromException s).mem = s.mem := by
  unfold returnFromException; dsimp only; split <;> rfl
@[simp] theorem returnFromException_codeStores (s : State) : (returnFromException s).codeStores = s.codeStores := by
  unfold returnFromException; dsimp only; split <;> rfl
@[simp] theorem returnFromException_lateError (s : State) : (returnFromException s).lateError = s.lateError := by
  unfold returnFromException; dsimp only; split <;> rfl
@[simp] theorem returnFromException_intPins (s : State) : (returnFromException s).intPins = s.intPins := by
  unfold returnFromException; dsimp only; split <;> rfl
@[simp] theorem returnFromException_nmiPin (s : State) : (returnFromException s).nmiPin = s.nmiPin := by
  unfold returnFromException; dsimp only; split <;> rfl
@[simp] theorem returnFromException_nmiPending (s : State) : (returnFromException s).nmiPending = s.nmiPending := by
  unfold returnFromException; dsimp only; split <;> rfl
@[simp] theorem returnFromException_intHeld (s : State) : (returnFromException s).intHeld = s.intHeld := by
  unfold returnFromException; dsimp only; split <;> rfl
@[simp] theorem returnFromException_timerRequest (s : State) : (returnFromException s).timerRequest = s.timerRequest := by
  unfold returnFromException; dsimp only; split <;> rfl
@[simp] theorem returnFromException_sleeping (s : State) : (returnFromException s).sleeping = s.sleeping := by
  unfold returnFromException; dsimp only; split <;> rfl
@[simp] theorem returnFromException_resetRequest (s : State) : (returnFromException s).resetRequest = s.resetRequest := by
  unfold returnFromException; dsimp only; split <;> rfl
@[simp] theorem returnFromException_latches (s : State) : (returnFromException s).latches = s.latches := by
  unfold returnFromException; dsimp only; split <;> rfl
@[simp] theorem returnFromException_conf (s : State) : (returnFromException s).conf = s.conf := by
  unfold returnFromException; dsimp only; split <;> rfl
@[simp] theorem returnFromException_host (s : State) : (returnFromException s).host = s.host := by
  unfold returnFromException; dsimp only; split <;> rfl
@[simp] theorem returnFromException_draws (s : State) : (returnFromException s).draws = s.draws := by
  unfold returnFromException; dsimp only; split <;> rfl

/-! The registers. -/

@[simp] theorem gprRead_zero (s : State) : gprRead s 0 = 0 := rfl

/-- A register reads as it was last written; register 0 reads 0 whatever was written (10_state.md R31). -/
theorem gprRead_gprWrite (s : State) (d r : RegNum) (v : Word) :
    gprRead (gprWrite s d v) r = if r = d ∧ r ≠ 0 then v else gprRead s r := by
  by_cases hr : r = 0
  · subst hr
    rw [if_neg (fun h => h.2 rfl)]
    rfl
  by_cases hd : d = 0
  · subst hd
    rw [if_neg (fun h => h.2 h.1)]
    rfl
  simp only [gprRead, gprWrite, if_neg hr, if_neg hd]
  by_cases h : r = d
  · subst h
    rw [if_pos ⟨rfl, hr⟩]
    simp
  · have : d.toNat ≠ r.toNat := fun hh => h (BitVec.eq_of_toNat_eq hh.symm)
    simp [h, this]

/-- A write of register 0 changes nothing (10_state.md R31). -/
@[simp] theorem gprWrite_zero (s : State) (v : Word) : gprWrite s 0 v = s := rfl

/-- Only the general registers are read by `gprRead`. -/
theorem gprRead_congr {s t : State} (h : t.gpr = s.gpr) (r : RegNum) : gprRead t r = gprRead s r := by
  simp [gprRead, h]

/-- The end of an instruction: at the pending target, or at the next address. -/
theorem advance_pc (s : State) : (advance s).pc = s.delay.getD (s.pc + 4) := by
  unfold advance; cases s.delay <;> rfl

/-- A container reads as it was last written. -/
theorem setContainer_get (s : State) (i j : RegNum) (v : Word) (f : FprFormat) :
    (setContainer s i v f).fpr[j.toNat]'j.isLt = if j = i then v else s.fpr[j.toNat]'j.isLt := by
  by_cases h : j = i
  · subst h; simp
  · have : i.toNat ≠ j.toNat := fun hh => h (BitVec.eq_of_toNat_eq hh.symm)
    simp [h, this]

end Sys2Proof.Laws
end

