-- ==== Sys2Proof/Laws/Ops.lean ====
section
/-! SUPPORT. What the shared operations can do, said once: the end of an instruction, the entry of an exception, the tests an
instruction begins with, branches, and the sequence of operations inside an instruction. -/

namespace Sys2Proof.Laws

open Sys2Proof.Machine Sys2Proof.Claims

/-! Results. -/

/-- A sequence of operations answers a value exactly if every operation does. -/
theorem bind_ok {α β : Type} {r : Res α} {f : α → State → Res β} {b : β} {t : State} :
    r.bind f = .ok b t ↔ ∃ a u, r = .ok a u ∧ f a u = .ok b t := by
  cases r <;> simp [Res.bind]

@[simp] theorem bind_of_ok {α β : Type} (a : α) (s : State) (f : α → State → Res β) : (Res.ok a s).bind f = f a s := rfl

@[simp] theorem bind_of_trap {α β : Type} (e : Exc) (s : State) (f : α → State → Res β) :
    (Res.trap e s : Res α).bind f = .trap e s := rfl

@[simp] theorem bind_of_stop {α β : Type} (x : Fault) (f : α → State → Res β) : (Res.stop x : Res α).bind f = .stop x := rfl

@[simp] theorem bind_of_busError {α β : Type} (s : State) (f : α → State → Res β) :
    (Res.busError s : Res α).bind f = .busError s := rfl

/-- What holds of the states an operation answers holds of those of a sequence. -/
theorem bind_states {α β : Type} {P : State → Prop} {r : Res α} {f : α → State → Res β}
    (hr : (∀ a t, r = .ok a t → P t) ∧ (∀ e t, r = .trap e t → P t) ∧ ∀ t, r = .busError t → P t)
    (hf : ∀ a t, P t → (∀ b u, f a t = .ok b u → P u) ∧ (∀ e u, f a t = .trap e u → P u) ∧ ∀ u, f a t = .busError u → P u) :
    (∀ b u, r.bind f = .ok b u → P u) ∧ (∀ e u, r.bind f = .trap e u → P u) ∧ ∀ u, r.bind f = .busError u → P u := by
  cases r with
  | ok a t => exact hf a t (hr.1 a t rfl)
  | trap e t => simpa [Res.bind] using hr.2.1 e t rfl
  | busError t => simpa [Res.bind] using hr.2.2 t rfl
  | stop x => simp [Res.bind]

/-! The end of an instruction. -/

/-- Memory is the same where neither memory, the write buffer nor a cache is touched. -/
theorem sameMemory_of {s t : State} (hw : t.wbuf = s.wbuf) (hm : t.mem = s.mem) (hi : t.icache = s.icache)
    (hd : t.dcache = s.dcache) : SameMemory s t := by
  refine ⟨fun lane => ?_, fun lane => by rw [hm], hw, hi, hd⟩
  simp only [seenByte, memView, hw, hm]

@[simp] theorem gprRead_advance (s : State) (r : RegNum) : gprRead (advance s) r = gprRead s r :=
  gprRead_congr (advance_gpr s) r

/-- Control moves on as the state before says. -/
theorem movesOn_advance {s t : State} (hp : t.pc = s.pc) (hd : t.delay = s.delay) : MovesOn s (advance t) := by
  refine ⟨?_, advance_delay t⟩
  rw [advance_pc, hp, hd]
  cases s.delay <;> rfl

theorem advance_eq (s : State) :
    advance s = { s with pc := (match s.delay with | some a => a | none => s.pc + 4), delay := none } := by
  unfold advance
  split <;> simp_all

/-- An instruction that ends by writing a general register does nothing else. -/
theorem writesGpr_doneGpr (s : State) (rd : RegNum) (v : Word) : WritesGpr s (doneGpr s rd v) rd v := by
  refine ⟨advance (gprWrite s rd v), rfl, ⟨⟨?_, ?_⟩, movesOn_advance (by simp) (by simp), ?_, ?_⟩⟩
  · rw [gprRead_advance, gprRead_gprWrite]
    by_cases h : rd = 0#5
    · subst h; rfl
    · rw [if_pos ⟨rfl, h⟩]; exact (if_neg h).symm
  · intro r hr
    rw [gprRead_advance, gprRead_gprWrite, if_neg (fun h => hr h.1)]
  · exact sameMemory_of (by simp) (by simp) (by simp) (by simp)
  · rw [advance_eq]
    unfold gprWrite
    split <;> rfl

/-- An instruction that only ends does nothing. -/
theorem doesNothing_done (s : State) : DoesNothing s (done s) := by
  refine ⟨advance s, rfl, movesOn_advance rfl rfl, sameMemory_of (by simp) (by simp) (by simp) (by simp), ?_⟩
  rw [advance_eq]

/-- The end of an instruction that writes HI and LO. -/
theorem writesHiLo_done (s : State) (h l : Word) : WritesHiLo s (done { s with hi := h, lo := l }) h l := by
  refine ⟨advance { s with hi := h, lo := l }, rfl, by simp, by simp, fun r => ?_,
    movesOn_advance rfl rfl, sameMemory_of (by simp) (by simp) (by simp) (by simp), ?_⟩
  · rw [gprRead_advance]; rfl
  · rw [advance_eq]

/-! Exceptions. -/

/-- The exceptions that go to the general vector and record no address. -/
def Plain : Exc → Bool
  | .ibe | .dbe | .sys | .bp | .ri | .cpu _ | .ov | .tr | .fpe => true
  | _ => false

/-- The restart address and the Status bits an entry leaves. -/
theorem takeException_cp0 (e : Exc) (s : State) :
    (takeException e s).cp0.cause.excCode = e.code ∧ (takeException e s).cp0.status.exl = true
      ∧ SavesRestart s (takeException e s) := by
  refine ⟨rfl, rfl, ?_⟩
  unfold SavesRestart
  cases h : s.cp0.status.exl <;> cases e <;>
    simp [takeException, recordAddress, recordTlb, recordAddressError, restartPc, h]

/-- The entry of any exception but MCheck touches nothing an entry does not touch. -/
theorem entryKeeps_takeException {e : Exc} (h : e ≠ .mcheck) (s : State) : EntryKeeps s (takeException e s) := by
  have hm : (e == Exc.mcheck) = false := by simpa using h
  refine ⟨fun r => gprRead_congr (takeException_gpr e s) r, ?_, ?_, ?_, ?_⟩
  · exact sameMemory_of (by simp) (by simp) (by simp) (by simp)
  · cases e <;> simp_all [takeException, recordAddress, recordTlb, recordAddressError]
  · cases e <;> simp [takeException, recordAddress, recordTlb, recordAddressError]
  · simp [takeException, spend]

/-- The entry of any exception but MCheck, at the vector its kind and the state select. -/
theorem entered_takeException {e : Exc} (h : e ≠ .mcheck) (s : State) :
    Entered s e.code (vectorOffset s e) (takeException e s) where
  code := (takeException_cp0 e s).1
  exl := (takeException_cp0 e s).2.1
  pc := by simp [vectors, vectorBase]
  delay := by simp
  saves := (takeException_cp0 e s).2.2
  keeps := entryKeeps_takeException h s

theorem plain_ne_mcheck {e : Exc} (h : Plain e = true) : e ≠ .mcheck := by rintro rfl; exact Bool.false_ne_true h

/-- The entry of a plain exception, whole. -/
theorem entered_plain {e : Exc} (h : Plain e = true) (s : State) :
    Entered s e.code 0x180 (takeException e s) ∧ KeepsAddresses s (takeException e s) := by
  have ho : vectorOffset s e = 0x180 := by
    cases e <;> first | exact absurd h Bool.false_ne_true | (unfold vectorOffset; split <;> rfl)
  refine ⟨ho ▸ entered_takeException (plain_ne_mcheck h) s, ?_⟩
  cases e <;> first | exact absurd h Bool.false_ne_true | simp [KeepsAddresses, takeException, recordAddress]

theorem raises_plain {e : Exc} (h : Plain e = true) (s : State) : Raises s (raise e s) e.code :=
  ⟨_, rfl, entered_plain h s⟩

theorem raisesCpu_raise (ce : BitVec 2) (s : State) : RaisesCpu s (raise (.cpu ce) s) ce :=
  ⟨_, rfl, (entered_plain (e := .cpu ce) rfl s).1, (entered_plain (e := .cpu ce) rfl s).2, rfl⟩

theorem raisesFpe_signal (c : BitVec 6) (s : State) : RaisesFpe s (signalFpe c s) c :=
  ⟨_, rfl, (entered_plain (e := .fpe) rfl _).1, (entered_plain (e := .fpe) rfl (setFpuCause s c)).2⟩

/-! The tests an instruction begins with. -/

theorem needCu1_of {s : State} {k : Out} (h : s.cp0.status.cu1 = true) : needCu1 s k = k := by simp [needCu1, h]

theorem needCp0_of {s : State} {k : Out} (h : cp0Usable s = true) : needCp0 s k = k := by simp [needCp0, h]

theorem need64_of {s : State} {k : Out} (h : exec64 s = true) : need64 s k = k := by simp [need64, h]

theorem need64Arith_of {s : State} {k : Out} (h : exec64 s = true) : need64Arith s k = k := by simp [need64Arith, h]

theorem need64Move_of {s : State} {k : Out} (h : exec64 s = true) : need64Move s k = k := by simp [need64Move, h]

theorem needFpr_of {s : State} {i : RegNum} {k : Out} (h : fprNumberOk s i = true) : needFpr s i k = k := by
  simp [needFpr, h]

theorem needNoSlot_of {s : State} {k : Out} (h : s.delay = none) : needNoSlot s k = k := by simp [needNoSlot, h]

/-- The tests of an FPU arithmetic instruction on registers it may name. -/
theorem fpPre_of {s : State} {l : List RegNum} {k : Out} (h : s.cp0.status.cu1 = true)
    (hl : l.all (fprNumberOk s) = true) : fpPre s l k = k := by simp [fpPre, needCu1, h, hl]

theorem fpPre64_of {s : State} {l : List RegNum} {k : Out} (h : s.cp0.status.cu1 = true) (hx : exec64 s = true)
    (hl : l.all (fprNumberOk s) = true) : fpPre64 s l k = k := by simp [fpPre64, needCu1, need64Arith, h, hl, hx]

/-! Branches. -/

theorem opensSlot_branch (s : State) (c : Bool) (a : Word) :
    OpensSlot s (branch c a s) (if c then a else s.pc + 8) :=
  ⟨rfl, rfl, sameMemory_of rfl rfl rfl rfl, rfl⟩

theorem branches_branch (s : State) (c : Bool) (a : Word) : Branches s (.next (branch c a s)) c a :=
  ⟨_, rfl, fun _ => rfl, opensSlot_branch s c a⟩

theorem branchesLikely_branchLikely {s : State} (hd : s.delay = none) (c : Bool) (a : Word) :
    BranchesLikely s (.next (branchLikely c a s)) c a := by
  refine ⟨_, rfl, fun r => ?_, ?_⟩
  · unfold branchLikely; split <;> rfl
  · cases c
    · exact ⟨rfl, by simp [branchLikely, hd], sameMemory_of rfl rfl rfl rfl, rfl⟩
    · exact opensSlot_branch s true a

/-! The FPU registers. -/

theorem fpr_setContainer (s : State) (i : RegNum) (v : Word) (f : FprFormat) (r : RegNum) :
    (setContainer s i v f).fpr[r.toNat]'r.isLt = if r = i then v else s.fpr[r.toNat]'r.isLt := by
  simp only [setContainer, Vector.getElem_set, eq_comm (a := i.toNat)]
  by_cases h : r = i
  · subst h; simp
  · have : r.toNat ≠ i.toNat := fun e => h (BitVec.eq_of_toNat_eq e)
    simp [h, this]

end Sys2Proof.Laws
end

