-- ==== Sys2Proof/Laws/Access.lean ====
section
/-! SUPPORT. The bytes of a value, translation and byte lanes, and what an uncached access of an aligned datum does. -/

namespace Sys2Proof.Laws

open Sys2Proof.Machine Sys2Proof.Claims

/-! The bytes of a value. -/

theorem joinBytes_concat (bs : List Byte) (b : Byte) : joinBytes (bs ++ [b]) = (joinBytes bs <<< 8) ||| b.setWidth 64 := by
  simp [joinBytes, List.foldl_append]

/-- Bit `k` of byte `j` of a joined value, counted from the least significant. -/
theorem joinBytes_getLsbD (bs : List Byte) (j k : Nat) (hj : 8 * j + k < 64) (hk : k < 8) :
    (joinBytes bs).getLsbD (8 * j + k) = (bs.reverse.getD j 0).getLsbD k := by
  induction bs using List.reverseRecOn generalizing j with
  | nil => simp [joinBytes]
  | append_singleton bs b ih =>
    rw [joinBytes_concat, BitVec.getLsbD_or, BitVec.getLsbD_shiftLeft, BitVec.getLsbD_setWidth, List.reverse_append]
    cases j with
    | zero => simp [hk]; intro h; omega
    | succ j =>
      rw [show 8 * (j + 1) + k - 8 = 8 * j + k by omega, ih j (by omega)]
      have h1 : ¬ 8 * (j + 1) + k < 8 := by omega
      have h2 : b.getLsbD (8 * (j + 1) + k) = false := BitVec.getLsbD_of_ge _ _ (by omega)
      simp [hj, h1, h2]

theorem joinBytes_byte (bs : List Byte) (j : Nat) (hj : j < 8) :
    (joinBytes bs).extractLsb' (8 * j) 8 = bs.reverse.getD j 0 := by
  apply BitVec.eq_of_getLsbD_eq
  intro k hk
  rw [BitVec.getLsbD_extractLsb', joinBytes_getLsbD bs j k (by omega) hk]
  simp [hk]

/-- A value is its bytes. -/
theorem word_ext_bytes {v w : Word} (h : ∀ j, j < 8 → v.extractLsb' (8 * j) 8 = w.extractLsb' (8 * j) 8) : v = w := by
  apply BitVec.eq_of_getLsbD_eq
  intro k hk
  have := congrArg (fun b : Byte => b.getLsbD (k % 8)) (h (k / 8) (by omega))
  have h8 : k % 8 < 8 := by omega
  simpa [h8, show 8 * (k / 8) + k % 8 = k by omega] using this

/-- The upper bytes of a small value are zero. -/
theorem byte_of_small {v : Word} {n j : Nat} (h : v.toNat < 2 ^ (8 * n)) (hj : n ≤ j) : v.extractLsb' (8 * j) 8 = 0 := by
  apply BitVec.eq_of_toNat_eq
  rw [BitVec.extractLsb'_toNat, Nat.shiftRight_eq_div_pow,
    Nat.div_eq_of_lt (Nat.lt_of_lt_of_le h (Nat.pow_le_pow_right (by omega) (by omega)))]
  rfl

@[simp] theorem splitBytes_length (n : Nat) (v : Word) : (splitBytes n v).length = n := by simp [splitBytes]

theorem splitBytes_getD {n i : Nat} (v : Word) (hi : i < n) :
    (splitBytes n v).getD i 0 = v.extractLsb' (8 * (n - 1 - i)) 8 := by
  simp [splitBytes, hi]

theorem readBytes_reverse_getD {m : List Host.Cell} {k n j : Nat} (h : j < n) :
    (readBytes m k n).reverse.getD j 0 = readByte m (k + (n - 1 - j)) := by
  simp [readBytes, h, List.getD_eq_getElem?_getD]

/-! Translation. -/

theorem selectBit_bounds (m : BitVec 12) : 12 ≤ selectBit m ∧ selectBit m < 25 := by
  unfold selectBit
  split_ifs <;> omega

theorem pageAddress_low (m : BitVec 12) (pfn : BitVec 24) (va : Word) (k : Nat) (hk : k < 12) :
    (pageAddress m pfn va).getLsbD k = va.getLsbD k := by
  obtain ⟨h1, h2⟩ := selectBit_bounds m
  have h3 : k < selectBit m := by omega
  have h4 : k < 36 := by omega
  have h5 : k < 64 := by omega
  simp only [pageAddress, BitVec.getLsbD_or, BitVec.getLsbD_append, BitVec.getLsbD_setWidth, BitVec.getLsbD_and, hk, h4,
    BitVec.getLsbD_ofNat, Nat.testBit_two_pow_sub_one, h3, h5, decide_true, Bool.true_and, Bool.and_true, if_true]
  simp

theorem pageAccess_low {e : TlbEntry} {va : Word} {k : Access} {pa : PAddr} {cca : BitVec 3}
    (h : pageAccess e va k = .ok pa cca) (j : Nat) (hj : j < 12) : pa.getLsbD j = va.getLsbD j := by
  unfold pageAccess at h
  generalize (if va.getLsbD (selectBit e.mask) then e.odd else e.even) = p at h
  dsimp only at h
  split at h
  · cases h
  split at h
  · cases h
  · injection h with h _
    exact h ▸ pageAddress_low _ _ _ _ hj

theorem tlbLookup_low {s : State} {va : Word} {k : Access} {pa : PAddr} {cca : BitVec 3}
    (h : tlbLookup s va k = .ok pa cca) (j : Nat) (hj : j < 12) : pa.getLsbD j = va.getLsbD j := by
  unfold tlbLookup at h
  split at h
  · cases h
  split at h
  · cases h
  split at h
  · cases h
  · exact pageAccess_low h j hj
  · cases h

/-- Translation keeps the low 12 bits of an address. -/
theorem translate_low {s : State} {va : Word} {k : Access} {pa : PAddr} {cca : BitVec 3}
    (h : Machine.translate s va k = .ok pa cca) (j : Nat) (hj : j < 12) : pa.getLsbD j = va.getLsbD j := by
  have h29 : j < 29 := by omega
  have h31 : j < 31 := by omega
  have h36 : j < 36 := by omega
  unfold Machine.translate at h
  dsimp only at h
  split at h
  · cases h
  split at h
  · cases h; simp [h29, h36]
  · cases h; simp [h29, h36]
  · cases h; simp [h36]
  · split at h
    · cases h; simp [h31, h36]
    · exact tlbLookup_low h j hj
  · exact tlbLookup_low h j hj

/-- Translation keeps an address modulo the smallest page. -/
theorem translate_mod {s : State} {va : Word} {k : Access} {pa : PAddr} {cca : BitVec 3}
    (h : Machine.translate s va k = .ok pa cca) : pa.toNat % 4096 = va.toNat % 4096 := by
  apply Nat.eq_of_testBit_eq
  intro j
  rw [show (4096 : Nat) = 2 ^ 12 by norm_num, Nat.testBit_mod_two_pow, Nat.testBit_mod_two_pow]
  by_cases hj : j < 12
  · have := translate_low h j hj
    simp only [BitVec.getLsbD] at this
    rw [this]
  · simp [hj]

/-- An aligned datum lies in one doubleword. -/
theorem aligned_fits {a n : Nat} (hn : n = 1 ∨ n = 2 ∨ n = 4 ∨ n = 8) (h : a % n = 0) : a % 8 + n ≤ 8 := by
  rcases hn with rfl | rfl | rfl | rfl <;> omega

theorem uncached_fits {s : State} {va : Word} {n : Nat} {k : Access} {pa : PAddr} (hn : n = 1 ∨ n = 2 ∨ n = 4 ∨ n = 8)
    (h : Uncached s va n k pa) : pa.toNat % 8 + n ≤ 8 := by
  have := aligned_fits hn h.1
  have := translate_mod h.2.1
  omega

/-! Byte lanes and uncached accesses. -/

/-- The lane of the `i`-th byte of an access, from the lane at which the access starts. -/
theorem laneKey_lane (s : State) (pa : PAddr) {n i : Nat} (hi : i < n) (hn : pa.toNat % 8 + n ≤ 8) :
    laneOf s (pa.toNat + i)
      = busAddress s (laneKey (dataBigEndian s) pa.toNat n) + (if dataBigEndian s then i else n - 1 - i) := by
  unfold laneOf laneKey busAddress
  by_cases hb : dataBigEndian s = true
  · simp only [hb, if_true]; split <;> omega
  · simp only [hb, if_false, Bool.false_eq_true]; split <;> omega

/-- What the bytes at an address hold is the value an uncached read gives. -/
theorem joinBytes_of_holds {s : State} {pa : PAddr} {n : Nat} {v : Word} (hn : pa.toNat % 8 + n ≤ 8) (h : Holds s pa n v) :
    joinBytes (readBytes (memView s) (busAddress s (laneKey (dataBigEndian s) pa.toNat n)) n) = v := by
  apply word_ext_bytes
  intro j hj
  rw [joinBytes_byte _ _ hj]
  by_cases hjn : j < n
  · rw [readBytes_reverse_getD hjn]
    have h1 := h.1 (if dataBigEndian s then n - 1 - j else j) (by split <;> omega)
    rw [laneKey_lane s pa (by split <;> omega) hn] at h1
    unfold seenByte at h1
    cases hb : dataBigEndian s <;> simp only [byteIndex, hb, if_true, if_false, Bool.false_eq_true] at h1 ⊢
    · exact h1.symm
    · rw [show n - 1 - (n - 1 - j) = j by omega] at h1; exact h1.symm
  · rw [byte_of_small h.2 (by omega)]
    simp [readBytes, List.getD_eq_getElem?_getD, hjn]

/-- The address an aligned access drives is the one busAddr names. -/
theorem drivenAddress_eq (s : State) (pa : PAddr) {n : Nat} (h0 : 0 < n) (hn : pa.toNat % 8 + n ≤ 8) :
    drivenAddress s (laneKey (dataBigEndian s) pa.toNat n) n = busAddr s pa n := by
  unfold drivenAddress busAddr laneKey
  congr 1
  generalize pa.toNat = a at hn ⊢
  obtain ⟨q, r, hr, rfl⟩ : ∃ q r, r < 8 ∧ a = 8 * q + r := ⟨a / 8, a % 8, by omega, by omega⟩
  have h1 : (8 * q + r) / 8 = q := by omega
  have h2 : (8 * q + r) % 8 = r := by omega
  have h3 : (q * 8 + (8 - (r + n))) / 8 = q := by omega
  have h4 : (q * 8 + (8 - (r + n))) % 8 = 8 - (r + n) := by omega
  rw [h2] at hn
  cases dataBigEndian s <;> cases s.latches.bigEndian <;>
    simp only [if_true, if_false, Bool.false_eq_true, reduceCtorEq, h1, h2, h3, h4] <;> omega

theorem waitForWrites_eq (s : State) : waitForWrites s = waited s := rfl

/-- An uncached load answers the value the bytes at the address hold and changes nothing the program sees. -/
theorem memRead_uncached {s : State} {va : Word} {n : Nat} {pa : PAddr} {v : Word} (hn : n = 1 ∨ n = 2 ∨ n = 4 ∨ n = 8)
    (h : UncachedLoad s va n pa) (hv : Holds s pa n v) : memRead s va n = .ok v (waited s) := by
  have hf := uncached_fits hn h.1
  obtain ⟨⟨h1, h2, h3⟩, h4, h5⟩ := h
  unfold memRead checkAligned
  rw [if_pos (by simpa using h1)]
  simp [h2, Translation.toRes, physRead, needBus, h3, h5, drivenAddress_eq s pa (by omega) hf, h4, joinBytes_of_holds hf hv, waitForWrites_eq]

/-- The address LUXC1 reports is one of two. -/
theorem luxc1Reported_cases (va : Word) : luxc1Reported va = va ∨ luxc1Reported va = alignDown8 va := by
  unfold luxc1Reported; split <;> simp

/-- The write an uncached store of `n` bytes puts into the write buffer. -/
def uncachedWrite (s : State) (pa : PAddr) (n : Nat) (v : Word) : BusWrite :=
  { key := busAddress s (laneKey (dataBigEndian s) pa.toNat n), bytes := splitBytes n v }

/-- The state after an uncached store: the write is buffered, and the line stored to is recorded (log 29). -/
def afterStore (s : State) (pa : PAddr) (n : Nat) (v : Word) : State :=
  enqueue (noteStore s pa (laneKey (dataBigEndian s) pa.toNat n) n) (uncachedWrite s pa n v)

/-- An uncached store only puts its bytes into the write buffer. -/
theorem memWrite_uncached {s : State} {va : Word} {n : Nat} {pa : PAddr} (h : Uncached s va n .store pa) (v : Word) :
    memWrite s va n v = .ok () (afterStore s pa n v) := by
  obtain ⟨h1, h2, h3⟩ := h
  unfold memWrite checkAligned
  rw [if_pos (by simpa using h1)]
  simp [h2, Translation.toRes, physWrite, h3, storeOut, afterStore, uncachedWrite]

/-- What every load sees after such a store. -/
theorem seenByte_enqueue {s : State} (hm : Memory.wf s.mem = true) (w : BusWrite) (lane : Nat) :
    seenByte (enqueue s w) lane
      = if w.key ≤ lane ∧ lane < w.key + w.bytes.length then w.bytes.getD (lane - w.key) 0 else seenByte s lane := by
  unfold seenByte
  rw [memView_enqueue]
  exact readByte_writeBytes (wf_memView hm)

theorem seenByte_afterStore (s : State) (pa : PAddr) (n : Nat) (v : Word) (lane : Nat) :
    seenByte (afterStore s pa n v) lane = seenByte (enqueue s (uncachedWrite s pa n v)) lane := rfl

/-- The bytes of an uncached store are at the address, and no other byte has changed. -/
theorem stored_enqueue {s : State} {pa : PAddr} {n : Nat} (hm : Memory.wf s.mem = true) (hn : pa.toNat % 8 + n ≤ 8)
    (v : Word) : Stored s (afterStore s pa n v) pa n v := by
  refine ⟨fun i hi => ?_, fun lane hl => ?_, rfl, _, rfl⟩
  · rw [seenByte_afterStore, seenByte_enqueue hm, laneKey_lane s pa hi hn]
    simp only [uncachedWrite, splitBytes_length, byteIndex]
    have hj : (if dataBigEndian s = true then i else n - 1 - i) < n := by split <;> omega
    rw [if_pos ⟨by omega, by omega⟩, Nat.add_sub_cancel_left, splitBytes_getD v hj]
    congr 2
    split <;> omega
  · rw [seenByte_afterStore, seenByte_enqueue hm, if_neg]
    simp only [uncachedWrite, splitBytes_length]
    rintro ⟨h1, h2⟩
    obtain ⟨i, hi, he⟩ : ∃ i, i < n ∧ busAddress s (laneKey (dataBigEndian s) pa.toNat n) + i = lane :=
      ⟨lane - busAddress s (laneKey (dataBigEndian s) pa.toNat n), by omega, by omega⟩
    refine hl (if dataBigEndian s then i else n - 1 - i) (by split <;> omega) ?_
    rw [laneKey_lane s pa (by split <;> omega) hn, ← he]
    cases dataBigEndian s <;> simp only [if_true, if_false, Bool.false_eq_true]; omega

/-- An uncached load into a general register. -/
theorem loadGpr_uncached {s : State} {base rt : RegNum} {offset : BitVec 16} {n : Nat} {pa : PAddr} {v : Word}
    (hn : n = 1 ∨ n = 2 ∨ n = 4 ∨ n = 8) (h : UncachedLoad s (gprRead s base + offset.signExtend 64) n pa)
    (hv : Holds s pa n v) (extend : Word → Word) : loadGpr s base rt offset n extend = doneGpr (waited s) rt (extend v) := by
  unfold loadGpr baseOffset sext16
  rw [memRead_uncached hn h hv]
  rfl

/-- An uncached store of a general register. -/
theorem storeGpr_uncached {s : State} {base rt : RegNum} {offset : BitVec 16} {n : Nat} {pa : PAddr}
    (h : Uncached s (gprRead s base + offset.signExtend 64) n .store pa) :
    storeGpr s base rt offset n = done (afterStore s pa n (gprRead s rt)) := by
  unfold storeGpr baseOffset sext16
  rw [memWrite_uncached h]
  rfl

end Sys2Proof.Laws
end

