-- ==== Sys2Proof/Laws/Arith.lean ====
section
/-! SUPPORT. The arithmetic and flag computations by exact integers: overflow, leading runs, products, and the bits of the
condition codes. -/

namespace Sys2Proof.Laws

open Sys2Proof.Machine Sys2Proof.Claims

/-- The two uppermost bits of a number of one more bit agree exactly if it fits. -/
theorem topBits_iff {n : Nat} (hn : 0 < n) (t : BitVec (n + 1)) :
    (t.getLsbD n != t.getLsbD (n - 1)) = false ↔ Fits n t.toInt := by
  obtain ⟨k, rfl⟩ : ∃ k, n = k + 1 := ⟨n - 1, by omega⟩
  have h1 : t.getLsbD (k + 1) = decide (2 ^ (k + 1) ≤ t.toNat) := by
    have := BitVec.msb_eq_decide t
    simpa [BitVec.msb_eq_getLsbD_last] using this
  have h2 : t.getLsbD k = decide (2 ^ k ≤ t.toNat % 2 ^ (k + 1)) := by
    have := BitVec.msb_eq_decide (t.setWidth (k + 1))
    simpa [BitVec.msb_eq_getLsbD_last] using this
  have hp : 2 ^ (k + 1) = 2 * 2 ^ k := by rw [Nat.pow_succ]; omega
  have hp2 : 2 ^ (k + 1 + 1) = 4 * 2 ^ k := by rw [Nat.pow_succ, hp]; omega
  have hlt := t.isLt
  have hi := BitVec.toInt_eq_toNat_cond t
  have hz : ((2 ^ k : Nat) : Int) = 2 ^ k := by norm_cast
  have hpos : 0 < 2 ^ k := Nat.two_pow_pos k
  simp only [Nat.add_sub_cancel, h1, h2, Fits, bne_eq_false_iff_eq, decide_eq_decide, ← hz]
  rw [hi]
  rw [hp2] at hlt ⊢
  rw [hp]
  have hm : t.toNat % (2 * 2 ^ k) = if t.toNat < 2 * 2 ^ k then t.toNat else t.toNat - 2 * 2 ^ k := by
    split
    · exact Nat.mod_eq_of_lt ‹_›
    · rw [Nat.mod_eq_sub_mod (by omega)]; exact Nat.mod_eq_of_lt (by omega)
  rw [hm]
  push_cast
  split <;> split <;> omega

/-- No overflow: the exact sum fits. -/
theorem addOverflows_iff {n : Nat} (hn : 0 < n) (a b : BitVec n) : addOverflows a b = false ↔ Fits n (a.toInt + b.toInt) := by
  have := topBits_iff hn (a.signExtend (n + 1) + b.signExtend (n + 1))
  unfold addOverflows
  rw [this, BitVec.toInt_add, BitVec.toInt_signExtend_of_le (by omega), BitVec.toInt_signExtend_of_le (by omega), Int.bmod_eq_of_le]
  all_goals
    have ha := BitVec.le_two_mul_toInt (x := a)
    have hb := BitVec.le_two_mul_toInt (x := b)
    have ha' := BitVec.two_mul_toInt_lt (x := a)
    have hb' := BitVec.two_mul_toInt_lt (x := b)
    have hp : 2 ^ (n + 1) = 2 * 2 ^ n := by rw [Nat.pow_succ]; omega
    rw [hp]
    push_cast
    omega

/-- No overflow: the exact difference fits. -/
theorem subOverflows_iff {n : Nat} (hn : 0 < n) (a b : BitVec n) : subOverflows a b = false ↔ Fits n (a.toInt - b.toInt) := by
  have := topBits_iff hn (a.signExtend (n + 1) - b.signExtend (n + 1))
  unfold subOverflows
  rw [this, BitVec.toInt_sub, BitVec.toInt_signExtend_of_le (by omega), BitVec.toInt_signExtend_of_le (by omega), Int.bmod_eq_of_le]
  all_goals
    have ha := BitVec.le_two_mul_toInt (x := a)
    have hb := BitVec.le_two_mul_toInt (x := b)
    have ha' := BitVec.two_mul_toInt_lt (x := a)
    have hb' := BitVec.two_mul_toInt_lt (x := b)
    have hp : 2 ^ (n + 1) = 2 * 2 ^ n := by rw [Nat.pow_succ]; omega
    rw [hp]
    push_cast
    omega

/-- The low word of a sign-extended immediate. -/
theorem low32_sext16 (i : BitVec 16) : low32 (sext16 i) = i.signExtend 32 := by
  unfold low32 sext16
  apply BitVec.eq_of_getLsbD_eq; intro k hk
  simp only [BitVec.getLsbD_setWidth, BitVec.getLsbD_signExtend, hk]
  have : k < 64 := by omega
  simp [this]

/-- The low word of a register. -/
theorem low32_eq (v : Word) : low32 v = v.extractLsb' 0 32 := by
  apply BitVec.eq_of_getLsbD_eq; intro k hk
  simp [low32, hk]

/-- The count of leading zeros is the length of the leading run of zeros. -/
theorem leadingRun_zeros {n : Nat} (v : BitVec n) : LeadingRun v false (leadingZeros v) := by
  unfold leadingZeros
  by_cases h : v.toNat = 0
  · rw [if_pos h]
    have : v = 0 := BitVec.eq_of_toNat_eq (by simpa using h)
    subst this
    exact ⟨by omega, fun i _ => by simp, fun h => by omega⟩
  · rw [if_neg h]
    have hlt : v.toNat.log2 < n := (Nat.log2_lt h).2 v.isLt
    refine ⟨by omega, fun i hi => ?_, fun hk => ?_⟩
    · rw [BitVec.getLsbD]
      exact Nat.testBit_lt_two_pow (Nat.lt_of_lt_of_le (Nat.lt_log2_self (n := v.toNat)) (Nat.pow_le_pow_right (by omega) (by omega)))
    · have : n - 1 - (n - (v.toNat.log2 + 1)) = v.toNat.log2 := by omega
      rw [this, BitVec.getLsbD]
      simp
      exact Nat.testBit_log2 h

/-- The same for ones, by the complement. -/
theorem leadingRun_ones {n : Nat} (v : BitVec n) : LeadingRun v true (leadingZeros (~~~v)) := by
  have := leadingRun_zeros (~~~v)
  refine ⟨this.1, fun i hi => ?_, fun h => ?_⟩
  · have h1 := this.1
    have := this.2.1 i hi
    have hh : n - 1 - i < n := by omega
    simpa [hh] using this
  · have := this.2.2 h
    have hh : n - 1 - leadingZeros (~~~v) < n := by omega
    simpa [hh] using this

/-- The exact signed product. -/
theorem mulSigned32_eq (a b : BitVec 32) : mulSigned32 a b = BitVec.ofInt 64 (a.toInt * b.toInt) := by
  unfold mulSigned32
  apply BitVec.eq_of_toInt_eq
  rw [BitVec.toInt_mul, BitVec.toInt_signExtend_of_le (by omega), BitVec.toInt_signExtend_of_le (by omega), BitVec.toInt_ofInt]

/-- The exact unsigned product. -/
theorem mulUnsigned32_eq (a b : BitVec 32) : mulUnsigned32 a b = BitVec.ofNat 64 (a.toNat * b.toNat) := by
  unfold mulUnsigned32
  apply BitVec.eq_of_toNat_eq
  simp only [BitVec.toNat_mul, BitVec.toNat_setWidth, BitVec.toNat_ofNat]
  have := a.isLt; have := b.isLt
  rw [Nat.mod_eq_of_lt (a := a.toNat) (by omega), Nat.mod_eq_of_lt (a := b.toNat) (by omega)]

/-- A shift left multiplies. -/
theorem shiftLeft_eq_mul {n : Nat} (a : BitVec n) (k : Nat) : a <<< k = BitVec.ofNat n (a.toNat * 2 ^ k) := by
  apply BitVec.eq_of_toNat_eq
  simp [Nat.shiftLeft_eq]

/-- A logical shift right divides. -/
theorem shiftRight_eq_div {n : Nat} (a : BitVec n) (k : Nat) : a >>> k = BitVec.ofNat n (a.toNat / 2 ^ k) := by
  apply BitVec.eq_of_toNat_eq
  simp only [BitVec.toNat_ushiftRight, Nat.shiftRight_eq_div_pow, BitVec.toNat_ofNat]
  exact (Nat.mod_eq_of_lt (Nat.lt_of_le_of_lt (Nat.div_le_self _ _) a.isLt)).symm

@[simp] theorem shiftCount5_eq (v : Word) : shiftCount5 v = v.toNat % 32 := by simp [shiftCount5]

@[simp] theorem shiftCount6_eq (v : Word) : shiftCount6 v = v.toNat % 64 := by simp [shiftCount6]

/-- One condition code changes, the others stay. -/
theorem fccWith_bit (fcc : BitVec 8) (cc k : BitVec 3) (b : Bool) :
    (fccWith fcc cc b).getLsbD k.toNat = if k = cc then b else fcc.getLsbD k.toNat := by
  have h : ∀ cc k : BitVec 3, (BitVec.ofNat 8 (1 <<< cc.toNat)).getLsbD k.toNat = decide (k = cc) := by decide
  have hk : k.toNat < 8 := k.isLt
  cases b <;> simp only [fccWith, if_true, if_false, Bool.false_eq_true, BitVec.getLsbD_and, BitVec.getLsbD_or,
    BitVec.getLsbD_not, BitVec.natCast_eq_ofNat, h, hk, decide_true, Bool.true_and] <;> by_cases e : k = cc <;> simp [e]

end Sys2Proof.Laws
end

