-- ==== Sys2Proof/Laws/Code.lean ====
section
/-! SUPPORT. What a fetch gives of a location the program has stored to, and what each step of the recipe of 20_memory.md R256 does
to the record of such stores (CacheMem.lean). -/

namespace Sys2Proof.Laws

open Sys2Proof.Machine

/-- What a fetch of the word `w` answers: `w`, or one of the words the stores to the place allow; a free value may be used. -/
theorem fetched_ok (s : State) (pa : PAddr) (cached : Bool) (w : HalfWord) :
    ∃ x n, fetched s pa cached w = .ok x { s with draws := n } ∧ x ∈ w :: storedWords s pa cached := by
  unfold fetched
  split
  · exact ⟨w, s.draws, rfl, by simp⟩
  · refine ⟨_, _, rfl, ?_⟩
    generalize storedWords s pa cached = l
    have h : (freeWord s 0).toNat % (l.length + 1) < (w :: l).length := Nat.mod_lt _ (Nat.succ_pos _)
    rw [List.getD_eq_getElem _ _ h]
    exact List.getElem_mem h

theorem fetched_of_no_stores {s : State} {pa : PAddr} {cached : Bool} (h : storedWords s pa cached = []) (w : HalfWord) :
    fetched s pa cached w = .ok w s := by unfold fetched; rw [h]

/-- No word but the one before a store that covers a byte of it. -/
theorem earlierWords_eq_nil {off : Nat} {word : List Byte} {l : List CodeStore}
    (h : ∀ x ∈ l, ∀ i, i < 4 → x.covers (off + i) = false) : earlierWords off word l = [] := by
  induction l generalizing word with
  | nil => rfl
  | cons x t ih =>
    unfold earlierWords
    rw [if_neg]
    · exact ih fun y hy => h y (List.mem_cons_of_mem x hy)
    · simp only [List.any_eq_true, List.mem_range, not_exists, not_and]
      exact fun i hi => by simp [h x (by simp) i hi]

/-- The record of the line a fetch at `pa` looks at. -/
def codeLineAt (s : State) (pa : PAddr) : CodeLine := storeGet blankCode s.codeStores (fetchLane s pa / 32)

/-- A fetch need not miss any store if none that it need not see covers its word. -/
theorem storedWords_eq_nil {s : State} {pa : PAddr} {cached : Bool}
    (h : ∀ x ∈ (codeLineAt s pa).pending cached, ∀ i, i < 4 → x.covers (fetchLane s pa % 32 + i) = false) :
    storedWords s pa cached = [] := by
  have h' := earlierWords_eq_nil (word := programBytes s pa (laneKey s.latches.bigEndian pa.toNat 4) 4) h
  unfold codeLineAt at h'
  unfold storedWords
  simp only [h']

theorem storedWords_of_pending_nil {s : State} {pa : PAddr} {cached : Bool} (h : (codeLineAt s pa).pending cached = []) :
    storedWords s pa cached = [] := storedWords_eq_nil (by rw [h]; simp)

/-- Hit Invalidate at `pa` finds the line a fetch at `pa` looks at. -/
theorem fetchLane_line (s : State) (pa : PAddr) : fetchLane s pa / 32 = lineKey s (tagOf pa) (lineOf pa) / 32 := by
  have h : pa.toNat < 68719476736 := pa.isLt
  unfold fetchLane lineKey busAddress laneKey tagOf lineOf
  simp only [BitVec.extractLsb'_toNat, Nat.shiftRight_eq_div_pow]
  split <;> split <;> omega

/-! The record stays in canonical form. -/

theorem codeStores_wf_noteStore {s : State} {pa : PAddr} {key n : Nat} (h : storeWf blankCode s.codeStores = true) :
    storeWf blankCode (noteStore s pa key n).codeStores = true := storeWf_set h

theorem codeStores_wf_noteSync {s : State} (h : storeWf blankCode s.codeStores = true) :
    storeWf blankCode (noteSync s).codeStores = true := storeWf_map h

theorem codeStores_wf_noteInvalidate {s : State} {pa : PAddr} (h : storeWf blankCode s.codeStores = true) :
    storeWf blankCode (noteInvalidate s pa).codeStores = true := storeWf_set h

theorem codeStores_wf_noteJump {s : State} (h : storeWf blankCode s.codeStores = true) :
    storeWf blankCode (noteJump s).codeStores = true := storeWf_map h

/-! One law for each step: the record after it of the line a fetch looks at. -/

theorem codeLineAt_noteStore {s : State} (pa pa' : PAddr) (key n : Nat) (h : storeWf blankCode s.codeStores = true) :
    codeLineAt (noteStore s pa' key n) pa
      = if fetchLane s pa / 32 = busAddress s key / 32 then
          (codeLineAt s pa).stored (busAddress s key % 32) (programBytes s pa' key n)
        else codeLineAt s pa := by
  refine (storeGet_set h).trans ?_
  change (if fetchLane s pa / 32 = _ then _ else codeLineAt s pa) = _
  split
  · rename_i hk; rw [codeLineAt, hk]
  · rfl

theorem codeLineAt_noteSync {s : State} {pa : PAddr} (h : storeWf blankCode s.codeStores = true)
    (hk : heldDirty s (fetchLane s pa / 32) = false) : codeLineAt (noteSync s) pa = (codeLineAt s pa).sync := by
  refine (storeGet_map (f := fun k x => if heldDirty s k then x else x.sync) (fun k => by split <;> rfl) h).trans ?_
  change (if heldDirty s (fetchLane s pa / 32) = true then _ else _) = _
  rw [hk]; rfl

theorem codeLineAt_noteInvalidate {s : State} (pa : PAddr) (h : storeWf blankCode s.codeStores = true) :
    codeLineAt (noteInvalidate s pa) pa = (codeLineAt s pa).invalidate := by
  refine (storeGet_set h).trans ?_
  change (if fetchLane s pa / 32 = _ then _ else _) = _
  rw [if_pos (fetchLane_line s pa), codeLineAt, fetchLane_line]

theorem codeLineAt_noteJump {s : State} (pa : PAddr) (h : storeWf blankCode s.codeStores = true) :
    codeLineAt (noteJump s) pa = (codeLineAt s pa).jump :=
  storeGet_map (f := fun _ => CodeLine.jump) (fun _ => rfl) h

/-! The recipe on one line, and stores after it. -/

/-- After SYNC and a taken jump an uncached fetch need not miss any store; after one more store, that one alone. -/
theorem CodeLine.pending_after_sync_jump (x : CodeLine) : x.sync.jump.pending false = [] := rfl

theorem CodeLine.pending_after_sync_jump_store (x : CodeLine) (off : Nat) (before : List Byte) :
    (x.sync.jump.stored off before).pending false = [{ off := off, before := before }] := rfl

/-- With Hit Invalidate between them no fetch need miss any store, and no store is recorded. -/
theorem CodeLine.recipe (x : CodeLine) : x.sync.invalidate.jump = blankCode := by
  simp [CodeLine.sync, CodeLine.invalidate, CodeLine.jump, blankCode]

/-- A store after Hit Invalidate, before the jump, is the only one that fetches need not see after it. -/
theorem CodeLine.pending_after_store_in_recipe (x : CodeLine) (off : Nat) (before : List Byte) (cached : Bool) :
    ((x.sync.invalidate.stored off before).jump).pending cached = [{ off := off, before := before }] := by
  cases cached <;> simp [CodeLine.sync, CodeLine.invalidate, CodeLine.stored, CodeLine.jump, CodeLine.pending]

/-! The recipe on the machine. -/

/-- After SYNC and a taken jump an uncached fetch misses no store, if the data cache does not hold the line dirty. -/
theorem storedWords_after_sync_jump {s : State} {pa : PAddr} (h : storeWf blankCode s.codeStores = true)
    (hk : heldDirty s (fetchLane s pa / 32) = false) : storedWords (noteJump (noteSync s)) pa false = [] :=
  storedWords_of_pending_nil (by
    rw [codeLineAt_noteJump pa (codeStores_wf_noteSync h), codeLineAt_noteSync h hk, CodeLine.pending_after_sync_jump])

/-- With Hit Invalidate between them no fetch misses one. -/
theorem storedWords_after_recipe {s : State} {pa : PAddr} (h : storeWf blankCode s.codeStores = true)
    (hk : heldDirty s (fetchLane s pa / 32) = false) (cached : Bool) :
    storedWords (noteJump (noteInvalidate (noteSync s) pa)) pa cached = [] := by
  have h1 := codeStores_wf_noteSync h
  refine storedWords_of_pending_nil ?_
  rw [codeLineAt_noteJump pa (codeStores_wf_noteInvalidate h1), codeLineAt_noteInvalidate pa h1, codeLineAt_noteSync h hk,
    CodeLine.recipe]
  cases cached <;> rfl

/-- Stores of other bytes after SYNC and a taken jump leave an uncached fetch as sure as it was. -/
theorem storedWords_noteStore_elsewhere {s : State} {pa pa' : PAddr} {key n : Nat} (h : storeWf blankCode s.codeStores = true)
    (hk : heldDirty s (fetchLane s pa / 32) = false)
    (hd : busAddress s key + n ≤ fetchLane s pa ∨ fetchLane s pa + 4 ≤ busAddress s key) :
    storedWords (noteStore (noteJump (noteSync s)) pa' key n) pa false = [] := by
  have h1 := codeStores_wf_noteSync h
  have hlen : (programBytes (noteJump (noteSync s)) pa' key n).length = n := by
    unfold programBytes; split <;> simp [lineBytes, readBytes]
  refine storedWords_eq_nil ?_
  rw [codeLineAt_noteStore pa pa' key n (codeStores_wf_noteJump h1), codeLineAt_noteJump pa h1, codeLineAt_noteSync h hk]
  change ∀ x ∈ (if fetchLane s pa / 32 = busAddress s key / 32 then _ else _ : CodeLine).pending false, ∀ i, i < 4 →
    x.covers (fetchLane s pa % 32 + i) = false
  split
  · rename_i he
    rw [CodeLine.pending_after_sync_jump_store]
    change ∀ x ∈ [({ off := busAddress s key % 32, before := _ } : CodeStore)], _
    intro x hx i hi
    rw [List.mem_singleton] at hx
    subst hx
    simp only [CodeStore.covers, hlen, Bool.and_eq_false_iff, decide_eq_false_iff_not]
    omega
  · rw [CodeLine.pending_after_sync_jump]; simp

end Sys2Proof.Laws
end

