-- ==== Sys2Proof/Laws/Decode.lean ====
section
/-! SUPPORT. The decoder and the encoder by their fields: a word is put together from six fields and taken apart into the same
ones, and the larger fields are put together from the smaller. -/

namespace Sys2Proof.Laws

/-- The fields of a packed word. -/
theorem field_pack (op : BitVec 6) (rs rt rd sa : BitVec 5) (fn : BitVec 6) :
    opField (pack op rs rt rd sa fn) = op ∧ rsField (pack op rs rt rd sa fn) = rs ∧ rtField (pack op rs rt rd sa fn) = rt
     ∧ rdField (pack op rs rt rd sa fn) = rd ∧ saField (pack op rs rt rd sa fn) = sa ∧ fnField (pack op rs rt rd sa fn) = fn := by
  refine ⟨?_, ?_, ?_, ?_, ?_, ?_⟩ <;>
  · apply BitVec.eq_of_getLsbD_eq; intro k hk
    simp only [pack, opField, rsField, rtField, rdField, saField, fnField, BitVec.getLsbD_extractLsb', BitVec.getLsbD_append, hk, decide_true, Bool.true_and]
    rcases k with _ | _ | _ | _ | _ | _ | k <;> first | rfl | omega

/-- Decoding a packed word reads its fields. -/
theorem decode_pack (op : BitVec 6) (rs rt rd sa : BitVec 5) (fn : BitVec 6) :
    decode (pack op rs rt rd sa fn) = decodeFields op rs rt rd sa fn := by
  obtain ⟨h1, h2, h3, h4, h5, h6⟩ := field_pack op rs rt rd sa fn
  unfold decode; rw [h1, h2, h3, h4, h5, h6]

/-- A word is the pack of its fields. -/
theorem pack_split (w : HalfWord) : pack (opField w) (rsField w) (rtField w) (rdField w) (saField w) (fnField w) = w := by
  apply BitVec.eq_of_getLsbD_eq; intro k hk
  simp only [pack, opField, rsField, rtField, rdField, saField, fnField, BitVec.getLsbD_extractLsb', BitVec.getLsbD_append]
  repeat' split
  all_goals simp (disch := omega) only [decide_eq_true, Bool.true_and]
  all_goals (congr 1 <;> omega)

/-- A word written with its 16-bit immediate. -/
theorem imm_split (op : BitVec 6) (rs rt : BitVec 5) (imm : BitVec 16) :
   (op ++ rs ++ rt ++ imm : HalfWord) = pack op rs rt (sub5 imm 11) (sub5 imm 6) (sub6 imm 0) := by
  apply BitVec.eq_of_getLsbD_eq; intro k hk
  simp only [pack, sub5, sub6, BitVec.getLsbD_extractLsb', BitVec.getLsbD_append]
  repeat' split
  all_goals first | omega | skip
  all_goals try simp (disch := omega) only [decide_eq_true, Bool.true_and]
  all_goals try (congr 1 <;> omega)

/-- A word written with its 20-bit code. -/
theorem code20_split (op fn : BitVec 6) (c : BitVec 20) :
   (op ++ c ++ fn : HalfWord) = pack op (sub5 c 15) (sub5 c 10) (sub5 c 5) (sub5 c 0) fn := by
  apply BitVec.eq_of_getLsbD_eq; intro k hk
  simp only [pack, sub5, sub6, BitVec.getLsbD_extractLsb', BitVec.getLsbD_append]
  repeat' split
  all_goals first | omega | skip
  all_goals try simp (disch := omega) only [decide_eq_true, Bool.true_and]
  all_goals try (congr 1 <;> omega)

/-- A word written with its 10-bit code. -/
theorem code10_split (op fn : BitVec 6) (rs rt : BitVec 5) (c : BitVec 10) :
   (op ++ rs ++ rt ++ c ++ fn : HalfWord) = pack op rs rt (sub5 c 5) (sub5 c 0) fn := by
  apply BitVec.eq_of_getLsbD_eq; intro k hk
  simp only [pack, sub5, sub6, BitVec.getLsbD_extractLsb', BitVec.getLsbD_append]
  repeat' split
  all_goals first | omega | skip
  all_goals try simp (disch := omega) only [decide_eq_true, Bool.true_and]
  all_goals try (congr 1 <;> omega)

@[simp] theorem imm16_sub (imm : BitVec 16) : imm16 (sub5 imm 11) (sub5 imm 6) (sub6 imm 0) = imm := by
  apply BitVec.eq_of_getLsbD_eq; intro k hk
  simp only [imm16, sub5, sub6, BitVec.getLsbD_extractLsb', BitVec.getLsbD_append]
  repeat' split
  all_goals simp (disch := omega) only [decide_eq_true, Bool.true_and]
  all_goals (congr 1 <;> omega)

@[simp] theorem imm26_sub (imm : BitVec 26) : imm26 (sub5 imm 21) (sub5 imm 16) (sub5 imm 11) (sub5 imm 6) (sub6 imm 0) = imm := by
  apply BitVec.eq_of_getLsbD_eq; intro k hk
  simp only [imm26, sub5, sub6, BitVec.getLsbD_extractLsb', BitVec.getLsbD_append]
  repeat' split
  all_goals simp (disch := omega) only [decide_eq_true, Bool.true_and]
  all_goals (congr 1 <;> omega)

@[simp] theorem code20_sub (imm : BitVec 20) : code20 (sub5 imm 15) (sub5 imm 10) (sub5 imm 5) (sub5 imm 0) = imm := by
  apply BitVec.eq_of_getLsbD_eq; intro k hk
  simp only [code20, sub5, BitVec.getLsbD_extractLsb', BitVec.getLsbD_append]
  repeat' split
  all_goals simp (disch := omega) only [decide_eq_true, Bool.true_and]
  all_goals (congr 1 <;> omega)

@[simp] theorem code10_sub (imm : BitVec 10) : code10 (sub5 imm 5) (sub5 imm 0) = imm := by
  apply BitVec.eq_of_getLsbD_eq; intro k hk
  simp only [code10, sub5, BitVec.getLsbD_extractLsb', BitVec.getLsbD_append]
  repeat' split
  all_goals simp (disch := omega) only [decide_eq_true, Bool.true_and]
  all_goals (congr 1 <;> omega)

@[simp] theorem code19_sub (imm : BitVec 19) : code19 (coWait imm) (sub5 imm 10) (sub5 imm 5) (sub5 imm 0) = imm := by
  apply BitVec.eq_of_getLsbD_eq; intro k hk
  simp only [code19, coWait, sub5, BitVec.getLsbD_extractLsb', BitVec.getLsbD_append]
  repeat' split
  all_goals try simp (disch := omega) only [decide_eq_true, Bool.true_and]
  all_goals first | omega | (congr 1 <;> omega) 

@[simp] theorem coWait_msb (c : BitVec 19) : (coWait c).msb = true := by
  rw [BitVec.msb_eq_getLsbD_last]; simp only [coWait, BitVec.getLsbD_append]; rfl

@[simp] theorem cc3_ccLow : ∀ (c : BitVec 3) (l : BitVec 2), cc3 (ccLow c l) = c := by decide

@[simp] theorem low2_ccLow : ∀ (c : BitVec 3) (l : BitVec 2), low2 (ccLow c l) = l := by decide

@[simp] theorem sel3_selFn : ∀ (c : BitVec 3), sel3 (selFn c) = c := by decide

@[simp] theorem high3_selFn : ∀ (c : BitVec 3), high3 (selFn c) = 0 := by decide

end Sys2Proof.Laws
end

