-- ==== Sys2Proof/Tests/Slice0.lean ====
section
/-! SUPPORT. The model's own tests: ill-formed terms, a word of every instruction, single steps with the results that
95_test_vectors.md states, and for every obligation with hypotheses a state and operands that meet them. -/

namespace Sys2Proof.Tests

set_option Elab.async false

open Sys2Proof.Machine Sys2Proof.Claims

/-! ## Well-formed terms and decoding -/

/-- R312: the word 0x00000000 is NOP, so this SLL has no word of its own. -/
theorem test_sll_of_nop_refused : Instr.wellFormed (.sll 0 0 0) = false := by decide

/-- R312: the word 0x00000040 is SSNOP. -/
theorem test_sll_of_ssnop_refused : Instr.wellFormed (.sll 0 0 1) = false := by decide

/-- Every word of the list decodes to the instruction beside it. -/
def decodesAll (l : List (HalfWord × Instr)) : Bool :=
  l.all fun p => match decode p.1 with
    | .ok i => i == p.2
    | .error _ => false

/-! One word of every row of spec/opcode_table.json, each field filled with a value of its own at the place the row gives it, over the row's `match`
word. -/

theorem test_decode_1 : decodesAll [
    (0x0229D820, .add 17 9 27), (0x22298FF1, .addi 17 9 0x8ff1), (0x26298FF1, .addiu 17 9 0x8ff1),
    (0x0229D821, .addu 17 9 27), (0x7229D821, .clo 17 9 27), (0x7229D820, .clz 17 9 27), (0x0229D82C, .dadd 17 9 27),
    (0x62298FF1, .daddi 17 9 0x8ff1), (0x66298FF1, .daddiu 17 9 0x8ff1), (0x0229D82D, .daddu 17 9 27),
    (0x7229D825, .dclo 17 9 27), (0x7229D824, .dclz 17 9 27), (0x0229001E, .ddiv 17 9), (0x0229001F, .ddivu 17 9),
    (0x0229001A, .div 17 9), (0x0229001B, .divu 17 9), (0x0229001C, .dmult 17 9), (0x0229001D, .dmultu 17 9),
    (0x0229D82E, .dsub 17 9 27), (0x0229D82F, .dsubu 17 9 27), (0x72290000, .madd 17 9), (0x72290001, .maddu 17 9),
    (0x72290004, .msub 17 9), (0x72290005, .msubu 17 9), (0x7229D802, .mul 17 9 27), (0x02290018, .mult 17 9),
    (0x02290019, .multu 17 9), (0x0229D82A, .slt 17 9 27), (0x2A298FF1, .slti 17 9 0x8ff1),
    (0x2E298FF1, .sltiu 17 9 0x8ff1), (0x0229D82B, .sltu 17 9 27), (0x0229D822, .sub 17 9 27),
    (0x0229D823, .subu 17 9 27), (0x0229D824, .and 17 9 27), (0x32298FF1, .andi 17 9 0x8ff1), (0x0229D825, .or 17 9 27)
  ] = true := by decide +kernel

theorem test_decode_2 : decodesAll [
    (0x36298FF1, .ori 17 9 0x8ff1), (0x0229D826, .xor 17 9 27), (0x3A298FF1, .xori 17 9 0x8ff1),
    (0x0229D827, .nor 17 9 27), (0x3C118FF1, .lui 17 0x8ff1), (0x00008810, .mfhi 17), (0x00008812, .mflo 17),
    (0x02200011, .mthi 17), (0x02200013, .mtlo 17), (0x0229D80B, .movn 17 9 27), (0x0229D80A, .movz 17 9 27),
    (0x0235D801, .movt 17 5 27), (0x0234D801, .movf 17 5 27), (0x00114EC0, .sll 17 9 27), (0x00114EC2, .srl 17 9 27),
    (0x00114EC3, .sra 17 9 27), (0x0229D804, .sllv 17 9 27), (0x0229D806, .srlv 17 9 27), (0x0229D807, .srav 17 9 27),
    (0x00114EF8, .dsll 17 9 27), (0x00114EFA, .dsrl 17 9 27), (0x00114EFB, .dsra 17 9 27),
    (0x0229D814, .dsllv 17 9 27), (0x0229D816, .dsrlv 17 9 27), (0x0229D817, .dsrav 17 9 27),
    (0x00114EFC, .dsll32 17 9 27), (0x00114EFE, .dsrl32 17 9 27), (0x00114EFF, .dsra32 17 9 27),
    (0x0AABCDE5, .j 0x2abcde5), (0x0EABCDE5, .jal 0x2abcde5), (0x02200248, .jr 17 9), (0x02204EC9, .jalr 17 9 27),
    (0x12298FF1, .beq 17 9 0x8ff1), (0x16298FF1, .bne 17 9 0x8ff1), (0x1A208FF1, .blez 17 0x8ff1),
    (0x1E208FF1, .bgtz 17 0x8ff1)
  ] = true := by decide +kernel

theorem test_decode_3 : decodesAll [
    (0x06208FF1, .bltz 17 0x8ff1), (0x06218FF1, .bgez 17 0x8ff1), (0x06308FF1, .bltzal 17 0x8ff1),
    (0x06318FF1, .bgezal 17 0x8ff1), (0x52298FF1, .beql 17 9 0x8ff1), (0x56298FF1, .bnel 17 9 0x8ff1),
    (0x5A208FF1, .blezl 17 0x8ff1), (0x5E208FF1, .bgtzl 17 0x8ff1), (0x06228FF1, .bltzl 17 0x8ff1),
    (0x06238FF1, .bgezl 17 0x8ff1), (0x06328FF1, .bltzall 17 0x8ff1), (0x06338FF1, .bgezall 17 0x8ff1),
    (0x00000000, .nop), (0x00000040, .ssnop), (0x82298FF1, .lb 17 9 0x8ff1), (0x92298FF1, .lbu 17 9 0x8ff1),
    (0x86298FF1, .lh 17 9 0x8ff1), (0x96298FF1, .lhu 17 9 0x8ff1), (0x8E298FF1, .lw 17 9 0x8ff1),
    (0x9E298FF1, .lwu 17 9 0x8ff1), (0xDE298FF1, .ld 17 9 0x8ff1), (0x8A298FF1, .lwl 17 9 0x8ff1),
    (0x9A298FF1, .lwr 17 9 0x8ff1), (0x6A298FF1, .ldl 17 9 0x8ff1), (0x6E298FF1, .ldr 17 9 0x8ff1),
    (0xAA298FF1, .swl 17 9 0x8ff1), (0xBA298FF1, .swr 17 9 0x8ff1), (0xB2298FF1, .sdl 17 9 0x8ff1),
    (0xB6298FF1, .sdr 17 9 0x8ff1), (0xA2298FF1, .sb 17 9 0x8ff1), (0xA6298FF1, .sh 17 9 0x8ff1),
    (0xAE298FF1, .sw 17 9 0x8ff1), (0xFE298FF1, .sd 17 9 0x8ff1), (0xC2298FF1, .ll 17 9 0x8ff1),
    (0xD2298FF1, .lld 17 9 0x8ff1), (0xE2298FF1, .sc 17 9 0x8ff1)
  ] = true := by decide +kernel

theorem test_decode_4 : decodesAll [
    (0xF2298FF1, .scd 17 9 0x8ff1), (0xCE298FF1, .pref 17 9 0x8ff1), (0x4E29D80F, .prefx 17 9 27),
    (0x0000044F, .sync 17), (0x026AF34C, .syscall 0x9abcd), (0x026AF34D, .breakpoint 0x9abcd),
    (0x0229A970, .tge 17 9 0x2a5), (0x0229A971, .tgeu 17 9 0x2a5), (0x0229A972, .tlt 17 9 0x2a5),
    (0x0229A973, .tltu 17 9 0x2a5), (0x0229A974, .teq 17 9 0x2a5), (0x0229A976, .tne 17 9 0x2a5),
    (0x06288FF1, .tgei 17 0x8ff1), (0x06298FF1, .tgeiu 17 0x8ff1), (0x062A8FF1, .tlti 17 0x8ff1),
    (0x062B8FF1, .tltiu 17 0x8ff1), (0x062C8FF1, .teqi 17 0x8ff1), (0x062E8FF1, .tnei 17 0x8ff1),
    (0x40114805, .mfc0 17 9 5), (0x40914805, .mtc0 17 9 5), (0x40314805, .dmfc0 17 9 5), (0x40B14805, .dmtc0 17 9 5),
    (0x42000001, .tlbr), (0x42000002, .tlbwi), (0x42000006, .tlbwr), (0x42000008, .tlbp), (0x42000018, .eret),
    (0x436AF360, .wait 0x5abcd), (0x4200001F, .deret), (0x726AF37F, .sdbbp 0x9abcd), (0xBE298FF1, .cache 17 9 0x8ff1),
    (0x46114EC0, .addS 17 9 27), (0x46314EC0, .addD 17 9 27), (0x46114EC1, .subS 17 9 27), (0x46314EC1, .subD 17 9 27),
    (0x46114EC2, .mulS 17 9 27)
  ] = true := by decide +kernel

theorem test_decode_5 : decodesAll [
    (0x46314EC2, .mulD 17 9 27), (0x46114EC3, .divS 17 9 27), (0x46314EC3, .divD 17 9 27), (0x46008A45, .absS 17 9),
    (0x46208A45, .absD 17 9), (0x46008A47, .negS 17 9), (0x46208A47, .negD 17 9), (0x46008A44, .sqrtS 17 9),
    (0x46208A44, .sqrtD 17 9), (0x4E29D9A0, .maddS 17 9 27 6), (0x4E29D9A1, .maddD 17 9 27 6),
    (0x4E29D9A8, .msubS 17 9 27 6), (0x4E29D9A9, .msubD 17 9 27 6), (0x4E29D9B0, .nmaddS 17 9 27 6),
    (0x4E29D9B1, .nmaddD 17 9 27 6), (0x4E29D9B8, .nmsubS 17 9 27 6), (0x4E29D9B9, .nmsubD 17 9 27 6),
    (0x46008A55, .recipS 17 9), (0x46208A55, .recipD 17 9), (0x44914800, .mtc1 17 9), (0x44114800, .mfc1 17 9),
    (0x44B14800, .dmtc1 17 9), (0x44314800, .dmfc1 17 9), (0xC6298FF1, .lwc1 17 9 0x8ff1),
    (0xE6298FF1, .swc1 17 9 0x8ff1), (0xD6298FF1, .ldc1 17 9 0x8ff1), (0xF6298FF1, .sdc1 17 9 0x8ff1),
    (0x4E2906C5, .luxc1 17 9 27), (0x4E29D80D, .suxc1 17 9 27), (0x4E2906C0, .lwxc1 17 9 27),
    (0x4E29D808, .swxc1 17 9 27), (0x4E2906C1, .ldxc1 17 9 27), (0x4E29D809, .sdxc1 17 9 27), (0x44514800, .cfc1 17 9),
    (0x44D14800, .ctc1 17 9), (0x46008A46, .movS 17 9)
  ] = true := by decide +kernel

theorem test_decode_6 : decodesAll [
    (0x46208A46, .movD 17 9), (0x46154ED1, .movtS 5 9 27), (0x46354ED1, .movtD 5 9 27), (0x46144ED1, .movfS 5 9 27),
    (0x46344ED1, .movfD 5 9 27), (0x46114ED3, .movnS 17 9 27), (0x46314ED3, .movnD 17 9 27),
    (0x46114ED2, .movzS 17 9 27), (0x46314ED2, .movzD 17 9 27), (0x46208A60, .cvtSD 17 9), (0x46808A60, .cvtSW 17 9),
    (0x46A08A60, .cvtSL 17 9), (0x46008A61, .cvtDS 17 9), (0x46808A61, .cvtDW 17 9), (0x46A08A61, .cvtDL 17 9),
    (0x46008A64, .cvtWS 17 9), (0x46208A64, .cvtWD 17 9), (0x46008A65, .cvtLS 17 9), (0x46208A65, .cvtLD 17 9),
    (0x46008A4C, .roundWS 17 9), (0x46208A4C, .roundWD 17 9), (0x46008A4D, .truncWS 17 9), (0x46208A4D, .truncWD 17 9),
    (0x46008A4E, .ceilWS 17 9), (0x46208A4E, .ceilWD 17 9), (0x46008A4F, .floorWS 17 9), (0x46208A4F, .floorWD 17 9),
    (0x46008A48, .roundLS 17 9), (0x46208A48, .roundLD 17 9), (0x46008A49, .truncLS 17 9), (0x46208A49, .truncLD 17 9),
    (0x46008A4A, .ceilLS 17 9), (0x46208A4A, .ceilLD 17 9), (0x46008A4B, .floorLS 17 9), (0x46208A4B, .floorLD 17 9),
    (0x46114D30, .cFS 17 9 5)
  ] = true := by decide +kernel

theorem test_decode_7 : decodesAll [
    (0x46314D30, .cFD 17 9 5), (0x46114D31, .cUnS 17 9 5), (0x46314D31, .cUnD 17 9 5), (0x46114D32, .cEqS 17 9 5),
    (0x46314D32, .cEqD 17 9 5), (0x46114D33, .cUeqS 17 9 5), (0x46314D33, .cUeqD 17 9 5), (0x46114D34, .cOltS 17 9 5),
    (0x46314D34, .cOltD 17 9 5), (0x46114D35, .cUltS 17 9 5), (0x46314D35, .cUltD 17 9 5), (0x46114D36, .cOleS 17 9 5),
    (0x46314D36, .cOleD 17 9 5), (0x46114D37, .cUleS 17 9 5), (0x46314D37, .cUleD 17 9 5), (0x46114D38, .cSfS 17 9 5),
    (0x46314D38, .cSfD 17 9 5), (0x46114D39, .cNgleS 17 9 5), (0x46314D39, .cNgleD 17 9 5),
    (0x46114D3A, .cSeqS 17 9 5), (0x46314D3A, .cSeqD 17 9 5), (0x46114D3B, .cNglS 17 9 5), (0x46314D3B, .cNglD 17 9 5),
    (0x46114D3C, .cLtS 17 9 5), (0x46314D3C, .cLtD 17 9 5), (0x46114D3D, .cNgeS 17 9 5), (0x46314D3D, .cNgeD 17 9 5),
    (0x46114D3E, .cLeS 17 9 5), (0x46314D3E, .cLeD 17 9 5), (0x46114D3F, .cNgtS 17 9 5), (0x46314D3F, .cNgtD 17 9 5),
    (0x45158FF1, .bc1t 5 0x8ff1), (0x45148FF1, .bc1f 5 0x8ff1), (0x45178FF1, .bc1tl 5 0x8ff1),
    (0x45168FF1, .bc1fl 5 0x8ff1)
  ] = true := by decide +kernel
/-- Words that match no row: RFE (R648), RSQRT.S (R692), COP2 (R316), opcode 29 (R315), SPECIAL function 1 with bit 17. -/
theorem test_reserved_words : (decode 0x42000010 matches .error .cop0) ∧ (decode 0x46000116 matches .error .cop1)
    ∧ (decode 0x48000000 matches .error .cop2) ∧ (decode 0x74000000 matches .error .integer)
    ∧ (decode 0x00020001 matches .error .movci) := by decide +kernel

/-! ## Single steps -/

/-- The state 95_test_vectors.md starts from: Kernel mode, Status = 0x00400000, pc = 0xFFFFFFFF_80001000. -/
def kernel : State :=
  { State.reset with
    pc := 0xFFFFFFFF80001000
    cp0 := { Cp0.reset with status := { Cp0.reset.status with erl := false } } }

/-- General registers set. -/
def withRegs (l : List (RegNum × Word)) (s : State) : State := l.foldl (fun t p => gprWrite t p.1 p.2) s

/-- FPU registers set, of no format yet. -/
def withFprs (l : List (RegNum × Word)) (s : State) : State := l.foldl (fun t p => setContainer t p.1 p.2 .raw) s

/-- Bytes of memory set, from byte lane `a` up. -/
def withBytes (a : Nat) (bs : List Byte) (s : State) : State := { s with mem := writeBytes s.mem a bs }

/-- Status replaced. -/
def withStatus (f : Status → Status) (s : State) : State := setStatus s (f s.cp0.status)

/-- The FPU enabled, with FR = 1 and a value of FCSR. -/
def fpu (fcsr : HalfWord) (l : List (RegNum × Word)) : State :=
  { withFprs l (withStatus (fun x => { x with cu1 := true, fr := true }) kernel) with fcsr := unpackFcsr fcsr }

/-- The FPU enabled with FR = 0, where no half of a register is a free value. -/
def fpu0 (fcsr : HalfWord) (l : List (RegNum × Word)) : State := withStatus (fun x => { x with fr := false }) (fpu fcsr l)

/-- User mode with 32-bit instructions only. -/
def user : State := { withStatus (fun x => { x with ksu := 2 }) kernel with pc := 0x1000 }

/-- The instruction completes and its state has a property. -/
def after (i : Instr) (s : State) (p : State → Bool) : Bool :=
  match exec i s with
  | .next t => p t
  | _ => false

/-- A general register after the instruction. -/
def gives (i : Instr) (l : List (RegNum × Word)) (rd : RegNum) (v : Word) : Bool :=
  after i (withRegs l kernel) fun t => gprRead t rd == v && t.pc == 0xFFFFFFFF80001004

/-- HI and LO after the instruction. -/
def givesHiLo (i : Instr) (x1 x2 hi0 lo0 hi lo : Word) : Bool :=
  after i { withRegs [(1, x1), (2, x2)] kernel with hi := hi0, lo := lo0 } fun t => t.hi == hi && t.lo == lo

/-- The instruction enters an exception with this code at the general vector of BEV = 1. -/
def traps (i : Instr) (s : State) (code : BitVec 5) : Bool :=
  after i s fun t => t.cp0.cause.excCode == code && t.cp0.epc == s.pc && t.cp0.status.exl && t.pc == 0xFFFFFFFFBFC00380

/-- The program stops with a fault. -/
def faults (i : Instr) (s : State) (f : Fault) : Bool :=
  match exec i s with
  | .fault g => g == f
  | _ => false

/-- The low word of FPU register `fd` and FCSR after the instruction. -/
def givesS (i : Instr) (fcsr : HalfWord) (l : List (RegNum × Word)) (fd : RegNum) (v : HalfWord) (fcsr' : HalfWord) : Bool :=
  after i (fpu0 fcsr l) fun t => fpr32 t fd == v && packFcsr t.fcsr == fcsr'

/-- All of FPU register `fd` and FCSR after the instruction. -/
def givesD (i : Instr) (fcsr : HalfWord) (l : List (RegNum × Word)) (fd : RegNum) (v : Word) (fcsr' : HalfWord) : Bool :=
  after i (fpu fcsr l) fun t => fpr64 t fd == v && packFcsr t.fcsr == fcsr'

/-- FPE with this FCSR, and fd as before. -/
def trapsFp (i : Instr) (fcsr : HalfWord) (l : List (RegNum × Word)) (fcsr' : HalfWord) : Bool :=
  traps i (fpu fcsr l) 15 && after i (fpu fcsr l) fun t => t.fpr == (fpu fcsr l).fpr && packFcsr t.fcsr == fcsr'

/-! V40: integer arithmetic. -/

theorem test_add_ignores_upper_half :
    gives (.add 1 2 3) [(1, 0x1234567800000005), (2, 7)] 3 0xC = true := by decide +kernel
theorem test_add_overflow_traps :
    traps (.add 1 2 3) (withRegs [(1, 0x7FFFFFFF), (2, 1)] kernel) 12 = true := by decide +kernel
theorem test_add_to_zero_traps :
    traps (.add 1 2 0) (withRegs [(1, 0xFFFFFFFF80000000), (2, 0xFFFFFFFFFFFFFFFF)] kernel) 12 = true := by decide +kernel
theorem test_addi_overflow_traps :
    traps (.addi 1 2 0xFFFF) (withRegs [(1, 0xFFFFFFFF80000000)] kernel) 12 = true := by decide +kernel
theorem test_addiu_wraps : gives (.addiu 1 2 0xFFFF) [(1, 0xFFFFFFFF80000000)] 2 0x7FFFFFFF = true := by decide +kernel
theorem test_addu_sign_extends :
    gives (.addu 1 2 3) [(1, 0x7FFFFFFF), (2, 1)] 3 0xFFFFFFFF80000000 = true := by decide +kernel
theorem test_sub_overflow_traps :
    traps (.sub 1 2 3) (withRegs [(1, 0xFFFFFFFF80000000), (2, 1)] kernel) 12 = true := by decide +kernel
theorem test_subu_wraps : gives (.subu 1 2 3) [(1, 0xFFFFFFFF80000000), (2, 1)] 3 0x7FFFFFFF = true := by decide +kernel
theorem test_dadd_overflow_traps :
    traps (.dadd 1 2 3) (withRegs [(1, 0x7FFFFFFFFFFFFFFF), (2, 1)] kernel) 12 = true := by decide +kernel
theorem test_daddu_wraps :
    gives (.daddu 1 2 3) [(1, 0x7FFFFFFFFFFFFFFF), (2, 1)] 3 0x8000000000000000 = true := by decide +kernel
theorem test_daddu_reserved_in_user32 :
    traps (.daddu 1 2 3) (withStatus (fun x => { x with ksu := 2 }) kernel) 10 = true := by decide +kernel
theorem test_daddiu_extends : gives (.daddiu 1 2 0x8000) [(1, 0x100000000)] 2 0xFFFF8000 = true := by decide +kernel
theorem test_daddi_overflow_traps :
    traps (.daddi 1 2 1) (withRegs [(1, 0x7FFFFFFFFFFFFFFF)] kernel) 12 = true := by decide +kernel
theorem test_dsub_overflow_traps :
    traps (.dsub 1 2 3) (withRegs [(1, 0x8000000000000000), (2, 1)] kernel) 12 = true := by decide +kernel
theorem test_dsubu_wraps : gives (.dsubu 1 2 3) [(2, 1)] 3 0xFFFFFFFFFFFFFFFF = true := by decide +kernel
theorem test_clz_low_word : gives (.clz 1 2 2) [(1, 0xFFFFFFFF00010000)] 2 0xF = true := by decide +kernel
theorem test_clo_all : gives (.clo 1 2 2) [(1, 0xFFFFFFFF)] 2 0x20 = true := by decide +kernel
theorem test_dclz : gives (.dclz 1 2 2) [(1, 1)] 2 0x3F = true := by decide +kernel
theorem test_dclo : gives (.dclo 1 2 2) [(1, 0xFFFF000000000000)] 2 0x10 = true := by decide +kernel
theorem test_mult :
    givesHiLo (.mult 1 2) 0xFFFFFFFF80000000 0xFFFFFFFF80000000 5 5 0x40000000 0 = true := by decide +kernel
theorem test_multu :
    givesHiLo (.multu 1 2) 0xFFFFFFFFFFFFFFFF 0xFFFFFFFFFFFFFFFF 5 5 0xFFFFFFFFFFFFFFFE 1 = true := by decide +kernel
theorem test_dmult : givesHiLo (.dmult 1 2) 0xFFFFFFFFFFFFFFFF 0xFFFFFFFFFFFFFFFF 5 5 0 1 = true := by decide +kernel
theorem test_dmultu :
    givesHiLo (.dmultu 1 2) 0xFFFFFFFFFFFFFFFF 0xFFFFFFFFFFFFFFFF 5 5 0xFFFFFFFFFFFFFFFE 1 = true := by decide +kernel
theorem test_mul_low_word : gives (.mul 1 2 3) [(1, 0x10000), (2, 0x10000), (3, 9)] 3 0 = true := by decide +kernel
theorem test_madd :
    givesHiLo (.madd 1 2) 0xFFFFFFFFFFFFFFFF 1 0 0 0xFFFFFFFFFFFFFFFF 0xFFFFFFFFFFFFFFFF = true := by decide +kernel
theorem test_maddu_wraps :
    givesHiLo (.maddu 1 2) 0xFFFFFFFFFFFFFFFF 0xFFFFFFFFFFFFFFFF 0xFFFFFFFFFFFFFFFF 0xFFFFFFFFFFFFFFFF
    0xFFFFFFFFFFFFFFFE 0 = true := by decide +kernel
theorem test_msub : givesHiLo (.msub 1 2) 3 4 0 0xA 0xFFFFFFFFFFFFFFFF 0xFFFFFFFFFFFFFFFE = true := by decide +kernel
theorem test_msubu : givesHiLo (.msubu 1 2) 0xFFFFFFFFFFFFFFFF 2 1 0 0xFFFFFFFFFFFFFFFF 2 = true := by decide +kernel
theorem test_div_toward_zero :
    givesHiLo (.div 1 2) 7 0xFFFFFFFFFFFFFFFE 0 0 1 0xFFFFFFFFFFFFFFFD = true := by decide +kernel
theorem test_div_by_zero_completes :
    after (.div 1 2) (withRegs [(1, 7)] kernel) (fun t => t.pc == 0xFFFFFFFF80001004) = true := by decide +kernel
theorem test_divu : givesHiLo (.divu 1 2) 0xFFFFFFFFFFFFFFFF 2 0 0 1 0x7FFFFFFF = true := by decide +kernel
theorem test_ddiv :
    givesHiLo (.ddiv 1 2) 0xFFFFFFFFFFFFFFF9 2 0 0 0xFFFFFFFFFFFFFFFF 0xFFFFFFFFFFFFFFFD = true := by decide +kernel
theorem test_ddivu : givesHiLo (.ddivu 1 2) 0xFFFFFFFFFFFFFFF9 0x10 0 0 9 0x0FFFFFFFFFFFFFFF = true := by decide +kernel
theorem test_slt_64_bits : gives (.slt 1 2 3) [(1, 0x100000000), (2, 0x7FFFFFFF), (3, 1)] 3 0 = true := by decide +kernel
theorem test_sltu : gives (.sltu 1 2 3) [(1, 0xFFFFFFFFFFFFFFFF), (2, 1), (3, 7)] 3 0 = true := by decide +kernel
theorem test_slti : gives (.slti 1 2 0xFFFF) [(1, 0xFFFFFFFFFFFFFFFE)] 2 1 = true := by decide +kernel
theorem test_sltiu : gives (.sltiu 1 2 0xFFFF) [(1, 5)] 2 1 = true := by decide +kernel

/-! V41: logic and moves. -/

theorem test_and :
    gives (.and 1 2 3) [(1, 0xFF00FF00FF00FF00), (2, 0x0FF00FF00FF00FF0)] 3 0x0F000F000F000F00 = true := by decide +kernel
theorem test_or_to_zero : gives (.or 1 2 0) [(1, 1), (2, 2)] 0 0 = true := by decide +kernel
theorem test_xor :
    gives (.xor 1 2 3) [(1, 0xFF00FF00FF00FF00), (2, 0x0FF00FF00FF00FF0)] 3 0xF0F0F0F0F0F0F0F0 = true := by decide +kernel
theorem test_nor : gives (.nor 1 0 3) [(1, 0xFF00FF00FF00FF00)] 3 0x00FF00FF00FF00FF = true := by decide +kernel
theorem test_andi : gives (.andi 1 2 0xFFFF) [(1, 0xFFFFFFFFFFFFFFFF)] 2 0xFFFF = true := by decide +kernel
theorem test_ori : gives (.ori 1 2 0x8000) [] 2 0x8000 = true := by decide +kernel
theorem test_xori : gives (.xori 1 2 0xFFFF) [(1, 0xFFFFFFFFFFFFFFFF)] 2 0xFFFFFFFFFFFF0000 = true := by decide +kernel
theorem test_lui : gives (.lui 2 0x8000) [] 2 0xFFFFFFFF80000000 = true := by decide +kernel
theorem test_movn : gives (.movn 1 2 3) [(1, 9), (2, 0x100000000), (3, 1)] 3 9 = true := by decide +kernel
theorem test_movz_no_move : gives (.movz 1 2 3) [(1, 9), (2, 0x100000000), (3, 1)] 3 1 = true := by decide +kernel
theorem test_movf :
    after (.movf 1 2 3) (withRegs [(1, 9)] (fpu 0x00800000 [])) (fun t => gprRead t 3 == 9) = true := by decide +kernel
theorem test_movt_needs_cu1 : traps (.movt 1 0 3) kernel 11 = true := by decide +kernel

/-! V42: shifts. -/

theorem test_sll_sign_extends : gives (.sll 1 2 0) [(1, 0x180000000)] 2 0xFFFFFFFF80000000 = true := by decide +kernel
theorem test_srl_sign_extends : gives (.srl 1 2 0) [(1, 0x80000000)] 2 0xFFFFFFFF80000000 = true := by decide +kernel
theorem test_sra : gives (.sra 1 2 31) [(1, 0x80000000)] 2 0xFFFFFFFFFFFFFFFF = true := by decide +kernel
theorem test_sllv_count : gives (.sllv 2 1 3) [(1, 1), (2, 0x21)] 3 2 = true := by decide +kernel
theorem test_srlv :
    gives (.srlv 2 1 3) [(1, 0xFFFFFFFFF0000000), (2, 0xFFFFFFFFFFFFFFFC)] 3 0xF = true := by decide +kernel
theorem test_srav : gives (.srav 2 1 3) [(1, 0xFFFFFFFFF0000000), (2, 4)] 3 0xFFFFFFFFFF000000 = true := by decide +kernel
theorem test_dsll : gives (.dsll 1 2 31) [(1, 3)] 2 0x180000000 = true := by decide +kernel
theorem test_dsrl : gives (.dsrl 1 2 1) [(1, 0x8000000000000001)] 2 0x4000000000000000 = true := by decide +kernel
theorem test_dsra : gives (.dsra 1 2 1) [(1, 0x8000000000000001)] 2 0xC000000000000000 = true := by decide +kernel
theorem test_dsllv : gives (.dsllv 2 1 3) [(1, 1), (2, 0x7F)] 3 0x8000000000000000 = true := by decide +kernel
theorem test_dsrlv :
    gives (.dsrlv 2 1 3) [(1, 0x8000000000000000), (2, 0x40)] 3 0x8000000000000000 = true := by decide +kernel
theorem test_dsrav :
    gives (.dsrav 2 1 3) [(1, 0x8000000000000000), (2, 0x3F)] 3 0xFFFFFFFFFFFFFFFF = true := by decide +kernel
theorem test_dsll32 : gives (.dsll32 1 2 0) [(1, 0xFFFFFFFF)] 2 0xFFFFFFFF00000000 = true := by decide +kernel
theorem test_dsrl32 : gives (.dsrl32 1 2 31) [(1, 0x8000000000000000)] 2 1 = true := by decide +kernel
theorem test_dsra32 : gives (.dsra32 1 2 0) [(1, 0x8000000000000000)] 2 0xFFFFFFFF80000000 = true := by decide +kernel

/-! V43 and V49: jumps and branches, up to their delay slots. -/

/-- After a branch: the pc and the pending target. -/
def goes (i : Instr) (s : State) (pc : Word) (target : Option Word) : Bool := after i s fun t => t.pc == pc && t.delay == target

theorem test_beq_taken :
    goes (.beq 1 2 3) (withRegs [(1, 4), (2, 4)] kernel) 0xFFFFFFFF80001004 (some 0xFFFFFFFF80001010) = true := by decide +kernel
theorem test_bne_backwards :
    goes (.bne 1 2 0xFFFF) (withRegs [(1, 4), (2, 5)] kernel) 0xFFFFFFFF80001004 (some 0xFFFFFFFF80001000) = true := by decide +kernel
theorem test_beql_nullifies :
    goes (.beql 1 2 3) (withRegs [(1, 4), (2, 5)] kernel) 0xFFFFFFFF80001008 none = true := by decide +kernel
theorem test_bgtz_64_bits :
    goes (.bgtz 1 2) (withRegs [(1, 0x8000000000000000)] kernel) 0xFFFFFFFF80001004 (some 0xFFFFFFFF80001008) = true := by decide +kernel
theorem test_bltz_bit_63 :
    goes (.bltz 1 2) (withRegs [(1, 0x80000000)] kernel) 0xFFFFFFFF80001004 (some 0xFFFFFFFF80001008) = true := by decide +kernel
theorem test_bltzal_links_untaken :
    after (.bltzal 1 2) (withRegs [(1, 1)] kernel) (fun t => gprRead t 31 == 0xFFFFFFFF80001008) = true := by decide +kernel
theorem test_bgezall_links_untaken : after (.bgezall 1 2) (withRegs [(1, 0xFFFFFFFFFFFFFFFF)] kernel)
    (fun t => gprRead t 31 == 0xFFFFFFFF80001008 && t.pc == 0xFFFFFFFF80001008) = true := by decide +kernel
theorem test_jal : after (.jal 0x3FFFFFF) kernel
    (fun t => gprRead t 31 == 0xFFFFFFFF80001008 && t.delay == some 0xFFFFFFFF8FFFFFFC) = true := by decide +kernel
theorem test_jr :
    goes (.jr 1 0) (withRegs [(1, 0xFFFFFFFF80003002)] kernel) 0xFFFFFFFF80001004 (some 0xFFFFFFFF80003002) = true := by decide +kernel
theorem test_bc1f_taken :
    goes (.bc1f 7 0xFFFE) (fpu 0x7E800000 []) 0xFFFFFFFF80001004 (some 0xFFFFFFFF80000FFC) = true := by decide +kernel
theorem test_bc1tl_nullifies : goes (.bc1tl 2 3) (fpu 0x00800000 []) 0xFFFFFFFF80001008 none = true := by decide +kernel
theorem test_branch_in_slot_stops :
    faults (.j 0) { kernel with delay := some 0 } .branchInDelaySlot = true := by decide +kernel

/-! V44: loads and stores. The bytes 80 11 22 33 C4 55 66 F7 stand at physical address 0x2000. -/

/-- The memory of V44; x1 holds its address in ckseg0, which is uncached while Config0.K0 is 2. -/
def loaded : State := withRegs [(1, 0xFFFFFFFF80002000)] (withBytes 0x2000 [0x80, 0x11, 0x22, 0x33, 0xC4, 0x55, 0x66, 0xF7] kernel)

/-- The same bytes at the same addresses in little-endian order: the lanes of a doubleword run the other way. -/
def loadedLe : State :=
  { withRegs [(1, 0xFFFFFFFF80002000)] (withBytes 0x2000 [0xF7, 0x66, 0x55, 0xC4, 0x33, 0x22, 0x11, 0x80] kernel) with
    latches := { bigEndian := false, bus32 := false, clockMult := 0 } }

/-- Register 2 after a load. -/
def loads (i : Instr) (s : State) (v : Word) : Bool := after i s fun t => gprRead t 2 == v

/-- The doubleword at 0x2000, lane by lane, as the loads see it after a store of register 2. -/
def stores (i : Instr) (s : State) (x2 : Word) (d : Word) : Bool :=
  after i (withRegs [(2, x2)] s) fun t => joinBytes (readBytes (memView t) 0x2000 8) == d

theorem test_lb : loads (.lb 1 2 0) loaded 0xFFFFFFFFFFFFFF80 = true := by decide +kernel
theorem test_lbu : loads (.lbu 1 2 7) loaded 0xF7 = true := by decide +kernel
theorem test_lh : loads (.lh 1 2 0) loaded 0xFFFFFFFFFFFF8011 = true := by decide +kernel
theorem test_lhu_little_endian : loads (.lhu 1 2 6) loadedLe 0xF766 = true := by decide +kernel
theorem test_lw : loads (.lw 1 2 4) loaded 0xFFFFFFFFC45566F7 = true := by decide +kernel
theorem test_lwu_little_endian : loads (.lwu 1 2 4) loadedLe 0xF76655C4 = true := by decide +kernel
theorem test_ld : loads (.ld 1 2 0) loaded 0x80112233C45566F7 = true := by decide +kernel
theorem test_lwl : loads (.lwl 1 2 1) (withRegs [(2, 0xAABBCCDD)] loaded) 0x112233DD = true := by decide +kernel
theorem test_lwl_little_endian :
    loads (.lwl 1 2 1) (withRegs [(2, 0xAABBCCDD)] loadedLe) 0x1180CCDD = true := by decide +kernel
theorem test_lwr : loads (.lwr 1 2 1) (withRegs [(2, 0xAABBCCDD)] loaded) 0xFFFFFFFFAABB8011 = true := by decide +kernel
theorem test_lwr_little_endian :
    loads (.lwr 1 2 1) (withRegs [(2, 0xAABBCCDD)] loadedLe) 0xFFFFFFFFAA332211 = true := by decide +kernel
theorem test_ldl :
    loads (.ldl 1 2 3) (withRegs [(2, 0x0102030405060708)] loaded) 0x33C45566F7060708 = true := by decide +kernel
theorem test_ldr :
    loads (.ldr 1 2 3) (withRegs [(2, 0x0102030405060708)] loaded) 0x0102030480112233 = true := by decide +kernel
theorem test_sb : stores (.sb 1 2 3) loaded 0x1234 0x80112234C45566F7 = true := by decide +kernel
theorem test_sh_little_endian : stores (.sh 1 2 2) loadedLe 0x12345678 0xF76655C456781180 = true := by decide +kernel
theorem test_sw : stores (.sw 1 2 4) loaded 0x1122334455667788 0x8011223355667788 = true := by decide +kernel
theorem test_sd_little_endian :
    stores (.sd 1 2 0) loadedLe 0x1122334455667788 0x1122334455667788 = true := by decide +kernel
theorem test_swl : stores (.swl 1 2 1) loaded 0xAABBCCDD 0x80AABBCCC45566F7 = true := by decide +kernel
theorem test_swr : stores (.swr 1 2 1) loaded 0xAABBCCDD 0xCCDD2233C45566F7 = true := by decide +kernel
theorem test_sdl : stores (.sdl 1 2 5) loaded 0x0102030405060708 0x80112233C4010203 = true := by decide +kernel
theorem test_sdr : stores (.sdr 1 2 5) loaded 0x0102030405060708 0x03040506070866F7 = true := by decide +kernel
theorem test_ll_links :
    after (.ll 1 2 0) loaded (fun t => t.llbit && gprRead t 2 == 0xFFFFFFFF80112233) = true := by decide +kernel
theorem test_sc_succeeds : after (.sc 1 3 0) { withRegs [(3, 0x55)] loaded with llbit := true }
    (fun t => gprRead t 3 == 1 && !t.llbit && readBytes (memView t) 0x2000 4 == [0, 0, 0, 0x55]) = true := by decide +kernel
theorem test_sc_fails : after (.sc 1 3 0) (withRegs [(3, 0x55)] loaded)
    (fun t => gprRead t 3 == 0 && t.wbuf == []) = true := by decide +kernel
/-- `loaded` with the data cache initialised and kseg0 cached; the bus answers the read of the line of 0x3000 with an error. -/
def fillFails : State :=
  { withRegs [(1, 0xFFFFFFFF80003000), (3, 0x55)] loaded with
    llbit := true
    dcache := { lines := [], ws := [], tagInit := ~~~0, wsInit := ~~~0 }
    conf := { kernel.conf with busErrors := [{ base := 0x3000, size := 4 }] }
    cp0 := { kernel.cp0 with config0 := { kernel.cp0.config0 with k0 := 3 } } }

theorem test_sc_of_a_failing_fill : after (.sc 1 3 0) fillFails
    (fun t => gprRead t 3 == 0x55 && t.llbit && t.mem == fillFails.mem) = true := by decide +kernel
theorem test_store_of_a_failing_fill : after (.sw 1 3 0) fillFails
    (fun t => t.lateError.isSome && t.dcache == fillFails.dcache && t.wbuf == []) = true := by decide +kernel
theorem test_write_through_of_a_failing_fill : after (.sw 1 3 0)
    { fillFails with wbuf := [{ key := 0x3100, bytes := [9] }], cp0 := { fillFails.cp0 with config0 := { fillFails.cp0.config0 with k0 := 1 } } }
    (fun t => t.lateError.isSome && t.dcache == fillFails.dcache && t.wbuf == [] && t.codeStores == fillFails.codeStores
      && readByte t.mem 0x3100 == 9 && (List.range 8).all fun i => readByte t.mem (0x3000 + i) == readByte fillFails.mem (0x3000 + i)) = true := by
  decide +kernel
theorem test_lw_misaligned : (traps (.lw 1 2 2) loaded 4
    && after (.lw 1 2 2) loaded fun t => t.cp0.badVAddr == 0xFFFFFFFF80002002) = true := by decide +kernel
theorem test_sync_drains : after (.sync 0) { loaded with wbuf := [{ key := 0x2000, bytes := [1] }] }
    (fun t => t.wbuf == [] && readByte t.mem 0x2000 == 1) = true := by decide +kernel

/-! V45: traps. -/

theorem test_teq_traps : traps (.teq 1 2 0) (withRegs [(1, 5), (2, 5)] kernel) 13 = true := by decide +kernel
theorem test_tge_signed :
    goes (.tge 1 2 0) (withRegs [(1, 0xFFFFFFFFFFFFFFFF), (2, 1)] kernel) 0xFFFFFFFF80001004 none = true := by decide +kernel
theorem test_tgeu_traps :
    traps (.tgeu 1 2 0) (withRegs [(1, 0xFFFFFFFFFFFFFFFF), (2, 1)] kernel) 13 = true := by decide +kernel
theorem test_tltiu_traps : traps (.tltiu 1 0xFFFF) (withRegs [(1, 5)] kernel) 13 = true := by decide +kernel
theorem test_teqi_traps :
    traps (.teqi 1 0x8000) (withRegs [(1, 0xFFFFFFFFFFFF8000)] kernel) 13 = true := by decide +kernel
theorem test_syscall_in_slot : after (.syscall 0) { kernel with pc := 0xFFFFFFFF80001004, delay := some 0 } (fun t =>
    t.cp0.epc == 0xFFFFFFFF80001000 && t.cp0.cause.bd && t.cp0.cause.excCode == 8 && t.delay == none) = true := by decide +kernel
theorem test_break_with_bev_clear : after (.breakpoint 0) (withStatus (fun x => { x with bev := false }) kernel)
    (fun t => t.cp0.cause.excCode == 9 && t.pc == 0xFFFFFFFF80000180) = true := by decide +kernel

/-! V46: coprocessor 0. -/

theorem test_mfc0_prid : gives (.mfc0 2 15 0) [] 2 0x12348101 = true := by decide +kernel
theorem test_mfc0_config1 : gives (.mfc0 2 16 1) [] 2 0x5E633193 = true := by decide +kernel
theorem test_mtc0_status :
    after (.mtc0 1 12 0) (withRegs [(1, 0xFFFFFFFFF7FFFFE7)] (withStatus (fun x => { x with erl := true, bev := false, fr := true }) kernel))
    (fun t => packStatus t == 0x36E8FFE7) = true := by decide +kernel
theorem test_mtc0_cause :
    after (.mtc0 1 13 0) (withRegs [(1, 0xFFFFFFFF)] kernel) (fun t => packCause t == 0x00800300) = true := by decide +kernel
theorem test_dmtc0_epc : after (.dmtc0 1 14 0) (withRegs [(1, 0x123456789ABCDEF0)] kernel)
    (fun t => t.cp0.epc == 0x123456789ABCDEF0) = true := by decide +kernel
theorem test_dmfc0_epc : after (.dmfc0 2 14 0) { kernel with cp0 := { kernel.cp0 with epc := 0x123456789ABCDEF0 } }
    (fun t => gprRead t 2 == 0x123456789ABCDEF0) = true := by decide +kernel
theorem test_dmfc0_absent : gives (.dmfc0 2 7 0) [(2, 5)] 2 0 = true := by decide +kernel
theorem test_mfc0_in_user_mode : traps (.mfc0 2 12 0) user 11 = true := by decide +kernel
theorem test_eret_from_exl : after .eret { withStatus (fun x => { x with exl := true }) kernel with llbit := true }
    (fun t => t.pc == 0 && !t.cp0.status.exl && !t.llbit) = true := by decide +kernel
theorem test_eret_from_erl :
    after .eret { kernel with cp0 := { kernel.cp0 with errorEpc := 0xFFFFFFFF80004000, status := { kernel.cp0.status with exl := true, erl := true } } }
      (fun t => t.pc == 0xFFFFFFFF80004000 && t.cp0.status.exl && !t.cp0.status.erl) = true := by decide +kernel

/-- The registers of the TLBWI of V46. -/
def tlbRegs : State :=
  { kernel with cp0 := { kernel.cp0 with
      index := { p := false, index := 3 }
      entryHi := { r := 0, vpn2 := 0x10, asid := 7 }
      entryLo0 := { pfn := 0x100, c := 3, d := true, v := true, g := true }
      entryLo1 := { pfn := 0x101, c := 3, d := true, v := true, g := true } } }

/-- TLB[3] of V46. -/
def entry3 : TlbEntry where
  mask := 0
  r := 0
  vpn2 := 0x10
  g := true
  asid := 7
  even := { pfn := 0x100, c := 3, d := true, v := true }
  odd := { pfn := 0x101, c := 3, d := true, v := true }
  valid := true

/-- The state with TLB[3] of V46. -/
def mapped : State := setTlb tlbRegs 3 entry3

theorem test_tlbwi :
    after .tlbwi tlbRegs (fun t => t.tlb[3] == entry3 && t.tlb[2] == TlbEntry.reset) = true := by decide +kernel
theorem test_tlbp_global :
    after .tlbp { mapped with cp0 := { mapped.cp0 with entryHi := { r := 0, vpn2 := 0x10, asid := 0x99 }, index := { p := true, index := 0 } } }
    (fun t => t.cp0.index == { p := false, index := 3 }) = true := by decide +kernel
theorem test_tlbp_none : after .tlbp tlbRegs (fun t => t.cp0.index.p) = true := by decide +kernel
theorem test_tlbr :
    after .tlbr { setTlb kernel 3 entry3 with cp0 := { kernel.cp0 with index := { p := false, index := 3 } } }
    (fun t => t.cp0.entryHi == tlbRegs.cp0.entryHi && t.cp0.entryLo1 == tlbRegs.cp0.entryLo1) = true := by decide +kernel
theorem test_tlbwr_steps_random :
    (stepRandom { tlbRegs with cp0 := { tlbRegs.cp0 with wired := 8 } }).cp0.random = 46 := by decide +kernel
theorem test_tlbwr_wraps_random :
    (stepRandom { tlbRegs with cp0 := { tlbRegs.cp0 with wired := 47 } }).cp0.random = 47 := by decide +kernel
theorem test_tlbwi_second_match :
    after .tlbwi { mapped with cp0 := { mapped.cp0 with index := { p := false, index := 4 } } }
    (fun t => t.cp0.cause.excCode == 24 && t.cp0.status.ts) = true := by decide +kernel
theorem test_wait_sleeps :
    after (.wait 0) kernel (fun t => t.sleeping && t.pc == 0xFFFFFFFF80001004) = true := by decide +kernel

/-- A data cache that software has initialised, with one dirty line: way 2, line 0, tag 2, all bytes 0xAB. -/
def cached : State :=
  { kernel with
    dcache := {
      lines := [(256, { tag := 2, v := true, l := false, dirty := true, data := Vector.replicate 32 0xAB })]
      ws := []
      tagInit := ~~~0
      wsInit := ~~~0 }
    cp0 := { kernel.cp0 with config0 := { kernel.cp0.config0 with k0 := 3 } } }

theorem test_cache_index_invalidate : after (.cache 1 0 0)
    { withRegs [(1, 0xFFFFFFFF80003040)] kernel with
      icache := { State.reset.icache with lines := [(386, { tag := 2, v := true, l := true, dirty := false, data := Vector.replicate 32 0 })] } }
    (fun t => !(getLine t.icache 3 2).v && !(getLine t.icache 3 2).l && (getLine t.icache 3 2).tag == 2) = true := by decide +kernel
theorem test_cache_hit_writeback : after (.cache 1 21 0) (withRegs [(1, 0xFFFFFFFF80002000)] cached)
    (fun t => !(getLine t.dcache 2 0).v && t.wbuf == [{ key := 0x2000, bytes := List.replicate 32 0xAB }]) = true := by decide +kernel
theorem test_cached_load_hits :
    loads (.lw 1 2 4) (withRegs [(1, 0xFFFFFFFF80002000)] cached) 0xFFFFFFFFABABABAB = true := by decide +kernel

/-! V47: FPU arithmetic. -/

theorem test_v47_1 : givesS (.addS 2 0 4) 0 [(0, 0x3F800000), (2, 0x40000000)] 4 0x40400000 0 = true := by decide +kernel
theorem test_v47_3_rounds_up :
    givesS (.addS 2 0 4) 2 [(0, 0x3F800000), (2, 0x33800000)] 4 0x3F800001 0x1006 = true := by decide +kernel
theorem test_v47_7 :
    givesD (.subD 2 0 4) 1 [(0, 0x3FF0000000000000), (2, 0x3CA0000000000000)] 4 0x3FEFFFFFFFFFFFFF 1 = true := by decide +kernel
theorem test_v47_9_inf_minus_inf :
    trapsFp (.subS 2 0 4) 0x800 [(0, 0x7F800000), (2, 0x7F800000)] 0x10800 = true := by decide +kernel
theorem test_v47_21_overflow :
    givesS (.mulS 2 0 4) 0 [(0, 0x7F7FFFFF), (2, 0x40000000)] 4 0x7F800000 0x5014 = true := by decide +kernel
theorem test_v47_39_underflow :
    trapsFp (.mulS 2 0 4) 0 [(0, 0x00800000), (2, 0x3F000000)] 0x20000 = true := by decide +kernel
theorem test_v47_18_divide_by_zero :
    givesS (.divS 2 0 4) 0 [(0, 0x3F800000), (2, 0x80000000)] 4 0xFF800000 0x8020 = true := by decide +kernel
theorem test_v47_43 :
    givesD (.divD 2 0 4) 2 [(0, 0x3FF0000000000000), (2, 0x4008000000000000)] 4 0x3FD5555555555556 0x1006 = true := by decide +kernel
theorem test_v47_45_abs_of_nan : trapsFp (.absS 0 4) 0x800 [(0, 0xFFC00000)] 0x10800 = true := by decide +kernel
theorem test_v47_46_neg : givesD (.negD 0 4) 0 [] 4 0x8000000000000000 0 = true := by decide +kernel
theorem test_v47_49_sqrt :
    givesD (.sqrtD 0 4) 0 [(0, 0x4000000000000000)] 4 0x3FF6A09E667F3BCD 0x1004 = true := by decide +kernel
theorem test_v47_54_recip :
    givesD (.recipD 0 4) 0 [(0, 0x4008000000000000)] 4 0x3FD5555555555555 0x1004 = true := by decide +kernel
theorem test_v47_55_madd :
    givesS (.maddS 6 2 0 4) 0 [(0, 0x40000000), (2, 0x40400000), (6, 0x3F800000)] 4 0x40E00000 0 = true := by decide +kernel
theorem test_v47_56_not_fused :
    givesS (.msubS 6 2 0 4) 0 [(0, 0x3F800800), (2, 0x3F800800), (6, 0x3F801000)] 4 0 0x1004 = true := by decide +kernel
theorem test_v47_59_nmadd :
    givesS (.nmaddS 6 2 0 4) 0 [(0, 0x3F800000), (2, 0x3F800000), (6, 0xBF800000)] 4 0x80000000 0 = true := by decide +kernel
theorem test_v47_58_nmsub :
    givesS (.nmsubS 6 2 0 4) 0 [(0, 0x40000000), (2, 0x40400000), (6, 0x3F800000)] 4 0xC0A00000 0 = true := by decide +kernel

/-! V48: FPU transfers. -/

theorem test_mtc1_upper_of_pair :
    after (.mtc1 1 3) (withRegs [(1, 0x40080000)] (withStatus (fun x => { x with cu1 := true }) kernel))
    (fun t => fpr64 t 2 == 0x4008000000000000) = true := by decide +kernel
theorem test_mfc1 :
    after (.mfc1 3 2) (fpu 0 [(2, 0x12345678BF800000)]) (fun t => gprRead t 3 == 0xFFFFFFFFBF800000) = true := by decide +kernel
theorem test_dmtc1_odd_stops :
    faults (.dmtc1 1 3) (withStatus (fun x => { x with cu1 := true }) kernel) .oddFprWithFr0 = true := by decide +kernel
theorem test_lwc1 :
    after (.lwc1 1 2 4) (withStatus (fun x => { x with cu1 := true }) loaded) (fun t => fpr32 t 2 == 0xC45566F7) = true := by decide +kernel
theorem test_sdc1_pair :
    stores (.sdc1 1 2 0) (withFprs [(3, 0x3FF00000)] (withStatus (fun x => { x with cu1 := true }) loaded)) 0
    0x3FF0000000000000 = true := by decide +kernel
theorem test_luxc1_aligns :
    after (.luxc1 1 2 4) (withRegs [(2, 5)] (withStatus (fun x => { x with cu1 := true, fr := true }) loaded))
    (fun t => fpr64 t 4 == 0x80112233C45566F7) = true := by decide +kernel
theorem test_luxc1_reports_the_address : after (.luxc1 1 2 4) (withRegs [(1, 0x10000000000), (2, 5)] (fpu 0 [])) (fun t =>
    t.cp0.cause.excCode == 4 && (t.cp0.badVAddr == 0x10000000005 || t.cp0.badVAddr == 0x10000000000)) = true := by
  simp only [after, exec, execLuxc1]
  rcases Laws.luxc1Reported_cases (baseIndex (withRegs [(1, 0x10000000000), (2, 5)] (fpu 0 [])) 1 2) with h | h <;> rw [h] <;>
    decide +kernel
theorem test_suxc1_reports_the_address : after (.suxc1 1 2 4)
    (withRegs [(1, 0x10000000000), (2, 5)] (fpu 0 [])) (fun t => t.cp0.badVAddr == 0x10000000005 && t.cp0.cause.excCode == 5) = true := by
  decide +kernel
theorem test_cfc1_fenr :
    after (.cfc1 2 28) (fpu 0x01000F83 []) (fun t => gprRead t 2 == 0xF87) = true := by decide +kernel
theorem test_ctc1_fcsr :
    after (.ctc1 1 31) (withRegs [(1, 0xFFFFFFFFFFFC0FFF)] (fpu 0 [])) (fun t => packFcsr t.fcsr == 0xFF800FFF) = true := by decide +kernel
theorem test_ctc1_fenr_traps : (traps (.ctc1 1 28) (withRegs [(1, 0x87)] (fpu 0x1004 [])) 15
    && after (.ctc1 1 28) (withRegs [(1, 0x87)] (fpu 0x1004 [])) fun t => packFcsr t.fcsr == 0x01001087) = true := by decide +kernel
theorem test_mov_copies_nan : givesS (.movS 0 2) 0x800 [(0, 0x7FC00000)] 2 0x7FC00000 0x800 = true := by decide +kernel
theorem test_movt_s_of_odd_registers : goes (.movtS 0 1 3) (fpu0 0 []) 0xFFFFFFFF80001004 none
    && faults (.movfS 0 1 3) (fpu0 0 []) .oddFprWithFr0 = true := by decide +kernel
theorem test_movn_s :
    after (.movnS 3 0 2) (withRegs [(3, 0x100000000)] (fpu0 0 [(0, 0x3F800000)])) (fun t => fpr32 t 2 == 0x3F800000) = true := by decide +kernel

/-! V49: conversions and compares. -/

theorem test_v49_3_cvt_w : givesS (.cvtWS 0 2) 2 [(0, 0x40200000)] 2 3 0x1006 = true := by decide +kernel
theorem test_v49_14_round : givesS (.roundWD 0 2) 0 [(1, 0x3FF80000)] 2 2 0x1004 = true := by decide +kernel
theorem test_v49_16_does_not_fit : trapsFp (.roundWD 0 2) 0 [(0, 0x41DFFFFFFFE00000)] 0x20000 = true := by decide +kernel
theorem test_v49_10_trunc : givesS (.truncWS 0 2) 3 [(0, 0xC0200000)] 2 0xFFFFFFFE 0x1007 = true := by decide +kernel
theorem test_v49_28_ceil : givesD (.ceilLS 0 2) 0 [(0, 0x3F000000)] 2 1 0x1004 = true := by decide +kernel
theorem test_v49_27_floor :
    givesD (.floorLD 0 2) 0 [(0, 0xBFF8000000000000)] 2 0xFFFFFFFFFFFFFFFE 0x1004 = true := by decide +kernel
theorem test_v49_31_narrow :
    givesS (.cvtSD 0 2) 0 [(0, 0x55555555), (1, 0x3FD55555)] 2 0x3EAAAAAB 0x1004 = true := by decide +kernel
theorem test_v49_42_widen : givesD (.cvtDS 0 2) 0 [(0, 0x3FC00000)] 2 0x3FF8000000000000 0 = true := by decide +kernel
theorem test_v49_47_long :
    givesD (.cvtDL 0 2) 0 [(0, 0xFFFFFFFFFFFFFFFF)] 2 0xBFF0000000000000 0 = true := by decide +kernel
theorem test_v49_45_word : givesD (.cvtDW 0 2) 0 [(0, 0x80000000)] 2 0xC1E0000000000000 0 = true := by decide +kernel
theorem test_c_le_sets :
    after (.cLeS 1 0 3) (fpu 0 [(0, 0xFF800000), (1, 0xFF7FFFFF)]) (fun t => t.fcsr.fcc == 0b00001000) = true := by decide +kernel
theorem test_c_un_of_nan :
    after (.cUnS 1 0 0) (fpu 0 [(0, 0x7FC00000), (1, 0x3F800000)]) (fun t => t.fcsr.fcc == 1) = true := by decide +kernel
theorem test_c_lt_of_nan_traps :
    trapsFp (.cLtS 1 0 0) 0x800 [(0, 0x7FC00000), (1, 0x3F800000)] 0x10800 = true := by decide +kernel

/-! V20 and V60: translation, exceptions, interrupts, the timer. -/

/-- V20-17, V20-23 and V20-27 with the TLB of V20. -/
def tlbV20 : State :=
  let e1 : TlbEntry := { mask := 3, r := 0, vpn2 := 0x200, g := false, asid := 5, even := { pfn := 0x4000, c := 3, d := false, v := true },
                         odd := { pfn := 0x4ABC, c := 2, d := true, v := false }, valid := true }
  let e2 : TlbEntry := { mask := 0xFFF, r := 3, vpn2 := 0x7FF0000, g := false, asid := 5, even := { pfn := 0x123000, c := 0, d := true, v := true },
                         odd := { pfn := 0x124000, c := 0, d := true, v := true }, valid := true }
  let s := setTlb (setTlb (setTlb kernel 0 entry3) 1 e1) 2 e2
  { s with cp0 := { s.cp0 with entryHi := { r := 0, vpn2 := 0, asid := 5 } } }

theorem test_v20_18 : translate tlbV20 0x21ABC .store = .ok 0x101ABC 3 := by decide +kernel
theorem test_v20_22 : translate tlbV20 0x402ABC .load = .ok 0x4002ABC 3 := by decide +kernel
theorem test_v20_23 : translate tlbV20 0x402ABC .store = .trap (.mod 0x402ABC) := by decide +kernel
theorem test_v20_25 : translate tlbV20 0x404000 .store = .trap (.tlbInvalid true 0x404000) := by decide +kernel
theorem test_v20_28 : translate tlbV20 0xFFFFFFFFE1ABCDEF .load = .ok 0x124ABCDEF 0 := by decide +kernel
theorem test_v20_8 :
    translate (withStatus (fun x => { x with kx := true }) kernel) 0x9800000FFFFFFFF8 .store = .ok 0xFFFFFFFF8 3 := by decide +kernel
theorem test_v60_7 :
    after (.sd 1 2 0) (withRegs [(1, 0x100002000)] (withStatus (fun x => { x with bev := false, kx := true, ux := true }) kernel))
    (fun t => t.pc == 0xFFFFFFFF80000080 && t.cp0.cause.excCode == 3 && t.cp0.entryHi.vpn2 == 0x80001 && t.cp0.context.badVpn2 == 1
      && t.cp0.xcontext.badVpn2 == 0x80001) = true := by decide +kernel

/-- The step answers a state with a property. -/
def steps (s : State) (p : State → Bool) : Bool :=
  match step s with
  | .next t => p t
  | _ => false

theorem test_v60_16_interrupt : steps { withStatus (fun x => { x with im := 1, ie := true }) kernel with
      pc := 0xFFFFFFFF80001004, delay := some 0, cp0 := { kernel.cp0 with
        cause := { kernel.cp0.cause with iv := true, ip := 1 }, status := { kernel.cp0.status with im := 1, ie := true } } }
    (fun t => t.pc == 0xFFFFFFFFBFC00400 && t.cp0.epc == 0xFFFFFFFF80001000 && t.cp0.cause.bd && t.cp0.cause.excCode == 0) = true := by decide +kernel
theorem test_v60_21_nmi : steps { kernel with nmiPending := true, cp0 := { kernel.cp0 with
      status := { kernel.cp0.status with bev := false, im := 0x84, ksu := 2, ie := true } } }
    (fun t => packStatus t == 0x00488415 && t.cp0.errorEpc == 0xFFFFFFFF80001000 && t.pc == 0xFFFFFFFFBFC00000) = true := by decide +kernel
theorem test_nmi_before_dbe :
    steps { kernel with nmiPending := true, lateError := some { left := 0, dest := .none, regs := none } }
    (fun t => t.pc == 0xFFFFFFFFBFC00000 && t.lateError.isSome && t.cp0.cause.excCode == 0) = true := by decide +kernel
theorem test_dbe_instead_of_a_dependent :
    steps (placeWord 0x00221820 { kernel with lateError := some { left := 1, dest := .gpr 2, regs := none } })
    (fun t => t.cp0.cause.excCode == 7 && t.cp0.epc == 0xFFFFFFFF80001000 && t.lateError == none) = true := by decide +kernel
theorem test_v60_t2_timer : steps (placeWord 0 { kernel with cp0 := { kernel.cp0 with compare := 0x100, count := 0xFF } })
    (fun t => t.timerRequest && t.cp0.count == 0x100) = true := by decide +kernel
theorem test_first_step_after_reset : steps (State.reset.withFetchWord 32 0x24050001)
    (fun t => gprRead t 5 == 1 && t.pc == 0xFFFFFFFFBFC00004) = true := by decide +kernel

/-! ## Witnesses: states and operands that meet the hypotheses of the obligations, at the boundaries of their clauses -/

/-- The fetch gives this word and this state. -/
def fetches (s : State) (w : HalfWord) (t : State) : Bool :=
  match fetchWord s s.pc with
  | .ok x u => x == w && u == t
  | _ => false

theorem fetches_ok {s t : State} {w : HalfWord} (h : fetches s w t = true) : fetchWord s s.pc = .ok w t := by
  unfold fetches at h
  split at h
  · simp only [Bool.and_eq_true, beq_iff_eq] at h
    obtain ⟨rfl, rfl⟩ := h
    assumption
  · cases h

/-- The outcome is a next state. -/
def isNext (o : Out) : Bool :=
  match o with
  | .next _ => true
  | _ => false

theorem isNext_next {o : Out} (h : isNext o = true) : ∃ t, o = .next t := by
  cases o <;> first | exact ⟨_, rfl⟩ | cases h

/-- No instruction has the word. -/
def isReserved (w : HalfWord) : Bool :=
  match decode w with
  | .ok _ => false
  | .error _ => true

theorem isReserved_decode {w : HalfWord} (h : isReserved w = true) : ∀ i, decode w ≠ .ok i := by
  intro i e
  simp [isReserved, e] at h

/-- Everything `Ready` asks for, as one test. -/
def readyNow (s : State) : Bool :=
  s.resetRequest.isNone && s.lateError.isNone && !s.nmiPending && !s.sleeping && !interruptDue s && !modeReserved s

theorem ready_of {s : State} (h : readyNow s = true) : Ready s := by
  simp only [readyNow, Bool.and_eq_true, Bool.not_eq_true', Option.isNone_iff_eq_none] at h
  exact ⟨h.1.1.1.1.1, h.1.1.1.1.2, h.1.1.1.2, h.1.1.2, h.1.2, h.2⟩

/-- A state that fetches the word and executes it. -/
theorem ready_and_fetches (s : State) (w : HalfWord) (h : (readyNow s && fetches s w s) = true) :
    Ready s ∧ fetchWord s s.pc = .ok w s := by
  rw [Bool.and_eq_true] at h
  exact ⟨ready_of h.1, fetches_ok h.2⟩

theorem witness_ColdResetOnRequest : ∃ (s : State) (m : Latches), s.resetRequest = some (.cold m) :=
  ⟨{ kernel with resetRequest := some (.cold kernel.latches) }, kernel.latches, rfl⟩

theorem witness_WarmResetOnRequest :
    (∃ s : State, s.resetRequest = some .warm ∧ s.delay = none) ∧ ∃ s : State, s.resetRequest = some .warm ∧ s.delay = some 0 :=
  ⟨⟨{ kernel with resetRequest := some .warm }, rfl, rfl⟩, ⟨{ kernel with resetRequest := some .warm, delay := some 0 }, rfl, rfl⟩⟩

theorem witness_EveryStepKeepsInv : ∃ s t : State, s.Inv ∧ step s = .next t := by
  have ⟨t, h⟩ := isNext_next (o := step (State.reset.withFetchWord 32 0x24050001)) (by decide +kernel)
  exact ⟨_, t, ⟨by decide +kernel, by unfold randomInRange; decide +kernel, by unfold zeroIsZero; decide +kernel⟩, h⟩

theorem witness_DecodeOfEncode : Instr.wellFormed (.sll 0 0 2) = true ∧ Instr.wellFormed (.sll 1 0 0) = true
    ∧ Instr.wellFormed (.add 31 31 31) = true := by decide

theorem witness_EncodeOfDecode : decode 0 = .ok .nop ∧ decode 0xF7FFFFFF = .ok (.sdc1 31 31 0xFFFF) := ⟨rfl, rfl⟩

theorem witness_StepRunsDecodedInstruction :
    ∃ (s t : State) (w : HalfWord) (i : Instr), Ready s ∧ fetchWord s s.pc = .ok w t ∧ decode w = .ok i :=
  have h := ready_and_fetches (placeWord 0x00221820 kernel) 0x00221820 (by decide +kernel)
  ⟨_, _, 0x00221820, .add 1 2 3, h.1, h.2, rfl⟩

/-- The initialised instruction cache holds the line of the pc in way 1; kseg0 is cached. -/
def fetchCached : State :=
  { kernel with
    icache := {
      lines := [(128, { tag := 1, v := true, l := false, dirty := false, data := Vector.replicate 32 0x24 })]
      ws := []
      tagInit := ~~~0
      wsInit := ~~~0 }
    cp0 := { kernel.cp0 with config0 := { kernel.cp0.config0 with k0 := 3 } } }

/-- The bus answers a read of the word at the pc with an error. -/
def fetchFails : State := { kernel with conf := { kernel.conf with busErrors := [{ base := 0x1003, size := 1 }] } }

theorem witness_FetchReadsTheWordAtPc :
    (kernel.pc.toNat % 4 = 0 ∧ translate kernel kernel.pc .fetch = .ok 0x1000 2 ∧ holdsCopy kernel.icache 0x1000 = false
      ∧ readFails kernel (busAddress kernel 0x1000) 4 = false ∧ storedWords kernel 0x1000 false = [])
    ∧ storedWords (noteStore kernel 0x1000 0x1003 1) 0x1000 false = [0, 0]
    ∧ (readFails fetchFails (busAddress fetchFails 0x1000) 4 = true ∧ readyNow fetchFails = true)
    ∧ (translate fetchCached fetchCached.pc .fetch = .ok 0x1000 3 ∧ cacheReady fetchCached.icache = true
      ∧ hitWays fetchCached.icache 0x1000 = [1] ∧ storedWords fetchCached 0x1000 true = [])
    ∧ (let s : State := { kernel with pc := kernel.pc + 2 }; s.pc.toNat % 4 ≠ 0 ∧ readyNow s = true)
    ∧ (let s : State := { user with pc := 0x80000000 }; segmentAccessible s (segmentOf s.pc) = false ∧ readyNow s = true) := by
  decide +kernel

/-- A cached fetch that misses, with every way unlocked, with every way locked, and with a bus error. -/
theorem witness_FetchReadsTheWordAtPc_miss :
    let s : State := { fetchCached with icache := { fetchCached.icache with lines := [] } }
    let x : CacheLine := { tag := 9, v := true, l := true, dirty := false, data := Vector.replicate 32 0 }
    let pa : PAddr := s.pc.extractLsb' 0 36 &&& 0x1FFFFFFF
    translate s s.pc .fetch = .ok pa 3 ∧ cacheReady s.icache = true ∧ cacheWf s.icache = true ∧ hitWays s.icache pa = []
    ∧ unlockedWays s.icache pa = [0, 1, 2, 3] ∧ readFails s (lineKey s (tagOf pa) (lineOf pa)) 32 = false
    ∧ storedWords (waited s) pa true = []
    ∧ unlockedWays { s.icache with lines := [(lineOf pa, x), (128 + lineOf pa, x), (256 + lineOf pa, x), (384 + lineOf pa, x)] } pa = []
    ∧ readFails { s with conf := { s.conf with busErrors := [{ base := pa.toNat, size := 1 }] } }
        (lineKey s (tagOf pa) (lineOf pa)) 32 = true := by
  unfold waited; decide +kernel

/-- A word store to uncached memory at 0x1000, a dirty line of the data cache, and Hit Invalidate at a cached address. -/
theorem witness_SyncEmptiesTheWriteBuffer :
    kernel.canonical = true ∧ dataBigEndian kernel = kernel.latches.bigEndian
    ∧ (0xFFFFFFFFA0001000 : Word).toNat % 4 = 0 ∧ translate kernel 0xFFFFFFFFA0001000 .store = .ok 0x1000 2
    ∧ holdsCopy kernel.dcache 0x1000 = false ∧ Holds kernel 0x1000 4 ((0 : HalfWord).setWidth 64)
    ∧ cached.canonical = true ∧ heldDirty cached (fetchLane cached 0x1000 / 32) = false ∧ heldDirty cached (fetchLane cached 0x2000 / 32) = true
    ∧ cp0Usable cached = true ∧ cached.cp0.errCtl.wst = false ∧ translate cached 0xFFFFFFFF80001000 .load = .ok 0x1000 3 := by
  unfold Holds; decide +kernel

/-- `kernel` after SW of a word to uncached 0x1000, in either byte order. -/
def storedOnce (big : Bool) (v : Word) (s : State) : State :=
  let s := withRegs [(1, 0xFFFFFFFFA0001000), (2, v)] { s with latches := { s.latches with bigEndian := big } }
  match exec (.sw 1 2 0) s with
  | .next t => t
  | _ => s

/-- R256 and D6: a fetch of a word stored to without the recipe gives the old word or the new one. -/
theorem test_stored_words : ([true, false].all fun big => [true, false].all fun c =>
    storedWords (storedOnce big 0x11223344 (withBytes 0x1000 [1, 2, 3, 4, 5, 6, 7, 8] kernel)) 0x1000 c
      == [0x11223344, if big then 0x01020304 else 0x05060708]
    && storedWords (storedOnce big 7 (storedOnce big 9 kernel)) 0x1000 c == [7, 9, 0]
    && storedWords (storedOnce big 7 kernel) 0x1004 c == []) = true := by decide +kernel

/-- R256: after SYNC and a taken jump an uncached fetch reads memory, whatever is stored later to the same line; a cached one
still needs Hit Invalidate. -/
theorem test_later_store_to_the_line :
    (let s := noteJump (noteSync (drainAll (storedOnce true 0x11223344 kernel)))
     let t := storeOut s 0x101C 0x101C [0, 0, 0, 1]
     storedWords t 0x1000 false == [] && storedWords t 0x101C false == [1, 0] && storedWords t 0x1000 true == [0x11223344, 0]) = true := by
  decide +kernel

/-- A word that no instruction has is fetched where a step executes. -/
def reservedHere (w : HalfWord) : Bool :=
  readyNow (placeWord w kernel) && fetches (placeWord w kernel) w (placeWord w kernel) && isReserved w

theorem witness_ReservedWordsTrap :
    reservedHere 0x48000000 = true ∧ reservedHere 0xFBFFFFFF = true ∧ reservedHere 0x74000000 = true
    ∧ reservedHere 0xEFFFFFFF = true ∧ reservedHere 0x42000010 = true ∧ reservedHere 0x46000016 = true
    ∧ reservedHere 0x4C00003F = true ∧ reservedHere 0x00020001 = true := by decide +kernel

/-- A reserved word of each opcode that has some and no coprocessor: 0, 1, 6, 7, 15, 22, 23 and 28. -/
theorem witness_ReservedWordsTrap_ri :
    reservedHere 0x00000005 = true ∧ reservedHere 0x041F0000 = true ∧ reservedHere 0x18010000 = true
    ∧ reservedHere 0x1C1F0000 = true ∧ reservedHere 0x3C200000 = true ∧ reservedHere 0x58010000 = true
    ∧ reservedHere 0x5C010000 = true ∧ reservedHere 0x70000003 = true := by decide +kernel

theorem witness_ReservedWordsTrap_other :
    (readyNow (placeWord 0x24050001 kernel) && fetches (placeWord 0x24050001 kernel) 0x24050001 (placeWord 0x24050001 kernel)) = true
    ∧ (0x24050001 : HalfWord).extractLsb' 26 6 = 9 := by decide +kernel

theorem witness_ReservedWordsTrap_modes :
    currentMode kernel = .kernel ∧ currentMode user ≠ .kernel ∧ user.cp0.status.cu0 = false
    ∧ (fpu 0 []).cp0.status.cu1 = true ∧ kernel.cp0.status.cu1 = false ∧ kernel.conf.unimplFpuIsFpe = false := by decide +kernel

/-- WORD_OPERAND_STRICT is set, and register 1 holds no sign-extended word. -/
def strict : State := { withRegs [(1, 0x80000000), (2, 0xFFFFFFFF80000000)] kernel with conf := { kernel.conf with wordOperandStrict := true } }

theorem test_addu_strict_completes : goes (.addu 1 2 3) strict 0xFFFFFFFF80001004 none = true := by decide +kernel

theorem witness_WordsOk :
    WordsOk kernel [1, 2] ∧ WordsOk strict [2] ∧ ¬ WordsOk strict [1, 2] ∧ exec64 strict = true := by
  unfold WordsOk; decide +kernel

/-- The largest sums that fit, and the smallest differences. -/
theorem witness_sums : Fits 32 (0x7FFFFFFE + 1) ∧ Fits 32 (-0x80000000 - 0) ∧ Fits 64 (0x7FFFFFFFFFFFFFFE + 1)
    ∧ Fits 64 (-0x8000000000000000 - 0) ∧ exec64 kernel = true := by unfold Fits; decide +kernel

theorem witness_SignedOverflowRaisesOv : ¬ Fits 32 (0x7FFFFFFF + 1) ∧ ¬ Fits 32 (-0x80000000 - 1)
    ∧ ¬ Fits 64 (0x7FFFFFFFFFFFFFFF + 1) ∧ ¬ Fits 64 (-0x8000000000000000 - 1) ∧ exec64 kernel = true := by
  unfold Fits; decide +kernel

/-- The three cases of a division: an ordinary one, by 0, and of the most negative number by -1. -/
theorem witness_DividesTowardZero : exec64 kernel = true
    ∧ ¬ ((BitVec.ofNat 32 2) = 0 ∨ ((7 : BitVec 32) = BitVec.intMin 32 ∧ (BitVec.ofNat 32 2) = -1))
    ∧ ((0xFFFFFFFF80000000 : Word).extractLsb' 0 32 = BitVec.intMin 32 ∧ (0xFFFFFFFFFFFFFFFF : Word).extractLsb' 0 32 = -1)
    ∧ ((0x8000000000000000 : Word) = BitVec.intMin 64 ∧ (0xFFFFFFFFFFFFFFFF : Word) = -1) := by decide +kernel

theorem witness_MovesAmongRegisters :
    (fpu 0x00800000 []).cp0.status.cu1 = true ∧ (fpu 0x00800000 []).fcsr.fcc.getLsbD 0 = true
    ∧ (fpu 0x00800000 []).fcsr.fcc.getLsbD 7 = false ∧ kernel.cp0.status.cu1 = false ∧ gprRead kernel 0 = 0
    ∧ gprRead (withRegs [(1, 0x100000000)] kernel) 1 ≠ 0 := by decide +kernel

theorem witness_WordShifts : Instr.wellFormed (.sll 0 0 2) = true ∧ Instr.wellFormed (.sll 1 2 0) = true := by decide

theorem witness_branches :
    (fpu 0 []).delay = none ∧ (fpu 0 []).cp0.status.cu1 = true ∧ (30 : RegNum) ≠ 31 ∧ (1 : RegNum) ≠ 0 := by
  decide +kernel

/-- A state whose instruction stands in a delay slot. -/
def inSlot : State := { fpu 0 [] with pc := 0xFFFFFFFF80001004, delay := some 0xFFFFFFFF80002000 }

theorem witness_BranchInSlotStops :
    inSlot.delay.isSome = true ∧ inSlot.cp0.status.cu1 = true ∧ currentMode inSlot = .kernel
    ∧ (30 : RegNum) ≠ 31 := by decide +kernel

theorem witness_InstructionsWithoutEffect : (fpu 0 []).cp0.status.cu1 = true := by decide +kernel

/-- `loaded` with x1 in ckseg1, Exec64() true, CU1 = 1. -/
def uncached : State := withStatus (fun x => { x with cu1 := true }) (withRegs [(1, 0xFFFFFFFFA0002000)] loaded)

theorem witness_UncachedLoads :
    ∀ n ∈ [1, 2, 4, 8], UncachedLoad uncached (gprRead uncached 1 + (0 : BitVec 16).signExtend 64) n 0x2000
    ∧ Holds uncached 0x2000 n ((0x80112233C45566F7 : Word) >>> (64 - 8 * n)) := by
  unfold UncachedLoad Uncached Holds; decide +kernel

/-- The same where READ_OVERTAKES_WRITES is false. -/
theorem witness_UncachedLoads_waited :
    UncachedLoad { uncached with conf := { uncached.conf with readOvertakesWrites := false } } (gprRead uncached 1) 8 0x2000 := by
  unfold UncachedLoad Uncached; decide +kernel

theorem witness_UncachedPartialLoads : uncached.lateError = none ∧ ∀ k : Fin 8,
    translate uncached (gprRead uncached 1 + BitVec.ofNat 64 k.val) .load = .ok (0x2000 + BitVec.ofNat 36 k.val) 2
    ∧ holdsCopy uncached.dcache (0x2000 + BitVec.ofNat 36 k.val) = false
    ∧ readFails uncached (busAddress uncached ((0x2000 + BitVec.ofNat 36 k.val : PAddr).toNat / 8 * 8)) 8 = false := by decide +kernel

theorem witness_UncachedStores : Memory.wf uncached.mem = true ∧ exec64 uncached = true
    ∧ ∀ n ∈ [1, 2, 4, 8], Uncached uncached (gprRead uncached 1 + (0 : BitVec 16).signExtend 64) n .store 0x2000 := by
  unfold Uncached; decide +kernel

theorem witness_UncachedPartialStores : ∀ k : Fin 8,
    translate uncached (gprRead uncached 1 + BitVec.ofNat 64 k.val) .store = .ok (0x2000 + BitVec.ofNat 36 k.val) 2
    ∧ holdsCopy uncached.dcache (0x2000 + BitVec.ofNat 36 k.val) = false := by decide +kernel

theorem witness_LoadLinkedStoreConditional :
    uncached.llbit = false ∧ ({ uncached with llbit := true } : State).llbit = true
    ∧ Memory.wf uncached.mem = true ∧ Uncached uncached (gprRead uncached 1 + (0 : BitVec 16).signExtend 64) 8 .store 0x2000 := by
  unfold Uncached; decide +kernel

theorem witness_MisalignedAccessesRaiseAddressErrors :
    (gprRead uncached 1 + (1 : BitVec 16).signExtend 64).toNat % 2 ≠ 0 ∧ (gprRead uncached 1 + (2 : BitVec 16).signExtend 64).toNat % 4 ≠ 0
    ∧ (gprRead uncached 1 + (4 : BitVec 16).signExtend 64).toNat % 8 ≠ 0
    ∧ (gprRead uncached 1 + gprRead (withRegs [(2, 6)] uncached) 2).toNat % 4 ≠ 0
    ∧ exec64 uncached = true ∧ uncached.cp0.status.cu1 = true ∧ fprNumberOk uncached 30 = true
    ∧ ([0x10000000000, 0x3FFFFFFFFFFFFFFF].all fun x : Word =>
        let s := withRegs [(1, 0), (2, x)] uncached
        !segmentAccessible s (segmentOf (gprRead s 1 + gprRead s 2))) = true := by
  decide +kernel

/-- The TLB of V20, at a pc in a mapped segment. -/
def tlbFetch (pc : Word) : State := { tlbV20 with pc := pc }

/-- The TLB of V20 with a second entry for the pages of entry 3. -/
def twice : State := setTlb tlbV20 4 entry3

theorem witness_TlbMissesRecordTheAddress : tlbV20.cp0.config0.tr = false ∧ tlbV20.cp0.status.erl = false
    ∧ illegalMaskPresent tlbV20 = false ∧ segmentAccessible tlbV20 (segmentOf 0x22000) = true ∧ segmentOf 0x22000 = .useg
    ∧ (∀ i : Fin 48, ¬ Hits tlbV20 tlbV20.tlb[i] 0x22000) ∧ (0x22000 : Word).toNat % 4 = 0
    ∧ readyNow (tlbFetch 0x22000) = true ∧ readyNow (tlbFetch 0x404000) = true := by
  unfold Hits EntryHits; decide +kernel

/-- One entry, of the page size 4^1, matches: an invalid odd page, and a valid even one that is not dirty. -/
theorem witness_TlbMissesRecordTheAddress_one :
    Hits tlbV20 tlbV20.tlb[1] 0x404000 ∧ (∀ j : Fin 48, j ≠ 1 → ¬ Hits tlbV20 tlbV20.tlb[j] 0x404000)
    ∧ tlbV20.tlb[1].mask = 3 ∧ (0x404000 : Word).getLsbD 14 = true ∧ (0x402ABC : Word).getLsbD 14 = false
    ∧ tlbV20.tlb[1].odd.v = false ∧ tlbV20.tlb[1].even.v = true ∧ tlbV20.tlb[1].even.d = false := by
  unfold Hits EntryHits; decide +kernel

/-- Two entries match, for data and for the fetch. -/
theorem witness_TlbMissesRecordTheAddress_two : Hits twice twice.tlb[0] 0x21000 ∧ Hits twice twice.tlb[4] 0x21000
    ∧ illegalMaskPresent twice = false ∧ readyNow { twice with pc := 0x21000 } = true := by
  unfold Hits EntryHits; decide +kernel

/-- One address of each clause of SegmentsDecideAccessAndMapping, at the boundary of its range. -/
theorem witness_SegmentsDecideAccessAndMapping : currentMode kernel = .kernel ∧ currentMode user = .user
    ∧ currentMode (withStatus (fun x => { x with ksu := 1 }) kernel) = .supervisor
    ∧ (withStatus (fun x => { x with kx := true }) kernel).cp0.status.kx = true
    ∧ State.reset.cp0.status.erl = true ∧ State.reset.conf.erlUsegUnmapped = true
    ∧ segmentOf 0x7FFFFFFF = .useg ∧ segmentOf 0x80000000 = .xuseg ∧ segmentOf 0x10000000000 = .none ∧ segmentOf 0x4000000000000000 = .xsseg
    ∧ segmentOf 0x4000010000000000 = .none ∧ segmentOf 0x8000000FFFFFFFFF = .xkphys ∧ segmentOf 0x8000001000000000 = .none
    ∧ segmentOf 0xC00000FF7FFFFFFF = .xkseg ∧ segmentOf 0xC00000FF80000000 = .none ∧ segmentOf 0xFFFFFFFF80000000 = .ckseg0
    ∧ segmentOf 0xFFFFFFFF9FFFFFFF = .ckseg0 ∧ segmentOf 0xFFFFFFFFA0000000 = .ckseg1 ∧ segmentOf 0xFFFFFFFFBFFFFFFF = .ckseg1
    ∧ segmentOf 0xFFFFFFFFC0000000 = .csseg ∧ segmentOf 0xFFFFFFFFE0000000 = .ckseg3
    ∧ kernel.cp0.status.ux = false ∧ kernel.cp0.status.sx = false ∧ kernel.cp0.status.kx = false := by decide +kernel

/-- `cached` with a second line for the address, in way 3, and the Way Select word of its set illegal: two hits. -/
def twoHits : State :=
  { cached with
    icache := { lines := [(128, { tag := 1, v := true, l := false, dirty := false, data := Vector.replicate 32 0x24 }),
                          (256, { tag := 1, v := true, l := false, dirty := false, data := Vector.replicate 32 0x25 })],
                ws := [(0, 8)], tagInit := ~~~0, wsInit := ~~~0 }
    dcache := { cached.dcache with
      lines := cached.dcache.lines ++ [(384, { tag := 2, v := true, l := false, dirty := false, data := Vector.replicate 32 0xCD })]
      ws := [(0, 8)] } }

theorem legalWaySelect_iff : ∀ w : BitVec 6, w ∈ legalWs ↔ LegalWaySelect w := by unfold LegalWaySelect; decide +kernel

theorem witness_CachedAccessesUseTheLine_two : cacheWf twoHits.dcache = true ∧ cacheReady twoHits.dcache = true
    ∧ hitWays twoHits.dcache 0x2000 = [2, 3] ∧ (8 : BitVec 6) ∉ legalWs ∧ storeGet 0 twoHits.dcache.ws (lineOf 0x2000) = 8
    ∧ twoHits.canonical = true ∧ hitWays twoHits.icache 0x1000 = [1, 2] ∧ storedWords twoHits 0x1000 true = []
    ∧ translate twoHits twoHits.pc .fetch = .ok 0x1000 3 := by decide +kernel

theorem witness_CachedAccessesUseTheLine : cacheWf cached.dcache = true ∧ cacheReady cached.dcache = true
    ∧ hitWays cached.dcache 0x2007 = [2] ∧ (0x2007 : PAddr).toNat % 8 + 1 ≤ 8 ∧ hitWays cached.dcache 0x2000 = [2]
    ∧ (0x2000 : PAddr).toNat % 8 + 8 ≤ 8 := by decide +kernel

/-- An access that completes. -/
def isOk {α : Type} : Res α → Bool
  | .ok _ _ => true
  | _ => false

/-- Loads and stores at a cached address that hits, and the bytes up to a boundary. -/
theorem witness_CachedAccessesUseTheLine_exec : ∀ k : Fin 4,
    let s := withRegs [(1, 0xFFFFFFFF80002000)] cached
    let va := gprRead s 1 + (BitVec.ofNat 16 k.val).signExtend 64
    let pa : PAddr := 0x2000 + BitVec.ofNat 36 k.val
    translate s va .load = .ok pa 3 ∧ translate s va .store = .ok pa 3
    ∧ isOk (physRead s pa (4 - k.val) 3) = true ∧ isOk (physWrite s pa (4 - k.val) 0 3) = true
    ∧ isOk (physRead s (pa - BitVec.ofNat 36 k.val) (k.val + 1) 3) = true ∧ va.toNat % 1 = 0 := by decide +kernel

/-- `cached` with the line clean: a miss at 0x3000 has four unlocked ways to choose from. -/
def clean : State :=
  { cached with dcache := { cached.dcache with
      lines := [(256, { tag := 2, v := true, l := false, dirty := false, data := Vector.replicate 32 0xAB })] } }

/-- `clean` with a dirty line at home in the set of 0x3000 in every way: whichever the fill takes is written out. -/
def dirtySet : State :=
  let x (t : BitVec 24) : CacheLine := { tag := t, v := true, l := false, dirty := true, data := Vector.replicate 32 0xAB }
  { cached with dcache := { cached.dcache with lines := [(0, x 4), (128, x 5), (256, x 2), (384, x 6)] } }

theorem witness_MissFillsOneUnlockedWay : ∀ s ∈ [clean, dirtySet], Memory.wf s.mem = true ∧ cacheWf s.dcache = true
    ∧ cacheReady s.dcache = true ∧ hitWays s.dcache 0x3000 = [] ∧ unlockedWays s.dcache 0x3000 = [0, 1, 2, 3]
    ∧ readFails s (lineKey s (tagOf 0x3000) (lineOf 0x3000)) 32 = false ∧ s.lateError = none ∧ (0x3007 : PAddr).toNat % 8 + 1 ≤ 8 := by
  decide +kernel

/-- Both outcomes of a conditional trap. -/
theorem witness_TrapsSystemCallsAndBreaks : (0 : Int) ≤ (gprRead kernel 1).toInt
    ∧ ¬ (gprRead (withRegs [(1, 1)] kernel) 1).toInt ≤ (gprRead kernel 2).toInt ∧ gprRead kernel 1 = gprRead kernel 2 := by decide +kernel

theorem witness_MoveFromCp0ReadsEveryRegister :
    cp0Usable kernel = true ∧ exec64 kernel = true ∧ cp0Name 31 0 = .ejtag ∧ cp0Name 31 1 ≠ .ejtag
    ∧ kernel.conf.statusTipBit = 16 ∧ kernel.conf.config0 = Params.reset.config0 ∧ kernel.conf.errCtlVg = 4 ∧ kernel.conf.errCtlWse = 3 := by
  decide +kernel

theorem witness_MoveToCp0WritesItsFields : cp0Usable kernel = true ∧ (gprRead kernel 1).getLsbD 27 = false
    ∧ (gprRead kernel 1).getLsbD 26 = kernel.cp0.status.fr ∧ segmentOf (0xFFFFFFFFA0001000 : Word) ≠ .ckseg0
    ∧ (withRegs [(1, 1)] kernel).cp0.compare ≠ low32 (gprRead (withRegs [(1, 1)] kernel) 1)
    ∧ (withRegs [(1, 1)] kernel).cp0.count ≠ low32 (gprRead (withRegs [(1, 1)] kernel) 1) := by decide +kernel

theorem witness_MoveToCp0WritesItsFields_status :
    (gprRead (withRegs [(1, 0x04000000)] kernel) 1).getLsbD 26 ≠ kernel.cp0.status.fr
    ∧ (gprRead (withRegs [(1, 0x04000000)] kernel) 1).getLsbD 27 = false ∧ segmentOf kernel.pc = .ckseg0
    ∧ (gprRead (withRegs [(1, 3)] kernel) 1).extractLsb' 0 3 ≠ kernel.cp0.config0.k0
    ∧ (gprRead (withRegs [(1, 2)] kernel) 1).extractLsb' 0 3 = kernel.cp0.config0.k0 := by decide +kernel

theorem witness_Cp0InstructionsArePrivileged :
    currentMode user ≠ .kernel ∧ user.cp0.status.cu0 = false := by decide +kernel

/-- Two entries overlap. -/
def overlapping (s : State) (e : TlbEntry) : Bool := (entryToWrite s).overlaps e

theorem witness_TlbInstructions :
    cp0Usable tlbRegs = true ∧ tlbRegs.cp0.config0.tr = false ∧ tlbRegs.cp0.index.index.toNat = 3
    ∧ (∀ j : Fin 48, overlapping tlbRegs tlbRegs.tlb[j] = false) ∧ overlapping mapped mapped.tlb[3] = true
    ∧ ({ tlbRegs.cp0 with index := { p := false, index := 47 } } : Cp0).index.index.toNat = 47
    ∧ 47 < ({ tlbRegs.cp0 with index := { p := false, index := 48 } } : Cp0).index.index
    ∧ ({ tlbRegs.cp0 with wired := 47 } : Cp0).wired ≤ 47 ∧ 47 < ({ tlbRegs.cp0 with wired := 48 } : Cp0).wired := by decide +kernel

/-- TLBP: no match, one, two, and a valid entry with a mask of no page size. -/
theorem witness_TlbInstructions_probe :
    (∀ j : Fin 48, ¬ Hits tlbRegs tlbRegs.tlb[j] 0x20000) ∧ illegalMaskPresent tlbRegs = false
    ∧ (Hits mapped mapped.tlb[3] 0x20000 ∧ ∀ j : Fin 48, j ≠ 3 → ¬ Hits mapped mapped.tlb[j] 0x20000) ∧ illegalMaskPresent mapped = false
    ∧ Hits (setTlb mapped 47 entry3) (setTlb mapped 47 entry3).tlb[47] 0x20000 ∧ illegalMaskPresent (setTlb mapped 47 entry3) = false
    ∧ illegalMaskPresent (setTlb mapped 47 { entry3 with mask := 1 }) = true := by
  unfold Hits EntryHits; decide +kernel

theorem witness_EretReturns : cp0Usable kernel = true ∧ kernel.delay = none ∧ kernel.cp0.status.erl = false
    ∧ State.reset.cp0.status.erl = true ∧ cp0Usable State.reset = true := by decide +kernel

/-- Asleep, no pin active. -/
def asleep : State := { kernel with sleeping := true }

theorem witness_SleepUntilAPinWakes :
    cp0Usable kernel = true ∧ kernel.intPins = 0 ∧ ({ kernel with intPins := 0x20 } : State).intPins ≠ 0
    ∧ (gprRead (withRegs [(1, 0x08000000)] kernel) 1).getLsbD 27 = true
    ∧ (gprRead (withRegs [(1, 0x08000000)] kernel) 1).getLsbD 26 = kernel.cp0.status.fr ∧ asleep.sleeping = true
    ∧ asleep.resetRequest = none ∧ asleep.lateError = none ∧ asleep.nmiPending = false ∧ asleep.delay = none := by decide +kernel

theorem witness_SleepUntilAPinWakes_fr :
    let s := withRegs [(1, 0x0C000000)] kernel
    (gprRead s 1).getLsbD 27 = true ∧ (gprRead s 1).getLsbD 26 ≠ s.cp0.status.fr ∧ s.intPins = 0 ∧ exec64 s = true
    ∧ ({ s with intPins := 1 } : State).intPins ≠ 0 := by decide +kernel

/-- Asleep in a delay slot with a pin active: with no interrupt due and with one. -/
theorem witness_SleepUntilAPinWakes_slot :
    let s : State := { asleep with delay := some 0xFFFFFFFF80002000, intPins := 1 }
    s.intPins ≠ 0 ∧ interruptDue s = false ∧ s.sleeping = true ∧ s.resetRequest = none ∧ s.lateError = none ∧ s.nmiPending = false
    ∧ interruptDue (withStatus (fun x => { x with ie := true, erl := false, exl := false, im := 0xFF }) s) = true := by decide +kernel

/-- `cached` with the instruction cache of `fetchCached`, a line that is locked in every way of set 1 of the data cache. -/
def bothCaches : State :=
  let x (t : BitVec 24) : CacheLine := { tag := t, v := true, l := true, dirty := false, data := Vector.replicate 32 0 }
  { cached with icache := fetchCached.icache, dcache := { cached.dcache with
      lines := [(1, x 4), (129, x 5)] ++ cached.dcache.lines ++ [(257, x 2), (385, x 6)] } }

theorem witness_CacheOperations :
    cp0Usable bothCaches = true ∧ bothCaches.canonical = true ∧ bothCaches.cp0.errCtl.wst = false
    ∧ ({ bothCaches.cp0.errCtl with wst := true } : ErrCtl).wst = true
    ∧ translate bothCaches 0xFFFFFFFF80002000 .load = .ok 0x2000 3 ∧ translate bothCaches 0xFFFFFFFFA0002000 .load = .ok 0x2000 2
    ∧ hitWays bothCaches.dcache 0x2000 = [2] ∧ hitWays bothCaches.icache 0x2000 = [] ∧ hitWays bothCaches.icache 0x1000 = [1]
    ∧ hitWays bothCaches.dcache 0x3000 = [] ∧ (22 : BitVec 5).getLsbD 1 = true
    ∧ cacheReady bothCaches.icache = true ∧ cacheReady bothCaches.dcache = true ∧ bothCaches.lateError = none
    ∧ unlockedWays bothCaches.icache 0x2000 ≠ [] ∧ unlockedWays bothCaches.dcache 0x3000 ≠ []
    ∧ hitWays bothCaches.dcache 0x3020 = [] ∧ unlockedWays bothCaches.dcache 0x3020 = []
    ∧ readFails bothCaches (lineKey bothCaches (tagOf 0x3000) (lineOf 0x3000)) 32 = false ∧ 6 ≤ bothCaches.conf.tagLoDirtyLsb ∧ bothCaches.conf.tagLoDirtyLsb ≤ 22 := by
  decide +kernel

theorem witness_EjtagInstructionsAreRefused :
    cp0Usable kernel = true ∧ kernel.delay = none ∧ exec64 kernel = true := by decide +kernel

/-- 1.0 in both formats, a denormalized number and a NaN, in FPU registers 0, 2, 4 and 6; FS = 1 and no exception enabled. -/
def fpuOps (one den nan : Word) : State := fpu 0x01000000 [(0, one), (2, one), (4, den), (6, nan)]

theorem witness_FpArithmetic_s :
    (fpuOps 0x3F800000 1 0x7FC00000).cp0.status.cu1 = true ∧ fprNumberOk (fpuOps 0x3F800000 1 0x7FC00000) 31 = true
    ∧ formatFits (fpuOps 0x3F800000 1 0x7FC00000) 0 .s = true ∧ classify .s 0x3F800000 = .normal false 0x800000 (-23)
    ∧ isDenormal .s 1 = true ∧ isNan .s 0x7FC00000 = true ∧ Masked (fpuOps 0x3F800000 1 0x7FC00000)
    ∧ exec64 (fpuOps 0x3F800000 1 0x7FC00000) = true := by unfold Masked; decide +kernel

theorem witness_FpArithmetic_d : formatFits (fpuOps 0x3FF0000000000000 1 0x7FF8000000000000) 0 .d = true
    ∧ classify .d 0x3FF0000000000000 = .normal false 0x10000000000000 (-52) ∧ classify .d 0x8000000000000000 = .zero true
    ∧ isDenormal .d 1 = true ∧ isNan .d 0x7FF8000000000000 = true := by decide +kernel

/-- Every class of operand in S: infinities, zeros and normal numbers of both signs; and 1 - 1, which cancels. -/
theorem witness_FpArithmetic_classes : classify .s 0x7F800000 = .inf false ∧ classify .s 0xFF800000 = .inf true
    ∧ classify .s 0 = .zero false ∧ classify .s 0x80000000 = .zero true ∧ classify .s 0x3F800000 = .normal false 0x800000 (-23)
    ∧ classify .s 0xBF800000 = .normal true 0x800000 (-23) ∧ scaled .s 0x3F800000 + scaled .s 0xBF800000 = 0
    ∧ scaled .s 0x3F800000 + -scaled .s 0x3F800000 = 0 ∧ (63 : Nat) < 64 := by decide +kernel

/-- The same in D. -/
theorem witness_FpArithmetic_classes_d :
    classify .d 0x7FF0000000000000 = .inf false ∧ classify .d 0xFFF0000000000000 = .inf true
    ∧ classify .d 0 = .zero false ∧ classify .d 0xBFF0000000000000 = .normal true 0x10000000000000 (-52)
    ∧ scaled .d 0x3FF0000000000000 + scaled .d 0xBFF0000000000000 = 0 := by decide +kernel

theorem witness_ExactResultsAreExact : classify .s 0x3F800000 = .normal false 0x800000 (-23)
    ∧ endOf kernel.fcsr .s (addValue .s 0 0x3F800000 0x3F800000) = .write 0x40000000 0
    ∧ endOf kernel.fcsr .s (addValue .s 0 0x3F800000 (flipSign .s 0x3F800000)) = .write 0 0
    ∧ endOf kernel.fcsr .d (mulValue .d 0x4000000000000000 0x4008000000000000) = .write 0x4018000000000000 0
    ∧ endOf kernel.fcsr .s (divValue .s 0x40400000 0x40000000) = .write 0x3FC00000 0
    ∧ endOf kernel.fcsr .s (sqrtValue .s 0x40800000) = .write 0x40000000 0 := by decide +kernel

/-- 1 + 2^-24, a half of the last place above 1.0, in the four modes; and an exact result. -/
theorem witness_ResultsAreCorrectlyRounded :
    endFinish { kernel.fcsr with rm := 0 } .s { sign := false, num := 0x1000001, exp := -24, sticky := false } = .write 0x3F800000 1
    ∧ endFinish { kernel.fcsr with rm := 1 } .s { sign := true, num := 0x1000001, exp := -24, sticky := false } = .write 0xBF800000 1
    ∧ endFinish { kernel.fcsr with rm := 2 } .s { sign := false, num := 0x1000001, exp := -24, sticky := false } = .write 0x3F800001 1
    ∧ endFinish { kernel.fcsr with rm := 3 } .s { sign := true, num := 0x1000001, exp := -24, sticky := false } = .write 0xBF800001 1
    ∧ endFinish kernel.fcsr .d { sign := false, num := 3, exp := 0, sticky := false } = .write 0x4008000000000000 0 := by decide +kernel

/-- The greatest finite number of S, a quarter and a half of its last place above it, in the four modes. -/
theorem witness_ResultsAreCorrectlyRounded_top :
    let x (num : Nat) : Exact := { sign := false, num, exp := 102, sticky := false }
    let o (rm : BitVec 2) (num : Nat) := endFinish { kernel.fcsr with rm } .s (x num)
    (∀ rm : BitVec 2, ¬ RoundsPastMax .s rm (x 0x3FFFFFC) ∧ o rm 0x3FFFFFC = .write 0x7F7FFFFF 0)
    ∧ (∀ rm : BitVec 2, (RoundsPastMax .s rm (x 0x3FFFFFD) ↔ rm = 2)
        ∧ o rm 0x3FFFFFD = if rm = 2 then .write 0x7F800000 0b000101 else .write 0x7F7FFFFF 1)
    ∧ ∀ rm : BitVec 2, (RoundsPastMax .s rm (x 0x3FFFFFE) ↔ rm = 0 ∨ rm = 2)
        ∧ o rm 0x3FFFFFE = if rm = 0 ∨ rm = 2 then .write 0x7F800000 0b000101 else .write 0x7F7FFFFF 1 := by
  unfold RoundsPastMax; decide +kernel

/-- The greatest finite number, and a quarter of its last place more toward zero, finish as that number and in no other way. -/
theorem witness_Finishes_top :
    let c := { kernel.fcsr with rm := 1 }
    Finishes c .s { sign := false, num := 0x3FFFFFC, exp := 102, sticky := false } (.write 0x7F7FFFFF 0)
    ∧ Finishes c .s { sign := false, num := 0x3FFFFFD, exp := 102, sticky := false } (.write 0x7F7FFFFF 1)
    ∧ ¬ Finishes c .s { sign := false, num := 0x3FFFFFC, exp := 102, sticky := false } (.write 0x7F7FFFFF 0b000101) := by
  refine ⟨⟨fun h => absurd h (by decide +kernel), fun h => absurd h (by unfold RoundsPastMax; decide +kernel),
      fun _ _ => ⟨0x7F7FFFFF, 0, ⟨0xFFFFFF, 104, by simp only [Bool.false_eq_true, ↓reduceIte]; decide +kernel⟩, by decide +kernel⟩⟩,
    ⟨fun h => absurd h (by decide +kernel), fun h => absurd h (by unfold RoundsPastMax; decide +kernel),
      fun _ _ => ⟨0x7F7FFFFF, 1, ⟨0xFFFFFF, 104, by simp only [Bool.false_eq_true, ↓reduceIte]; decide +kernel⟩, by decide +kernel⟩⟩, fun ⟨_, _, h⟩ => ?_⟩
  obtain ⟨v, k, ⟨_, _, _, _, _, hk, _⟩, e⟩ := h (by decide +kernel) (by unfold RoundsPastMax; decide +kernel)
  have hk : k = 0 ∨ k = 1 := hk.imp (·.1) (·.1)
  split at e
  · cases e
  · injection e with _ e
    rcases hk with rfl | rfl <;> exact absurd e (by decide)

/-- 1 + 2^-24 and 1 - 2^-24, sums that are no numbers of format S, and their exact forms. -/
theorem witness_ResultsAreCorrectlyRounded_sum :
    classify .s 0x33800000 = .normal false 0x800000 (-47)
    ∧ addValue .s 0 0x3F800000 0x33800000 = .finish { sign := false, num := 0x800000 * 0x1000001, exp := -47, sticky := false }
    ∧ addValue .s 0 0x3F800000 (flipSign .s 0x33800000) = .finish { sign := false, num := 0x800000 * 0xFFFFFF, exp := -47, sticky := false }
    ∧ scaled .s 0x3F800000 + scaled .s 0x33800000 ≠ 0 ∧ scaled .s 0x3F800000 + -scaled .s 0x33800000 ≠ 0 := by decide +kernel

/-- Results at the ends of the range of S: the smallest normal number and one half of it, the greatest binade, a carry out of it,
and 2^128; and one that is known but for its last places. -/
theorem witness_ResultsAreCorrectlyRounded_range :
    let o (num : Nat) (exp : Int) (sticky : Bool) := endFinish { kernel.fcsr with fs := true } .s { sign := false, num, exp, sticky }
    o 1 (-126) false = .write 0x00800000 0 ∧ o 1 (-127) false = .write 0 0b000011 ∧ o 0xFFFFFF 104 false = .write 0x7F7FFFFF 0
    ∧ o 0x1FFFFFF 103 false = .write 0x7F800000 0b000101 ∧ o 1 128 false = .write 0x7F800000 0b000101
    ∧ 2 ^ (Fmt.frac .s + 2) ≤ 0x2000000 ∧ o 0x2000000 (-25) true = .write 0x3F800000 1 := by decide +kernel

/-- 2.5 as a normal number, and conversions of it that fit and of 2^31 that do not. -/
theorem witness_FpConversions : (fpu 0x01000000 []).cp0.status.cu1 = true ∧ (fpu 0x01000000 []).cp0.status.fr = true
    ∧ formatFits (fpu 0x01000000 []) 0 .l = true ∧ formatFits (fpu 0x01000000 []) 0 .w = true ∧ Masked (fpu 0x01000000 [])
    ∧ classify .s 0x40200000 = .normal false 0xA00000 (-22) ∧ Fits 32 2
    ∧ classify .s 0x4F000000 = .normal false 0x800000 8 ∧ ¬ Fits 32 (0x800000 * 2 ^ 8)
    ∧ classify .s 0x80000000 = .zero true ∧ classify .d 0xFFF0000000000000 = .inf true
    ∧ isDenormal .s 1 = true ∧ isNan .d 0x7FF8000000000000 = true := by
  unfold Masked Fits; decide +kernel

/-- 2.5 and 3.5 to nearest, ties to even; -2.5 toward zero, up and down. -/
theorem witness_RoundsTo :
    RoundsTo 0 5 2 2 ∧ RoundsTo 0 7 2 4 ∧ RoundsTo 1 (-5) 2 (-2) ∧ RoundsTo 2 (-5) 2 (-2) ∧ RoundsTo 3 (-5) 2 (-3) := by
  simp [RoundsTo]

theorem witness_FpCompares :
    fprNumberOk (fpu 0 []) 1 = true ∧ formatFits (fpu 0 []) 1 .s = true ∧ classify .s 0x80000000 = .zero true
    ∧ classify .s 0 = .zero false ∧ classify .s 0xFF800000 = .inf true ∧ classify .d 0x7FF0000000000000 = .inf false
    ∧ isDenormal .s 1 = true ∧ isNan .s 0x7FC00000 = true ∧ isDenormal .s 0x7FC00000 = false := by decide +kernel

theorem witness_FpMoves : (fpu 0x00800000 []).cp0.status.cu1 = true ∧ formatFits (fpu 0x00800000 []) 0 .d = true
    ∧ fprNumberOk (fpu 0 []) 31 = true ∧ fprNumberOk (fpu0 0 []) 31 = false ∧ fprNumberOk (fpu0 0 []) 30 = true
    ∧ (fpu 0x00800000 []).fcsr.fcc.getLsbD (0 : BitVec 3).toNat = true ∧ (fpu 0x00800000 []).fcsr.fcc.getLsbD (7 : BitVec 3).toNat = false
    ∧ gprRead (fpu 0 []) 3 = 0 ∧ gprRead (withRegs [(3, 0x100000000)] (fpu 0 [])) 3 ≠ 0 := by decide +kernel

theorem witness_FpTransfersAndControl :
    (fpu 0 []).cp0.status.cu1 = true ∧ exec64 (fpu 0 []) = true ∧ fprNumberOk (fpu 0 []) 31 = true
    ∧ fprNumberOk (fpu0 0 []) 30 = true ∧ fcsrTraps (unpackFcsr 0x00020000) = true ∧ fcsrTraps (unpackFcsr 0x00010000) = false := by
  decide +kernel

theorem witness_UncachedFpLoadsAndStores :
    uncached.cp0.status.cu1 = true ∧ UncachedLoad uncached (gprRead uncached 1) 4 0x2000
    ∧ Holds uncached 0x2000 4 0x80112233 ∧ UncachedLoad uncached (gprRead uncached 1) 8 0x2000 ∧ Holds uncached 0x2000 8 0x80112233C45566F7
    ∧ fprNumberOk uncached 30 = true ∧ Memory.wf uncached.mem = true ∧ Uncached uncached (gprRead uncached 1) 8 .store 0x2000 := by
  unfold UncachedLoad Uncached Holds; decide +kernel

theorem witness_Coprocessor1IsTestedFirst : kernel.cp0.status.cu1 = false ∧ (encode (.addS 1 2 3)).extractLsb' 26 6 = 17
    ∧ (encode (.maddS 1 2 3 4)).extractLsb' 26 6 = 19 ∧ (encode (.lwc1 1 2 3)).extractLsb' 26 6 = 49 ∧ (encode (.movt 1 2 3)).extractLsb' 0 6 = 1 := by
  decide +kernel

theorem witness_Mips64LevelNeedsExec64 :
    User32 user ∧ User32 (withStatus (fun x => { x with cu0 := true, cu1 := true }) user)
    ∧ user.conf.fpuMove64IsRi = false := by unfold User32; decide +kernel

/-- A pending NMI, a pin that interrupts, and a data bus error that is due. -/
theorem witness_PendingEventsComeFirst :
    ({ kernel with nmiPending := true } : State).resetRequest = none
    ∧ (∃ s : State, s.resetRequest = none ∧ s.nmiPending = false ∧ s.sleeping = false ∧ s.intHeld = false ∧ fetchMeetsMultiple s = false
        ∧ s.cp0.status.ie = true ∧ s.cp0.status.exl = false ∧ s.cp0.status.erl = false ∧ causeIp s &&& s.cp0.status.im ≠ 0)
    ∧ ∃ (s : State) (e : LateError), s.resetRequest = none ∧ s.nmiPending = false ∧ s.sleeping = false ∧ interruptDue s = false
        ∧ s.lateError = some e ∧ e.left = 0 :=
  ⟨rfl, ⟨{ withStatus (fun x => { x with ie := true, im := 4 }) kernel with intPins := 1 }, by decide +kernel⟩,
    { kernel with lateError := some { left := 0, dest := .none, regs := none } }, _, rfl, rfl, rfl, by decide +kernel, rfl, rfl⟩

/-- Data reads that the bus answers with an error: the fill of a cached miss, in both caches, and an uncached read. -/
theorem witness_PendingEventsComeFirst_busError :
    let s : State := { fillFails with icache := { fillFails.icache with tagInit := ~~~0, wsInit := ~~~0 } }
    s.lateError = none ∧ s.llbit = true ∧ Memory.wf s.mem = true ∧ s.cp0.config0.isd = false ∧ cp0Usable s = true
    ∧ s.cp0.errCtl.wst = false ∧ exec64 s = true ∧ cacheReady s.icache = true ∧ hitWays s.icache 0x3000 = []
    ∧ (gprRead s 1 + (0 : BitVec 16).signExtend 64).toNat % 8 = 0
    ∧ translate s (gprRead s 1 + (0 : BitVec 16).signExtend 64) .load = .ok 0x3000 3
    ∧ translate s (gprRead s 1 + (0 : BitVec 16).signExtend 64) .store = .ok 0x3000 3
    ∧ BusAnswersError s 0x3000 4 3 ∧ BusAnswersError s 0x3000 4 1 ∧ BusAnswersError s 0x3000 4 2
    ∧ translate (withRegs [(1, 0xFFFFFFFFA0003000)] s) 0xFFFFFFFFA0003000 .load = .ok 0x3000 2 := by
  unfold BusAnswersError; decide +kernel

theorem witness_BoundaryDrivesTimerAndPins :
    ∃ (s : State) (h : HostInput) (rest : List HostInput), s.host = h :: rest ∧ h.count = 1 ∧ s.cp0.count + 1 = s.cp0.compare ∧ h.dma = [] :=
  ⟨{ kernel with
      cp0 := { kernel.cp0 with count := 0xFFFFFFFF }
      host := [{ intPins := 0, nmi := true, holdInt := false, reset := none, count := 1, perf0 := 0, perf1 := 0, drain := 0, dma := [] }] },
    _, [], rfl, rfl, by decide, rfl⟩

/-- A buffered write and one of a device at the same byte; memory in canonical form, and a schedule at its end. -/
theorem witness_BoundaryDrivesTimerAndPins_memory : Memory.wf loaded.mem = true ∧ loaded.host = []
    ∧ lastWritten [{ key := 0x2000, bytes := [1, 2] }, { key := 0x2001, bytes := [3] }] 0x2001 = some 3
    ∧ lastWritten [{ key := 0x2000, bytes := [1, 2] }, { key := 0x2001, bytes := [3] }] 0x2002 = none := by decide +kernel

theorem witness_UserModeGainsNoPrivilege : ∃ (i : Instr) (s t : State), s.cp0.status.ksu = 2 ∧ s.cp0.status.exl = false
    ∧ s.cp0.status.erl = false ∧ s.cp0.status.cu0 = false ∧ exec i s = .next t :=
  have ⟨t, h⟩ := isNext_next (o := exec (.add 1 2 3) user) (by decide +kernel)
  ⟨.add 1 2 3, user, t, rfl, rfl, rfl, rfl, h⟩
end Sys2Proof.Tests
end

section
/-! The forms that act on the EJTAG unit (00_scope.md R9; 10_state.md R112; 46_cp0.md R628, R629): its document is not in the
spec, so each of them is refused once the tests before it have passed. -/

namespace Sys2Proof.Proofs.Ejtag

open Sys2Proof.Machine

section Registers

variable {s : State} {rd : RegNum} {sel : BitVec 3}

/-- The numbers and selects of Debug, DEPC and DESAVE (10_state.md R71, R112). -/
theorem cp0Name_eq_ejtag (h : rd ∈ [(23 : RegNum), 24, 31]) : cp0Name rd 0 = .ejtag := by
  simp only [List.mem_cons, List.not_mem_nil, or_false] at h
  obtain rfl | rfl | rfl := h <;> rfl

theorem writeCp0_ejtag (hn : cp0Name rd sel = .ejtag) (v : Word) : writeCp0 s rd sel v = .refused .ejtag := by
  simp [writeCp0, hn]

theorem exec_mfc0_ejtag (hc : cp0Usable s = true) (hn : cp0Name rd sel = .ejtag) (rt : RegNum) :
    exec (.mfc0 rt rd sel) s = .refused .ejtag := by
  change execMfc0 rt rd sel s = _
  simp [execMfc0, Laws.needCp0_of hc, hn]

theorem exec_mtc0_ejtag (hc : cp0Usable s = true) (hn : cp0Name rd sel = .ejtag) (rt : RegNum) :
    exec (.mtc0 rt rd sel) s = .refused .ejtag := by
  change execMtc0 rt rd sel s = _
  rw [execMtc0, Laws.needCp0_of hc, writeCp0_ejtag hn]

theorem exec_dmfc0_ejtag (hc : cp0Usable s = true) (hx : exec64 s = true) (hn : cp0Name rd sel = .ejtag) (rt : RegNum) :
    exec (.dmfc0 rt rd sel) s = .refused .ejtag := by
  change execDmfc0 rt rd sel s = _
  simp [execDmfc0, Laws.needCp0_of hc, Laws.need64_of hx, hn]

theorem exec_dmtc0_ejtag (hc : cp0Usable s = true) (hx : exec64 s = true) (hn : cp0Name rd sel = .ejtag) (rt : RegNum) :
    exec (.dmtc0 rt rd sel) s = .refused .ejtag := by
  change execDmtc0 rt rd sel s = _
  rw [execDmtc0, Laws.needCp0_of hc, Laws.need64_of hx, writeCp0_ejtag hn]

end Registers

theorem exec_sdbbp (code : BitVec 20) (s : State) : exec (.sdbbp code) s = .refused .ejtag := rfl

/-- DERET passes the test of coprocessor 0 and the one of the delay slot, and is refused then (46_cp0.md R628). -/
theorem exec_deret_refused {s : State} (hc : cp0Usable s = true) (hd : s.delay = none) :
    exec .deret s = .refused .ejtag := by
  change execDeret s = _
  rw [execDeret, Laws.needCp0_of hc, Laws.needNoSlot_of hd]

/-- Settles O47: each form is refused behind the tests it begins with; the registers by the name `cp0Name` gives them. -/
theorem ejtagInstructionsAreRefused : Obligations.EjtagInstructionsAreRefused := by
  intro s code rt
  refine ⟨exec_sdbbp code s, exec_deret_refused, fun hc d hd => ?_⟩
  have hn : cp0Name d 0 = .ejtag := cp0Name_eq_ejtag hd
  exact ⟨exec_mfc0_ejtag hc hn rt, exec_mtc0_ejtag hc hn rt,
    fun hx => ⟨exec_dmfc0_ejtag hc hx hn rt, exec_dmtc0_ejtag hc hx hn rt⟩⟩

end Sys2Proof.Proofs.Ejtag
end

section
/-! The invariant of the machine (Safety.lean) is kept by every operation: first the operations on the state, then those that
answer a result, the ends of an instruction, the instructions by family, and the step. -/

namespace Sys2Proof.Proofs.Invariant

open Sys2Proof.Machine Sys2Proof.Laws

/-! What the states in an answer satisfy. -/

/-- The state in an outcome, if there is one, satisfies `P`. -/
def OutAll (P : State → Prop) : Out → Prop
  | .next t => P t
  | _ => True

/-- The state in the answer of an operation, if there is one, satisfies `P`. -/
def ResAll {α : Type} (P : State → Prop) : Res α → Prop
  | .ok _ t => P t
  | .trap _ t => P t
  | .busError t => P t
  | .stop _ => True

section Answers

variable {P : State → Prop}

@[simp] theorem outAll_next (t : State) : OutAll P (.next t) ↔ P t := Iff.rfl
@[simp] theorem outAll_fault (x : Fault) : OutAll P (.fault x) := trivial
@[simp] theorem outAll_refused (x : Refusal) : OutAll P (.refused x) := trivial
@[simp] theorem outAll_done (t : State) : OutAll P (done t) ↔ P (advance t) := Iff.rfl
@[simp] theorem outAll_raise (e : Exc) (t : State) : OutAll P (raise e t) ↔ P (takeException e t) := Iff.rfl

@[simp] theorem resAll_ok {α : Type} (a : α) (t : State) : ResAll P (.ok a t) ↔ P t := Iff.rfl
@[simp] theorem resAll_trap {α : Type} (e : Exc) (t : State) : ResAll P (.trap e t : Res α) ↔ P t := Iff.rfl
@[simp] theorem resAll_busError {α : Type} (t : State) : ResAll P (.busError t : Res α) ↔ P t := Iff.rfl
@[simp] theorem resAll_stop {α : Type} (x : Fault) : ResAll P (.stop x : Res α) := trivial

theorem resAll_bind {α β : Type} {r : Res α} {f : α → State → Res β} (hr : ResAll P r)
    (hf : ∀ a t, P t → ResAll P (f a t)) : ResAll P (r.bind f) := by
  cases r with
  | ok a t => exact hf a t hr
  | trap e t => exact hr
  | busError t => exact hr
  | stop x => trivial

theorem resAll_reporting {α : Type} {r : Res α} (va : Word) (hr : ResAll P r) : ResAll P (r.reporting va) := by
  cases r <;> exact hr

theorem resAll_toRes {s : State} (hs : P s) (t : Translation) : ResAll P (t.toRes s) := by
  cases t <;> first | exact hs | trivial

end Answers

/-! The operations on the state. Most touch none of the fields the invariant speaks of, and then it holds after the operation
exactly if it held before. -/

/-- The invariant looks at the canonical data, at Random and Wired, and at register 0. -/
theorem inv_of_same {s t : State} (h : s.Inv) (hc : t.canonical = s.canonical) (hr : t.cp0.random = s.cp0.random)
    (hw : t.cp0.wired = s.cp0.wired) (hz : t.gpr[0] = s.gpr[0]) : t.Inv where
  canonical := hc.trans h.canonical
  random := by simpa only [randomInRange, hr, hw] using h.random
  zero := hz.trans h.zero

theorem inv_iff_of_same {s t : State} (hc : t.canonical = s.canonical) (hr : t.cp0.random = s.cp0.random)
    (hw : t.cp0.wired = s.cp0.wired) (hz : t.gpr[0] = s.gpr[0]) : t.Inv ↔ s.Inv :=
  ⟨fun h => inv_of_same h hc.symm hr.symm hw.symm hz.symm, fun h => inv_of_same h hc hr hw hz⟩

section Operations

variable {s : State}

@[simp] theorem inv_spend (n : Nat) : (spend n s).Inv ↔ s.Inv := inv_iff_of_same rfl rfl rfl rfl

@[simp] theorem inv_setStatus (x : Status) : (setStatus s x).Inv ↔ s.Inv := inv_iff_of_same rfl rfl rfl rfl

@[simp] theorem inv_setFpuCause (c : BitVec 6) : (setFpuCause s c).Inv ↔ s.Inv := inv_iff_of_same rfl rfl rfl rfl

@[simp] theorem inv_setContainer (i : RegNum) (v : Word) (f : FprFormat) : (setContainer s i v f).Inv ↔ s.Inv :=
  inv_iff_of_same rfl rfl rfl rfl

@[simp] theorem inv_setTlb (i : Fin 48) (e : TlbEntry) : (setTlb s i e).Inv ↔ s.Inv := inv_iff_of_same rfl rfl rfl rfl

@[simp] theorem inv_clearTlb : (clearTlb s).Inv ↔ s.Inv := inv_iff_of_same rfl rfl rfl rfl

@[simp] theorem inv_loadEntry (e : TlbEntry) : (loadEntry s e).Inv ↔ s.Inv := inv_iff_of_same rfl rfl rfl rfl

@[simp] theorem inv_enqueue (w : BusWrite) : (enqueue s w).Inv ↔ s.Inv := inv_iff_of_same rfl rfl rfl rfl

@[simp] theorem inv_branch (c : Bool) (a : Word) : (branch c a s).Inv ↔ s.Inv := inv_iff_of_same rfl rfl rfl rfl

@[simp] theorem inv_branchLikely (c : Bool) (a : Word) : (branchLikely c a s).Inv ↔ s.Inv := by
  cases c <;> exact inv_iff_of_same rfl rfl rfl rfl

@[simp] theorem inv_advance : (advance s).Inv ↔ s.Inv := by rw [advance_eq]; exact inv_iff_of_same rfl rfl rfl rfl

theorem inv_setFprs (n : Nat) (v : Vector Word 32) (f : Vector FprFormat 32) :
    ({ spend n s with fpr := v, fprFormat := f } : State).Inv ↔ s.Inv := inv_iff_of_same rfl rfl rfl rfl

@[simp] theorem inv_freeFprs : (freeFprs s).Inv ↔ s.Inv := inv_setFprs 32 _ _

@[simp] theorem inv_returnFromException : (returnFromException s).Inv ↔ s.Inv := by
  unfold returnFromException; dsimp only; split <;> exact inv_iff_of_same rfl rfl rfl rfl

@[simp] theorem inv_specialEntry (sr nmi : Bool) : (specialEntry sr nmi s).Inv ↔ s.Inv := inv_iff_of_same rfl rfl rfl rfl

@[simp] theorem inv_takeNmi : (takeNmi s).Inv ↔ s.Inv := inv_iff_of_same rfl rfl rfl rfl

@[simp] theorem inv_noteMultiHit (d : Side) : (noteMultiHit s d).Inv ↔ s.Inv := inv_iff_of_same rfl rfl rfl rfl

@[simp] theorem inv_samplePins (x : HostInput) : (samplePins x s).Inv ↔ s.Inv := inv_iff_of_same rfl rfl rfl rfl

@[simp] theorem inv_advanceCount (n : Nat) : (advanceCount n s).Inv ↔ s.Inv := inv_iff_of_same rfl rfl rfl rfl

@[simp] theorem inv_advanceCounters (m n : Nat) : (advanceCounters m n s).Inv ↔ s.Inv := inv_iff_of_same rfl rfl rfl rfl

@[simp] theorem inv_timerAfterWrite (b : Bool) : (timerAfterWrite s b).Inv ↔ s.Inv := by
  unfold timerAfterWrite; split <;> exact inv_iff_of_same rfl rfl rfl rfl

/-- An exception entry leaves Random and Wired alone, whatever address it records (60_exceptions.md R820, R824). -/
@[simp] theorem inv_takeException (e : Exc) : (takeException e s).Inv ↔ s.Inv := by
  cases e <;> exact inv_iff_of_same rfl rfl rfl rfl

/-- No write of a general register reaches register 0 (10_state.md R31). -/
@[simp] theorem inv_gprWrite (r : RegNum) (v : Word) : (gprWrite s r v).Inv ↔ s.Inv := by
  unfold gprWrite
  split
  · rfl
  · rename_i hr
    have hr' : r.toNat ≠ 0 := fun e => hr (BitVec.eq_of_toNat_eq e)
    exact inv_iff_of_same rfl rfl rfl (by simp [hr'])

@[simp] theorem inv_setFpr32 (i : RegNum) (w : HalfWord) (f : FprFormat) : (setFpr32 s i w f).Inv ↔ s.Inv := by
  unfold setFpr32; split <;> simp

@[simp] theorem inv_setFpr64 (i : RegNum) (d : Word) (f : FprFormat) : (setFpr64 s i d f).Inv ↔ s.Inv := by
  unfold setFpr64; split <;> simp

@[simp] theorem inv_setFp (f : Fmt) (i : RegNum) (v : Word) : (setFp s f i v).Inv ↔ s.Inv := by cases f <;> simp [setFp]

/-! The canonical form, part by part. -/

theorem canonical_iff : s.canonical = true ↔ Memory.wf s.mem = true ∧ cacheWf s.icache = true ∧ cacheWf s.dcache = true
    ∧ storeWf 0 s.brRam = true ∧ storeWf blankCode s.codeStores = true := by
  simp [State.canonical, and_assoc]

theorem wf_mem (h : s.Inv) : Memory.wf s.mem = true := (canonical_iff.1 h.canonical).1

theorem cacheWf_getCache (h : s.Inv) (d : Side) : cacheWf (getCache s d) = true := by
  obtain ⟨-, hi, hd, -⟩ := canonical_iff.1 h.canonical
  cases d <;> assumption

theorem wf_brRam (h : s.Inv) : storeWf 0 s.brRam = true := (canonical_iff.1 h.canonical).2.2.2.1

theorem wf_codeStores (h : s.Inv) : storeWf blankCode s.codeStores = true := (canonical_iff.1 h.canonical).2.2.2.2

theorem inv_setMem (h : s.Inv) {m : List Host.Cell} (hm : Memory.wf m = true) : ({ s with mem := m } : State).Inv := by
  obtain ⟨-, hrest⟩ := canonical_iff.1 h.canonical
  exact ⟨canonical_iff.2 ⟨hm, hrest⟩, h.random, h.zero⟩

theorem inv_setCache (h : s.Inv) (d : Side) {c : Cache} (hc : cacheWf c = true) : (setCache s d c).Inv := by
  obtain ⟨hm, hi, hd, hb, hk⟩ := canonical_iff.1 h.canonical
  cases d
  · exact ⟨canonical_iff.2 ⟨hm, hc, hd, hb, hk⟩, h.random, h.zero⟩
  · exact ⟨canonical_iff.2 ⟨hm, hi, hc, hb, hk⟩, h.random, h.zero⟩

theorem inv_setBrRam (h : s.Inv) {l : List (Nat × BitVec 20)} (hl : storeWf 0 l = true) :
    ({ s with brRam := l } : State).Inv := by
  obtain ⟨hm, hi, hd, -, hk⟩ := canonical_iff.1 h.canonical
  exact ⟨canonical_iff.2 ⟨hm, hi, hd, hl, hk⟩, h.random, h.zero⟩

theorem inv_setCodeStores (h : s.Inv) {l : List (Nat × CodeLine)} (hl : storeWf blankCode l = true) :
    ({ s with codeStores := l } : State).Inv := by
  obtain ⟨hm, hi, hd, hb, -⟩ := canonical_iff.1 h.canonical
  exact ⟨canonical_iff.2 ⟨hm, hi, hd, hb, hl⟩, h.random, h.zero⟩

theorem cacheWf_setWs {c : Cache} (h : cacheWf c = true) (line : Nat) (w : BitVec 6) :
    cacheWf { c with ws := storeSet 0 c.ws line w } = true := by
  simp only [cacheWf, Bool.and_eq_true] at *
  exact ⟨h.1, storeWf_set h.2⟩

/-! Memory and the record of stores. -/

@[simp] theorem inv_drain (h : s.Inv) (n : Nat) : (drain n s).Inv := inv_setMem (s := { s with wbuf := s.wbuf.drop n })
  (inv_of_same h rfl rfl rfl rfl) (wf_drain (wf_mem h))

@[simp] theorem inv_drainAll (h : s.Inv) : (drainAll s).Inv := inv_setMem (s := { s with wbuf := [] })
  (inv_of_same h rfl rfl rfl rfl) (wf_drainAll (wf_mem h))

@[simp] theorem inv_waitForWrites (h : s.Inv) : (waitForWrites s).Inv := by
  unfold waitForWrites; split <;> simp [h]

@[simp] theorem inv_applyDma (h : s.Inv) (l : List BusWrite) : (applyDma l s).Inv :=
  inv_setMem h (wf_foldl_applyWrite (wf_mem h))

@[simp] theorem inv_noteStore (h : s.Inv) (pa : PAddr) (k n : Nat) : (noteStore s pa k n).Inv :=
  inv_setCodeStores h (codeStores_wf_noteStore (pa := pa) (key := k) (n := n) (wf_codeStores h))

@[simp] theorem inv_noteSync (h : s.Inv) : (noteSync s).Inv :=
  inv_setCodeStores h (codeStores_wf_noteSync (wf_codeStores h))

@[simp] theorem inv_noteInvalidate (h : s.Inv) (pa : PAddr) : (noteInvalidate s pa).Inv :=
  inv_setCodeStores h (codeStores_wf_noteInvalidate (pa := pa) (wf_codeStores h))

@[simp] theorem inv_noteJump (h : s.Inv) : (noteJump s).Inv :=
  inv_setCodeStores h (codeStores_wf_noteJump (wf_codeStores h))

@[simp] theorem inv_storeOut (h : s.Inv) (pa : PAddr) (k : Nat) (bs : List Byte) : (storeOut s pa k bs).Inv := by
  simp [storeOut, h]

@[simp] theorem inv_writeBack (h : s.Inv) (x : CacheLine) (l : Nat) : (writeBack s x l).Inv := by simp [writeBack, h]

/-! The caches. -/

theorem inv_setLine (h : s.Inv) (d : Side) (w l : Nat) (x : CacheLine) :
    (setCache s d (setLine (getCache s d) w l x)).Inv := inv_setCache h d (cacheWf_setLine (cacheWf_getCache h d))

/-- A tag that software has given its V bit is only marked so. -/
theorem inv_setLine_markTag (h : s.Inv) (d : Side) (w l w' l' : Nat) (x : CacheLine) :
    (setCache s d (markTag (setLine (getCache s d) w l x) w' l')).Inv :=
  inv_setCache h d (cacheWf_setLine (cacheWf_getCache h d))

@[simp] theorem inv_touchWs (h : s.Inv) (d : Side) (line : Nat) : (touchWs s d line).Inv := by
  have h1 : (setCache s d { getCache s d with ws := storeSet 0 (getCache s d).ws line ((freeWord s 0).extractLsb' 0 6) }).Inv :=
    inv_setCache h d (cacheWf_setWs (cacheWf_getCache h d) _ _)
  exact inv_of_same h1 rfl rfl rfl rfl

@[simp] theorem inv_hitWay (h : s.Inv) (d : Side) (ways : List Nat) : (hitWay s d ways).2.Inv := by
  unfold hitWay; split <;> simp [h]

@[simp] theorem inv_writeLine (h : s.Inv) (pa : PAddr) (w off : Nat) (bs : List Byte) (dirty : Bool) :
    (writeLine s pa w off bs dirty).Inv := inv_setLine h .data _ _ _

theorem fillLine_inv (h : s.Inv) (d : Side) (pa : PAddr) : ResAll State.Inv (fillLine s d pa) := by
  unfold fillLine
  dsimp only
  split
  · simp [h]
  · split
    · trivial
    · have h1 : (spend 1 (waitForWrites s)).Inv := (inv_spend 1).2 (inv_waitForWrites h)
      apply inv_touchWs
      apply inv_setLine
      split <;> simp [h1]

theorem needBus_inv {α : Type} (h : s.Inv) {k : Res α} (hk : ResAll State.Inv k) : ResAll State.Inv (needBus s k) := by
  unfold needBus; split
  · exact h
  · exact hk

theorem lookupOrFill_inv (h : s.Inv) (d : Side) (pa : PAddr) : ResAll State.Inv (lookupOrFill s d pa) := by
  unfold lookupOrFill
  split
  · trivial
  · split
    · split
      · exact needBus_inv h (fillLine_inv h d pa)
      · exact fillLine_inv h d pa
    · exact inv_touchWs (inv_hitWay h d _) d _

theorem physRead_inv (h : s.Inv) (pa : PAddr) (n : Nat) (cca : BitVec 3) : ResAll State.Inv (physRead s pa n cca) := by
  unfold physRead
  dsimp only
  split
  · trivial
  split
  · split
    · trivial
    · exact needBus_inv h (by split <;> simp [h])
  · exact resAll_bind (lookupOrFill_inv h .data pa) fun _ _ ht => ht

theorem writeThrough_inv (h : s.Inv) (pa : PAddr) (key : Nat) (bs : List Byte) (allocate : Bool) :
    ResAll State.Inv (writeThrough s pa key bs allocate) := by
  have hf : ResAll State.Inv (fillLine (drainAll (storeOut s pa key bs)) .data pa) := fillLine_inv (by simp [h]) _ _
  unfold writeThrough
  split
  · trivial
  dsimp only
  split
  · split
    · refine needBus_inv h ?_
      split
      · simp [h]
      · exact resAll_bind hf fun _ _ ht => ht
    · simp [h]
  · exact inv_touchWs (inv_writeLine (inv_hitWay (inv_storeOut h _ _ _) _ _) _ _ _ _ _) _ _

theorem physWrite_inv (h : s.Inv) (pa : PAddr) (n : Nat) (v : Word) (cca : BitVec 3) :
    ResAll State.Inv (physWrite s pa n v cca) := by
  unfold physWrite
  dsimp only
  split
  · trivial
  split
  · split
    · trivial
    · simp [h]
  split
  · exact resAll_bind (lookupOrFill_inv h .data pa) fun _ _ ht => by simp [ht]
  · exact writeThrough_inv h _ _ _ _

end Operations


/-! The ends of an instruction, and the tests it begins with. -/

section Ends

variable {s : State}

@[simp] theorem outAll_ite {P : State → Prop} {c : Prop} [Decidable c] {a b : Out} :
    OutAll P (if c then a else b) ↔ (c → OutAll P a) ∧ (¬ c → OutAll P b) := by
  by_cases hc : c <;> simp [hc]

@[simp] theorem resAll_ite {α : Type} {P : State → Prop} {c : Prop} [Decidable c] {a b : Res α} :
    ResAll P (if c then a else b) ↔ (c → ResAll P a) ∧ (¬ c → ResAll P b) := by
  by_cases hc : c <;> simp [hc]

theorem needCp0_inv (h : s.Inv) {k : Out} (hk : OutAll State.Inv k) : OutAll State.Inv (needCp0 s k) := by
  simp [needCp0, h, hk]

theorem needCu1_inv (h : s.Inv) {k : Out} (hk : OutAll State.Inv k) : OutAll State.Inv (needCu1 s k) := by
  simp [needCu1, h, hk]

theorem need64_inv (h : s.Inv) {k : Out} (hk : OutAll State.Inv k) : OutAll State.Inv (need64 s k) := by
  simp [need64, h, hk]

theorem signalFpe_inv (h : s.Inv) (c : BitVec 6) : OutAll State.Inv (signalFpe c s) := by simp [signalFpe, h]

theorem need64Arith_inv (h : s.Inv) {k : Out} (hk : OutAll State.Inv k) : OutAll State.Inv (need64Arith s k) := by
  simp [need64Arith, signalFpe_inv h, hk]

theorem need64Move_inv (h : s.Inv) {k : Out} (hk : OutAll State.Inv k) : OutAll State.Inv (need64Move s k) := by
  simp [need64Move, signalFpe_inv h, h, hk]

theorem needFpr_inv {i : RegNum} {k : Out} (hk : OutAll State.Inv k) : OutAll State.Inv (needFpr s i k) := by
  simp [needFpr, hk]

theorem needLong_inv {k : Out} (hk : OutAll State.Inv k) : OutAll State.Inv (needLong s k) := by simp [needLong, hk]

theorem needNoSlot_inv {k : Out} (hk : OutAll State.Inv k) : OutAll State.Inv (needNoSlot s k) := by simp [needNoSlot, hk]

theorem needTlb_inv {k : Out} (hk : OutAll State.Inv k) : OutAll State.Inv (needTlb s k) := by simp [needTlb, hk]

theorem fpPre_inv (h : s.Inv) {l : List RegNum} {k : Out} (hk : OutAll State.Inv k) : OutAll State.Inv (fpPre s l k) :=
  needCu1_inv h (by simp [hk])

theorem fpPre64_inv (h : s.Inv) {l : List RegNum} {k : Out} (hk : OutAll State.Inv k) : OutAll State.Inv (fpPre64 s l k) :=
  needCu1_inv h (need64Arith_inv h (by simp [hk]))

@[simp] theorem inv_freeDest (d : Dest) : (freeDest d s).Inv ↔ s.Inv := by
  cases d with
  | gpr r => simp [freeDest]
  | fpr r wide => cases wide <;> simp [freeDest]
  | none => rfl

@[simp] theorem inv_lateBusError (d : Dest) : (lateBusError d s).Inv ↔ s.Inv := by
  unfold lateBusError
  split
  · simp
  · refine Iff.trans ?_ inv_advance
    exact inv_iff_of_same rfl rfl rfl rfl

theorem loadInto_inv {d : Dest} {r : Res Word} {write : Word → State → State} (hr : ResAll State.Inv r)
    (hw : ∀ v t, (write v t).Inv ↔ t.Inv) : OutAll State.Inv (loadInto d r write) := by
  cases r with
  | ok v t => simpa [loadInto, hw] using hr
  | trap e t => simpa [loadInto] using hr
  | busError t => simpa [loadInto] using hr
  | stop x => trivial

theorem finish_inv {r : Res Unit} (hr : ResAll State.Inv r) : OutAll State.Inv (finish r) := by
  cases r with
  | ok a t => simpa [finish] using hr
  | trap e t => simpa [finish] using hr
  | busError t => simpa [finish] using hr
  | stop x => trivial

@[simp] theorem inv_doneGpr (rd : RegNum) (v : Word) : OutAll State.Inv (doneGpr s rd v) ↔ s.Inv := by simp [doneGpr]

theorem doneWord_inv (h : s.Inv) (l : List RegNum) (rd : RegNum) (v : Word) : OutAll State.Inv (doneWord s l rd v) := by
  simp [doneWord, h]

theorem setHiLo_inv (h : s.Inv) (x y : Word) : ({ s with hi := x, lo := y } : State).Inv := inv_of_same h rfl rfl rfl rfl

theorem doneHiLoFree_inv (h : s.Inv) : OutAll State.Inv (doneHiLoFree s) :=
  inv_advance.2 (setHiLo_inv ((inv_spend 2).2 h) _ _)

theorem doneHiLo32_inv (h : s.Inv) (l : List RegNum) (x y : HalfWord) : OutAll State.Inv (doneHiLo32 s l x y) := by
  simp [doneHiLo32, doneHiLoFree_inv h, setHiLo_inv h]

theorem need64_doneHiLo64_inv (h : s.Inv) (p : BitVec 128) : OutAll State.Inv (need64 s (doneHiLo64 s p)) :=
  need64_inv h (inv_advance.2 (setHiLo_inv h _ _))

/-- A sum or difference that may overflow. -/
theorem overflow_inv (h : s.Inv) {c : Prop} [Decidable c] {k : Out} (hk : OutAll State.Inv k) :
    OutAll State.Inv (if c then raise .ov s else k) := by simp [h, hk]

theorem takeBranch_inv (h : s.Inv) (c : Bool) (offset : BitVec 16) : OutAll State.Inv (takeBranch s c offset) :=
  needNoSlot_inv ((inv_branch c _).2 h)

theorem takeLikely_inv (h : s.Inv) (c : Bool) (offset : BitVec 16) : OutAll State.Inv (takeLikely s c offset) :=
  needNoSlot_inv ((inv_branchLikely c _).2 h)

theorem withLink_inv (h : s.Inv) {rs : RegNum} {k : State → Out} (hk : ∀ t, t.Inv → OutAll State.Inv (k t)) :
    OutAll State.Inv (withLink s rs k) := by
  simp [withLink, hk _ ((inv_gprWrite _ _).2 h)]

theorem trapIf_inv (h : s.Inv) (c : Bool) : OutAll State.Inv (trapIf s c) := by simp [trapIf, h]

end Ends

/-! Loads and stores. -/

section Memory

variable {s : State} (h : s.Inv)
include h

theorem checkAligned_inv (va : Word) (n : Nat) (k : Access) : ResAll State.Inv (checkAligned s va n k) := by
  simp [checkAligned, h]

theorem memRead_inv (va : Word) (n : Nat) : ResAll State.Inv (memRead s va n) :=
  resAll_bind (checkAligned_inv h va n .load) fun _ _ h1 =>
    resAll_bind (resAll_toRes h1 _) fun _ _ h2 => physRead_inv h2 _ _ _

theorem memWrite_inv (va : Word) (n : Nat) (v : Word) : ResAll State.Inv (memWrite s va n v) :=
  resAll_bind (checkAligned_inv h va n .store) fun _ _ h1 =>
    resAll_bind (resAll_toRes h1 _) fun _ _ h2 => physWrite_inv h2 _ _ _ _

theorem memReadPart_inv (va addr : Word) (n : Nat) : ResAll State.Inv (memReadPart s va addr n) :=
  resAll_bind (resAll_toRes h _) fun _ _ h1 => physRead_inv h1 _ _ _

theorem memWritePart_inv (va addr : Word) (n : Nat) (v : Word) : ResAll State.Inv (memWritePart s va addr n v) :=
  resAll_bind (resAll_toRes h _) fun _ _ h1 => physWrite_inv h1 _ _ _ _

theorem loadGpr_inv (base rt : RegNum) (offset : BitVec 16) (n : Nat) (extend : Word → Word) :
    OutAll State.Inv (loadGpr s base rt offset n extend) :=
  loadInto_inv (memRead_inv h _ _) fun _ _ => inv_gprWrite _ _

theorem storeGpr_inv (base rt : RegNum) (offset : BitVec 16) (n : Nat) : OutAll State.Inv (storeGpr s base rt offset n) :=
  finish_inv (memWrite_inv h _ _ _)

theorem loadLinked_inv (base rt : RegNum) (offset : BitVec 16) (n : Nat) (extend : Word → Word) :
    OutAll State.Inv (loadLinked s base rt offset n extend) :=
  loadInto_inv (resAll_bind (memRead_inv h _ _) fun _ _ h1 => inv_of_same h1 rfl rfl rfl rfl) fun _ _ => inv_gprWrite _ _

theorem conditionalFlag_inv (rt : RegNum) (flag : Bool) : (conditionalFlag rt flag s).Inv :=
  inv_of_same ((inv_gprWrite rt _).2 h) rfl rfl rfl rfl

theorem storeConditional_inv (base rt : RegNum) (offset : BitVec 16) (n : Nat) :
    OutAll State.Inv (storeConditional s base rt offset n) := by
  unfold storeConditional
  dsimp only
  have ht : ResAll State.Inv ((checkAligned s (baseOffset s base offset) n .store).bind fun _ s0 =>
      (Machine.translate s0 (baseOffset s base offset) .store).toRes s0) :=
    resAll_bind (checkAligned_inv h _ _ _) fun _ _ h1 => resAll_toRes h1 _
  split
  · rename_i pa cca s1 he
    have h1 : s1.Inv := by rw [he] at ht; exact ht
    have hw := physWrite_inv h1 pa n (gprRead s1 rt) cca
    split
    · split
      · rename_i he2; rw [he2] at hw; exact inv_advance.2 (conditionalFlag_inv hw rt true)
      · rename_i he2; rw [he2] at hw; exact (inv_takeException _).2 hw
      · exact (inv_lateBusError _).2 h1
      · trivial
    · exact inv_advance.2 (conditionalFlag_inv h1 rt false)
  · rename_i he; rw [he] at ht; exact (inv_takeException _).2 ht
  · rename_i he; rw [he] at ht; exact (inv_lateBusError _).2 ht
  · trivial

theorem loadPart_inv (base rt : RegNum) (offset : BitVec 16) (part : Bool → Word → Nat → Word × Nat) (w : Nat)
    (merge : Nat → Word → Word → Word) : OutAll State.Inv (loadPart s base rt offset part w merge) :=
  loadInto_inv (memReadPart_inv h _ _ _) fun _ _ => inv_gprWrite _ _

theorem storePart_inv (base : RegNum) (offset : BitVec 16) (part : Bool → Word → Nat → Word × Nat) (w : Nat)
    (lower : Nat → Word) : OutAll State.Inv (storePart s base offset part w lower) :=
  finish_inv (memWritePart_inv h _ _ _ _)

theorem loadFpr32_inv (va : Word) (ft : RegNum) : OutAll State.Inv (loadFpr32 s va ft) :=
  loadInto_inv (memRead_inv h _ _) fun _ _ => inv_setFpr32 _ _ _

omit h in
theorem loadFpr64_inv {r : Res Word} (hr : ResAll State.Inv r) (ft : RegNum) : OutAll State.Inv (loadFpr64 s r ft) :=
  needFpr_inv (loadInto_inv hr fun _ _ => inv_setFpr64 _ _ _)

theorem storeFpr32_inv (va : Word) (ft : RegNum) : OutAll State.Inv (storeFpr32 s va ft) :=
  finish_inv (memWrite_inv h _ _ _)

theorem storeFpr64_inv (va : Word) (ft : RegNum) : OutAll State.Inv (storeFpr64 s va ft) :=
  needFpr_inv (finish_inv (memWrite_inv h _ _ _))

end Memory

/-! The FPU. -/

section Fpu

variable {s : State}

theorem fpComplete_inv (h : s.Inv) (e : FpEnd) {write : State → Word → State} (hw : ∀ t v, (write t v).Inv ↔ t.Inv) :
    OutAll State.Inv (fpComplete e write s) := by
  cases e with
  | trap c => exact signalFpe_inv ((inv_spend 3).2 h) c
  | write v c => exact inv_advance.2 ((hw _ _).2 (inv_of_same h rfl rfl rfl rfl))

variable (h : s.Inv)
include h

theorem fpBinary_inv (f : Fmt) (op : Word → Word → FpResult) (ft fs fd : RegNum) :
    OutAll State.Inv (fpBinary f op ft fs fd s) := fpPre_inv h (fpComplete_inv h _ fun _ _ => inv_setFp _ _ _)

theorem fpUnary_inv (f : Fmt) (op : Word → FpResult) (fs fd : RegNum) : OutAll State.Inv (fpUnary f op fs fd s) :=
  fpPre_inv h (fpComplete_inv h _ fun _ _ => inv_setFp _ _ _)

theorem fpRecip_inv (f : Fmt) (fs fd : RegNum) : OutAll State.Inv (fpRecip f fs fd s) :=
  fpPre64_inv h (fpComplete_inv h _ fun _ _ => inv_setFp _ _ _)

theorem fpMulAdd_inv (f : Fmt) (op : Word → Word → FpResult) (neg : Bool) (fr ft fs fd : RegNum) :
    OutAll State.Inv (fpMulAdd f op neg fr ft fs fd s) :=
  fpPre64_inv h (fpComplete_inv h _ fun _ _ => inv_setFp _ _ _)

theorem fpToFp_inv (src dst : Fmt) (fs fd : RegNum) : OutAll State.Inv (fpToFp src dst fs fd s) :=
  fpPre_inv h (fpComplete_inv h _ fun _ _ => inv_setFp _ _ _)

theorem wordToFp_inv (dst : Fmt) (fs fd : RegNum) : OutAll State.Inv (wordToFp dst fs fd s) :=
  fpPre_inv h (fpComplete_inv h _ fun _ _ => inv_setFp _ _ _)

theorem longToFp_inv (dst : Fmt) (fs fd : RegNum) : OutAll State.Inv (longToFp dst fs fd s) :=
  needCu1_inv h (need64Arith_inv h (needLong_inv (fpComplete_inv h _ fun _ _ => inv_setFp _ _ _)))

theorem fpToWord_inv (src : Fmt) (mode : BitVec 2) (fs fd : RegNum) : OutAll State.Inv (fpToWord src mode fs fd s) :=
  fpPre_inv h (fpComplete_inv h _ fun _ _ => inv_setFpr32 _ _ _)

theorem fpToLong_inv (src : Fmt) (mode : BitVec 2) (fs fd : RegNum) : OutAll State.Inv (fpToLong src mode fs fd s) :=
  needCu1_inv h (need64Arith_inv h (needLong_inv (fpComplete_inv h _ fun _ _ => inv_setFpr64 _ _ _)))

theorem fpCompare_inv (f : Fmt) (cond : BitVec 4) (ft fs : RegNum) (cc : BitVec 3) :
    OutAll State.Inv (fpCompare f cond ft fs cc s) := by
  refine fpPre_inv h ?_
  split
  · exact signalFpe_inv ((inv_spend 3).2 h) _
  · exact inv_advance.2 (inv_of_same h rfl rfl rfl rfl)

theorem moveFp_inv (f : Fmt) (fs fd : RegNum) : OutAll State.Inv (fpPre s [fs, fd] (done (moveFp s f fs fd))) :=
  fpPre_inv h (by simp [moveFp, h])

theorem moveFpIf_inv (f : Fmt) (fs fd : RegNum) (c : Bool) : OutAll State.Inv (moveFpIf s f fs fd c) := by
  unfold moveFpIf
  split
  · exact moveFp_inv h f fs fd
  · exact needCu1_inv h (inv_advance.2 h)

theorem execCfc1_inv (rt fs : RegNum) : OutAll State.Inv (execCfc1 rt fs s) := by
  refine needCu1_inv h ?_
  split
  · simp [h]
  · trivial

theorem execCtc1_inv (rt fs : RegNum) : OutAll State.Inv (execCtc1 rt fs s) := by
  refine needCu1_inv h ?_
  split
  · rename_i f _ _
    have hf : ({ s with fcsr := f } : State).Inv := inv_of_same h rfl rfl rfl rfl
    simp [hf]
  · trivial

end Fpu

/-! The CACHE instruction. -/

section CacheOps

variable {s : State} (h : s.Inv)
include h

theorem inv_indexInvalidate (d : Side) (ea : Word) : (indexInvalidate s d ea).Inv := by
  unfold indexInvalidate
  dsimp only
  apply inv_setLine_markTag
  split <;> simp [h]

theorem inv_indexLoadTag (d : Side) (ea : Word) : (indexLoadTag s d ea).Inv := inv_of_same h rfl rfl rfl rfl

theorem inv_indexStoreTag (d : Side) (ea : Word) (data : Bool) : (indexStoreTag s d ea data).Inv :=
  inv_setLine_markTag h d _ _ _ _ _

theorem inv_indexLoadWs (d : Side) (ea : Word) : (indexLoadWs s d ea).Inv := inv_of_same h rfl rfl rfl rfl

theorem inv_indexStoreWs (d : Side) (ea : Word) : (indexStoreWs s d ea).Inv := by
  have hc : ∀ w x, cacheWf { getCache s d with ws := storeSet 0 (getCache s d).ws (indexLine ea) w, wsInit := x } = true :=
    fun w _ => cacheWf_setWs (cacheWf_getCache h d) _ w
  cases d with
  | inst => exact inv_setBrRam (inv_setCache h .inst (hc _ _)) (storeWf_set (wf_brRam h))
  | data =>
    exact inv_setCache h .data (cacheWf_setLine (cacheWf_setLine (cacheWf_setLine (cacheWf_setLine (hc _ _)))))

theorem cacheTranslate_inv (ea : Word) : ResAll State.Inv (cacheTranslate s ea) :=
  resAll_bind (resAll_toRes h _) fun _ _ h1 => by simp [h1]

theorem findWay_inv (d : Side) (pa : PAddr) (w : Nat) (t : State) (hf : findWay s d pa = some (w, t)) : t.Inv := by
  unfold findWay at hf
  split at hf
  · cases hf
  · have ht := inv_hitWay h d (hitWays (getCache s d) pa)
    rw [Option.some.inj hf] at ht
    exact ht

theorem inv_hitOp (d : Side) (pa : PAddr) (w : Nat) (store invalidate : Bool) : (hitOp s d pa w store invalidate).Inv := by
  unfold hitOp
  dsimp only
  apply inv_setLine
  split <;> simp [h]

theorem hitAt_inv (d : Side) (ea : Word) (store invalidate : Bool) : ResAll State.Inv (hitAt s d ea store invalidate) := by
  refine resAll_bind (cacheTranslate_inv h ea) fun pa t ht => ?_
  have h2 : (if d == .inst then noteInvalidate t pa else t).Inv := by split <;> simp [ht]
  dsimp only
  split
  · exact h2
  · exact inv_hitOp (findWay_inv h2 d pa _ _ ‹_›) d pa _ _ _

theorem inv_lockLine (d : Side) (pa : PAddr) (w : Nat) : (lockLine s d pa w).Inv := inv_setLine h d _ _ _

theorem fillAt_inv (d : Side) (ea : Word) (lock : Bool) : ResAll State.Inv (fillAt s d ea lock) := by
  have hl : ∀ (t : State) pa w, t.Inv → (if lock then lockLine t d pa w else t).Inv := fun t pa w ht => by
    cases lock
    · exact ht
    · exact inv_lockLine ht d pa w
  refine resAll_bind (cacheTranslate_inv h ea) fun pa t ht => ?_
  split
  · trivial
  split
  · exact hl _ _ _ (findWay_inv ht d pa _ _ ‹_›)
  · exact resAll_bind (needBus_inv ht (fillLine_inv ht d pa)) fun w u hu => hl u pa w hu

theorem cacheStandard_inv (d : Side) (code : BitVec 3) (ea : Word) : ResAll State.Inv (cacheStandard s d code ea) := by
  unfold cacheStandard
  split <;> simp [h, inv_indexInvalidate, inv_indexLoadTag, inv_indexStoreTag, hitAt_inv, fillAt_inv]

theorem cacheDiagnostic_inv (d : Side) (code : BitVec 3) (ea : Word) : ResAll State.Inv (cacheDiagnostic s d code ea) := by
  unfold cacheDiagnostic
  split <;> simp [h, inv_indexLoadWs, inv_indexStoreWs, inv_indexStoreTag]

theorem execCache_inv (base : RegNum) (op : BitVec 5) (offset : BitVec 16) :
    OutAll State.Inv (execCache base op offset s) := by
  refine needCp0_inv h ?_
  split
  · simp [h]
  · exact finish_inv (by simp [cacheDiagnostic_inv h, cacheStandard_inv h])

end CacheOps

/-! Coprocessor 0. -/

section Cp0

variable {s : State} (h : s.Inv)
include h

/-- A write of CP0 registers other than Random and Wired. -/
theorem inv_setCp0 {c : Cp0} (hc : randomInRange c) : ({ s with cp0 := c } : State).Inv := ⟨h.canonical, hc, h.zero⟩

theorem inv_enterSleep : (enterSleep s).Inv := by
  have h1 : (drainAll s).Inv := inv_drainAll h
  unfold enterSleep
  dsimp only
  split
  · simp [h1]
  · have h2 : (if s.delay.isSome then drainAll s else advance (drainAll s)).Inv := by split <;> simp [h1]
    exact inv_of_same h2 rfl rfl rfl rfl

theorem inv_wake : (wake s).Inv := by
  have h1 : (setStatus { s with sleeping := false } { s.cp0.status with rp := false }).Inv := inv_of_same h rfl rfl rfl rfl
  unfold wake
  dsimp only
  split <;> simp only [inv_advance, h1]

/-- Only a write of Wired touches Wired and Random, and it sets Random to 47 (10_state.md R79). -/
theorem inv_cp0Write (n : Cp0Name) (v : Word) : (cp0Write s n v).Inv := by
  cases n
  case wired => exact inv_setCp0 h ⟨(by decide : (47 : BitVec 6) ≤ 47), id⟩
  case count => exact (inv_timerAfterWrite _).2 (inv_setCp0 h h.random)
  case compare => exact (inv_timerAfterWrite _).2 (inv_setCp0 h h.random)
  case status =>
    have h1 : ({ s with cp0 := { s.cp0 with status := unpackStatus s.cp0.status (low32 v) } } : State).Inv :=
      inv_setCp0 h h.random
    simp only [cp0Write]
    split <;> simp only [inv_freeFprs, h1]
  case config0 =>
    have h1 : ({ s with cp0 := { s.cp0 with config0 := unpackConfig0 s.conf.config0 (low32 v) } } : State).Inv :=
      inv_setCp0 h h.random
    simp only [cp0Write]
    split <;> simp only [inv_clearTlb, h1]
  all_goals exact inv_of_same h rfl rfl rfl rfl

theorem writeCp0_inv (rd : RegNum) (sel : BitVec 3) (v : Word) : OutAll State.Inv (writeCp0 s rd sel v) := by
  have h1 := inv_cp0Write h (cp0Name rd sel) v
  simp [writeCp0, h1, inv_enterSleep h1]

theorem tlbWrite_inv (i : Fin 48) {k : State → State} (hk : (k (setTlb s i (entryToWrite s))).Inv) :
    OutAll State.Inv (tlbWrite s i k) := by
  simp [tlbWrite, h, hk]

/-- Stepped down from a value above Wired, or back to 47, Random stays in its range (46_cp0.md R623). -/
theorem inv_stepRandom (hw : s.cp0.wired.toNat < 48) : (stepRandom s).Inv := by
  obtain ⟨h47, hle⟩ := h.random
  refine inv_setCp0 h ?_
  unfold randomInRange
  dsimp only
  split
  · exact ⟨by decide, fun _ => by bv_omega⟩
  · rename_i hne
    have hne' : s.cp0.random ≠ s.cp0.wired := by simpa using hne
    have hle' := hle (by bv_omega)
    constructor <;> bv_omega

theorem execTlbwr_inv : OutAll State.Inv (execTlbwr s) := by
  refine needCp0_inv h (needTlb_inv ?_)
  split
  · rename_i hw
    exact tlbWrite_inv h _ (inv_stepRandom ((inv_setTlb _ _).2 h) hw)
  · trivial

theorem execTlbwi_inv : OutAll State.Inv (execTlbwi s) := by
  refine needCp0_inv h (needTlb_inv ?_)
  split
  · exact tlbWrite_inv h _ ((inv_setTlb _ _).2 h)
  · trivial

theorem execTlbr_inv : OutAll State.Inv (execTlbr s) := by
  refine needCp0_inv h (needTlb_inv ?_)
  split <;> simp [h]

theorem execTlbp_inv : OutAll State.Inv (execTlbp s) := by
  refine needCp0_inv h (needTlb_inv ?_)
  split
  · trivial
  · unfold probeEnd
    split
    · exact inv_advance.2 (inv_of_same h rfl rfl rfl rfl)
    · exact inv_advance.2 (inv_of_same h rfl rfl rfl rfl)
    · simp [h]

theorem execMfc0_inv (rt rd : RegNum) (sel : BitVec 3) : OutAll State.Inv (execMfc0 rt rd sel s) :=
  needCp0_inv h (by simp [h])

theorem execDmfc0_inv (rt rd : RegNum) (sel : BitVec 3) : OutAll State.Inv (execDmfc0 rt rd sel s) :=
  needCp0_inv h (need64_inv h (by simp [h]))

end Cp0

/-! The instructions, each by the form its meaning has. -/

/-- Every instruction keeps the invariant: it ends in an exception, or in writes that keep it. -/
theorem exec_inv {s : State} (h : s.Inv) (i : Instr) : OutAll State.Inv (exec i s) := by
  cases i <;> dsimp only [exec]
  -- results in a general register, or in HI and LO
  case slt | slti | sltiu | sltu | and | andi | or | ori | xor | xori | nor | lui | mfhi | mflo =>
    exact (inv_doneGpr _ _).2 h
  case addiu | addu | subu | clo | clz | sll | srl | sra | sllv | srlv | srav => exact doneWord_inv h _ _ _
  case add | addi | sub => exact overflow_inv h (doneWord_inv h _ _ _)
  case daddiu | daddu | dsubu | dclo | dclz | dsll | dsrl | dsra | dsllv | dsrlv | dsrav | dsll32 | dsrl32 | dsra32 =>
    exact need64_inv h ((inv_doneGpr _ _).2 h)
  case dadd | daddi | dsub => exact need64_inv h (overflow_inv h ((inv_doneGpr _ _).2 h))
  case mul => exact doneWord_inv (setHiLo_inv ((inv_spend 2).2 h) _ _) _ _ _
  case mult | multu | madd | maddu | msub | msubu => exact doneHiLo32_inv h _ _ _
  case dmult | dmultu => exact need64_doneHiLo64_inv h _
  case div | divu => exact outAll_ite.2 ⟨fun _ => doneHiLoFree_inv h, fun _ => doneHiLo32_inv h _ _ _⟩
  case ddiv | ddivu =>
    exact need64_inv h (outAll_ite.2 ⟨fun _ => doneHiLoFree_inv h, fun _ => inv_advance.2 (setHiLo_inv h _ _)⟩)
  case mthi | mtlo => exact inv_advance.2 (inv_of_same h rfl rfl rfl rfl)
  case movn | movz => exact outAll_ite.2 ⟨fun _ => (inv_doneGpr _ _).2 h, fun _ => inv_advance.2 h⟩
  case movt => exact needCu1_inv h (outAll_ite.2 ⟨fun _ => (inv_doneGpr _ _).2 h, fun _ => inv_advance.2 h⟩)
  case movf => exact needCu1_inv h (outAll_ite.2 ⟨fun _ => inv_advance.2 h, fun _ => (inv_doneGpr _ _).2 h⟩)
  -- jumps and branches
  case j | jr => exact needNoSlot_inv ((inv_branch _ _).2 h)
  case jal => exact needNoSlot_inv ((inv_branch _ _).2 ((inv_gprWrite _ _).2 h))
  case jalr =>
    exact needNoSlot_inv (outAll_ite.2 ⟨fun _ => trivial, fun _ => (inv_branch _ _).2 ((inv_gprWrite _ _).2 h)⟩)
  case beq | bne | blez | bgtz | bltz | bgez => exact takeBranch_inv h _ _
  case beql | bnel | blezl | bgtzl | bltzl | bgezl => exact takeLikely_inv h _ _
  case bltzal | bgezal =>
    refine withLink_inv h fun t ht => ?_
    exact needNoSlot_inv ((inv_branch _ _).2 ht)
  case bltzall | bgezall =>
    refine withLink_inv h fun t ht => ?_
    exact needNoSlot_inv ((inv_branchLikely _ _).2 ht)
  case bc1t | bc1f => exact needCu1_inv h (takeBranch_inv h _ _)
  case bc1tl | bc1fl => exact needCu1_inv h (takeLikely_inv h _ _)
  -- loads, stores and what goes with them
  case lb | lbu | lh | lhu | lw => exact loadGpr_inv h _ _ _ _ _
  case lwu | ld => exact need64_inv h (loadGpr_inv h _ _ _ _ _)
  case lwl | lwr => exact loadPart_inv h _ _ _ _ _ _
  case ldl | ldr => exact need64_inv h (loadPart_inv h _ _ _ _ _ _)
  case swl | swr => exact storePart_inv h _ _ _ _ _
  case sdl | sdr => exact need64_inv h (storePart_inv h _ _ _ _ _)
  case sb | sh | sw => exact storeGpr_inv h _ _ _ _
  case sd => exact need64_inv h (storeGpr_inv h _ _ _ _)
  case ll => exact loadLinked_inv h _ _ _ _ _
  case lld => exact need64_inv h (loadLinked_inv h _ _ _ _ _)
  case sc => exact storeConditional_inv h _ _ _ _
  case scd => exact need64_inv h (storeConditional_inv h _ _ _ _)
  case pref | nop | ssnop => exact inv_advance.2 h
  case prefx => exact needCu1_inv h (inv_advance.2 h)
  case sync => exact inv_advance.2 (inv_noteSync (inv_drainAll h))
  case lwc1 => exact needCu1_inv h (loadFpr32_inv h _ _)
  case lwxc1 => exact needCu1_inv h (need64Move_inv h (loadFpr32_inv h _ _))
  case ldc1 | ldxc1 => exact needCu1_inv h (need64Move_inv h (loadFpr64_inv (memRead_inv h _ _) _))
  case luxc1 => exact needCu1_inv h (need64Move_inv h (loadFpr64_inv (resAll_reporting _ (memRead_inv h _ _)) _))
  case swc1 => exact needCu1_inv h (storeFpr32_inv h _ _)
  case swxc1 => exact needCu1_inv h (need64Move_inv h (storeFpr32_inv h _ _))
  case sdc1 | sdxc1 => exact needCu1_inv h (need64Move_inv h (storeFpr64_inv h _ _))
  case suxc1 =>
    exact needCu1_inv h (need64Move_inv h (needFpr_inv (finish_inv (resAll_reporting _ (memWrite_inv h _ _ _)))))
  -- traps and coprocessor 0
  case syscall | breakpoint => exact (inv_takeException _).2 h
  case tge | tgeu | tlt | tltu | teq | tne | tgei | tgeiu | tlti | tltiu | teqi | tnei => exact trapIf_inv h _
  case mfc0 => exact execMfc0_inv h _ _ _
  case dmfc0 => exact execDmfc0_inv h _ _ _
  case mtc0 => exact needCp0_inv h (writeCp0_inv h _ _ _)
  case dmtc0 => exact needCp0_inv h (need64_inv h (writeCp0_inv h _ _ _))
  case wait => exact needCp0_inv h (inv_enterSleep h)
  case cache => exact execCache_inv h _ _ _
  case tlbr => exact execTlbr_inv h
  case tlbwi => exact execTlbwi_inv h
  case tlbwr => exact execTlbwr_inv h
  case tlbp => exact execTlbp_inv h
  case eret => exact needCp0_inv h (needNoSlot_inv (inv_returnFromException.2 h))
  case deret => exact needCp0_inv h (needNoSlot_inv trivial)
  case sdbbp => trivial
  -- the FPU
  case addS | addD | subS | subD | mulS | mulD | divS | divD => exact fpBinary_inv h _ _ _ _ _
  case absS | absD | negS | negD | sqrtS | sqrtD => exact fpUnary_inv h _ _ _ _
  case recipS | recipD => exact fpRecip_inv h _ _ _
  case maddS | maddD | msubS | msubD | nmaddS | nmaddD | nmsubS | nmsubD => exact fpMulAdd_inv h _ _ _ _ _ _ _
  case cvtSD | cvtDS => exact fpToFp_inv h _ _ _ _
  case cvtSW | cvtDW => exact wordToFp_inv h _ _ _
  case cvtSL | cvtDL => exact longToFp_inv h _ _ _
  case cvtWS | cvtWD | roundWS | roundWD | truncWS | truncWD | ceilWS | ceilWD | floorWS | floorWD =>
    exact fpToWord_inv h _ _ _ _
  case cvtLS | cvtLD | roundLS | roundLD | truncLS | truncLD | ceilLS | ceilLD | floorLS | floorLD =>
    exact fpToLong_inv h _ _ _ _
  case cFS | cFD | cUnS | cUnD | cEqS | cEqD | cUeqS | cUeqD | cOltS | cOltD | cUltS | cUltD | cOleS | cOleD | cUleS | cUleD
      | cSfS | cSfD | cNgleS | cNgleD | cSeqS | cSeqD | cNglS | cNglD | cLtS | cLtD | cNgeS | cNgeD | cLeS | cLeD | cNgtS
      | cNgtD => exact fpCompare_inv h _ _ _ _ _
  case movS | movD => exact moveFp_inv h _ _ _
  case movtS | movtD | movfS | movfD | movnS | movnD | movzS | movzD => exact moveFpIf_inv h _ _ _ _
  case mtc1 => exact needCu1_inv h (inv_advance.2 ((inv_setFpr32 _ _ _).2 h))
  case mfc1 => exact needCu1_inv h (inv_advance.2 ((inv_gprWrite _ _).2 h))
  case dmtc1 => exact needCu1_inv h (need64Move_inv h (needFpr_inv (inv_advance.2 ((inv_setFpr64 _ _ _).2 h))))
  case dmfc1 => exact needCu1_inv h (need64Move_inv h (needFpr_inv (inv_advance.2 ((inv_gprWrite _ _).2 h))))
  case cfc1 => exact execCfc1_inv h _ _
  case ctc1 => exact execCtc1_inv h _ _

/-! What stands around an instruction. -/

section Step

variable {s : State}

/-- A reset keeps memory, empties or normalises the other sparse data, and sets Random and Wired (R882, R885). -/
theorem inv_takeReset (h : s.Inv) (k : ResetKind) : (takeReset k s).Inv := by
  refine ⟨?_, ?_, ?_⟩ <;> simp only [takeReset, zeroIsZero, canonical_iff]
  · exact ⟨wf_mem h, cacheWf_resetCache _, cacheWf_resetCache _, storeWf_normal _ _, rfl⟩
  · exact ⟨(by decide : (47 : BitVec 6) ≤ 47), fun _ => (by decide : (0 : BitVec 6) ≤ 47)⟩
  · simp

theorem execReserved_inv (h : s.Inv) (r : Reserved) : OutAll State.Inv (execReserved r s) := by
  cases r with
  | integer => exact (inv_takeException _).2 h
  | movci => exact needCu1_inv h ((inv_takeException _).2 h)
  | cop0 => exact needCp0_inv h ((inv_takeException _).2 h)
  | cop1 => exact needCu1_inv h (outAll_ite.2 ⟨fun _ => signalFpe_inv h _, fun _ => (inv_takeException _).2 h⟩)
  | cop2 => exact (inv_takeException _).2 h

theorem fetched_inv (h : s.Inv) (pa : PAddr) (cached : Bool) (w : HalfWord) : ResAll State.Inv (fetched s pa cached w) := by
  obtain ⟨x, n, he, -⟩ := fetched_ok s pa cached w
  rw [he]
  exact inv_of_same h rfl rfl rfl rfl

theorem fetchWord_inv (h : s.Inv) (va : Word) : ResAll State.Inv (fetchWord s va) := by
  unfold fetchWord
  split
  · exact h
  refine resAll_bind (resAll_toRes h _) fun a t ht => ?_
  have h1 := inv_waitForWrites ht
  have h2 := lookupOrFill_inv ht .inst a.1
  dsimp only
  split
  · trivial
  split
  · split
    · trivial
    · exact resAll_ite.2 ⟨fun _ => h1, fun _ => fetched_inv h1 _ _ _⟩
  · split
    · rename_i he; rw [he] at h2; exact fetched_inv h2 _ _ _
    · rename_i he; rw [he] at h2; exact h2
    · rename_i he; rw [he] at h2; exact h2
    · trivial

/-- The general registers a bus error in a delay slot brings back get register 0 written again. -/
theorem dbeInstead_inv (h : s.Inv) : OutAll State.Inv (dbeInstead s) := by
  unfold dbeInstead
  split
  · refine (inv_takeException _).2 ⟨h.canonical, h.random, ?_⟩
    simp [zeroIsZero]
  · exact (inv_takeException _).2 h

theorem settle_inv (h : s.Inv) {o : Out} (ho : OutAll State.Inv o) : OutAll State.Inv (settle s o) := by
  unfold settle
  split
  · exact ho
  · split
    · exact outAll_ite.2 ⟨fun _ => inv_of_same ho rfl rfl rfl rfl, fun _ => dbeInstead_inv h⟩
    · exact dbeInstead_inv h

theorem landed_inv {o : Out} (ho : OutAll State.Inv o) : OutAll State.Inv (landed s o) := by
  unfold landed
  split
  · split
    · exact inv_noteJump ho
    · exact ho
  · exact ho

theorem inv_applyInput (h : s.Inv) (x : HostInput) : (applyInput x s).Inv :=
  (inv_samplePins x).2 (inv_applyDma (inv_drain ((inv_advanceCounters _ _).2 ((inv_advanceCount _).2 h)) _) _)

theorem inv_boundary (h : s.Inv) : (boundary s).Inv := by
  unfold boundary
  split
  · rename_i x _ _
    exact inv_of_same (inv_applyInput h x) rfl rfl rfl rfl
  · exact inv_of_same (inv_drainAll ((inv_advanceCount 1).2 h)) rfl rfl rfl rfl

theorem atBoundary_inv {o : Out} (ho : OutAll State.Inv o) : OutAll State.Inv (atBoundary o) := by
  cases o with
  | next t => exact inv_boundary ho
  | fault x => trivial
  | refused x => trivial

/-- What is to be done keeps the invariant: it is over with it, or the instruction starts with it. -/
def ActionInv : Action → Prop
  | .over o => OutAll State.Inv o
  | .run _ t => t.Inv

theorem fetchInstr_inv (h : s.Inv) : ActionInv (fetchInstr s) := by
  have hf := fetchWord_inv h s.pc
  unfold fetchInstr
  split
  · rename_i he
    rw [he] at hf
    split
    · split
      · exact dbeInstead_inv h
      · exact hf
    · exact settle_inv h (execReserved_inv hf _)
  · rename_i he
    rw [he] at hf
    exact settle_inv h ((inv_takeException _).2 hf)
  · rename_i he
    rw [he] at hf
    exact settle_inv h ((inv_takeException _).2 hf)
  · exact settle_inv h trivial

theorem awakeAction_inv (h : s.Inv) : ActionInv (awakeAction s) := by
  unfold awakeAction
  split
  · exact (inv_takeException _).2 h
  split
  · exact (inv_takeException _).2 h
  split
  · trivial
  · exact fetchInstr_inv h

theorem nextAction_inv (h : s.Inv) : ActionInv (nextAction s) := by
  unfold nextAction
  split
  · exact inv_takeReset h _
  split
  · exact inv_takeNmi.2 h
  split
  · exact h
  · refine awakeAction_inv ?_
    split
    · exact inv_wake h
    · exact h

theorem step_inv (h : s.Inv) : OutAll State.Inv (step s) := by
  have ha := nextAction_inv h
  unfold step runStep
  split
  · rename_i he
    rw [he] at ha
    exact atBoundary_inv ha
  · rename_i i t he
    rw [he] at ha
    exact atBoundary_inv (settle_inv ha (landed_inv (exec_inv ha i)))

end Step

/-- Settles O4: every part of the reset state is empty or zero, and Random is 47. -/
theorem invHoldsAtReset : Obligations.InvHoldsAtReset where
  canonical := rfl
  random := ⟨(by decide : (47 : BitVec 6) ≤ 47), fun _ => (by decide : (0 : BitVec 6) ≤ 47)⟩
  zero := rfl

/-- Settles O5: whatever comes before the instruction, the instruction itself, and the boundary after it keep the invariant. -/
theorem everyStepKeepsInv : Obligations.EveryStepKeepsInv := by
  intro s t h ht
  have := step_inv h
  rwa [ht] at this

end Sys2Proof.Proofs.Invariant
end

section
/-! ERET (46_cp0.md R626). -/

namespace Sys2Proof.Proofs.Eret

open Sys2Proof.Machine Sys2Proof.Laws Sys2Proof.Claims

/-- The return touches the pc, LLbit and one bit of Status, which ERL selects. -/
theorem returnFromException_eq (s : State) : returnFromException s =
    { s with
      pc := if s.cp0.status.erl then s.cp0.errorEpc else s.cp0.epc
      llbit := false
      cp0 := { s.cp0 with status := if s.cp0.status.erl then { s.cp0.status with erl := false }
                                    else { s.cp0.status with exl := false } } } := by
  unfold returnFromException
  dsimp only
  split <;> rfl

theorem exec_eret {s : State} (hc : cp0Usable s = true) (hd : s.delay = none) :
    exec .eret s = .next (returnFromException s) := by
  change execEret s = _
  rw [execEret, needCp0_of hc, needNoSlot_of hd]

/-- Settles O44: the state after the return, written out, shows what changes and what stays. -/
theorem eretReturns : Obligations.EretReturns := by
  intro s hc hd
  refine ⟨_, exec_eret hc hd, ?_⟩
  rw [returnFromException_eq]
  refine ⟨rfl, hd, sameMemory_of rfl rfl rfl rfl, fun r => rfl, ?_, rfl⟩
  by_cases he : s.cp0.status.erl = true
  · simp only [he, if_true]; exact ⟨trivial, trivial⟩
  · simp only [he, if_false, Bool.false_eq_true]; exact ⟨trivial, trivial⟩

end Sys2Proof.Proofs.Eret
end

section
/-! LL, LLD, SC and SCD at an aligned uncached address (44_load_store.md R566 to R569). -/

namespace Sys2Proof.Proofs.LoadLinked

open Sys2Proof.Machine Sys2Proof.Laws Sys2Proof.Claims

variable {s : State} {base rt : RegNum} {offset : BitVec 16} {n : Nat} {pa : PAddr} {v : Word}

theorem gprRead_waited (s : State) (r : RegNum) : gprRead (waited s) r = gprRead s r :=
  gprRead_congr (waitForWrites_gpr s) r

theorem waited_pc (s : State) : (waited s).pc = s.pc := waitForWrites_pc s

theorem waited_delay (s : State) : (waited s).delay = s.delay := waitForWrites_delay s

/-- A linked load ends by writing the register, with LLbit set. -/
theorem loadLinked_uncached (hn : n = 1 ∨ n = 2 ∨ n = 4 ∨ n = 8)
    (h : UncachedLoad s (gprRead s base + offset.signExtend 64) n pa) (hv : Holds s pa n v) (extend : Word → Word) :
    loadLinked s base rt offset n extend = doneGpr { waited s with llbit := true } rt (extend v) := by
  unfold loadLinked baseOffset sext16
  rw [memRead_uncached hn h hv]
  rfl

/-- LL and LLD: the register and LLbit are written, and the buffered writes have been waited for. -/
theorem loads_doneGpr (s : State) (rt : RegNum) (x : Word) :
    ∃ t, doneGpr { waited s with llbit := true } rt x = .next t ∧ GprIs s t rt x ∧ t.llbit = true ∧ MovesOn s t
      ∧ SameMemory (waited s) t ∧ t = { waited s with gpr := t.gpr, llbit := t.llbit, pc := t.pc, delay := t.delay } := by
  obtain ⟨t, ht, ⟨hrd, hothers⟩, hmoves, hmem, hrest⟩ := writesGpr_doneGpr { waited s with llbit := true } rt x
  have hll : t.llbit = true := by rw [hrest]
  refine ⟨t, ht, ⟨hrd, fun r hr => (hothers r hr).trans (gprRead_waited s r)⟩, hll, ?_, hmem, ?_⟩
  · unfold MovesOn at hmoves ⊢
    rwa [← waited_pc s, ← waited_delay s]
  · rw [hll]; exact hrest

/-- What a store conditional that got past its translation leaves in the registers, and that it ends. -/
theorem gprIs_conditionalFlag (u : State) (rt : RegNum) (flag : Bool) (hu : ∀ r, gprRead u r = gprRead s r) :
    GprIs s (advance (conditionalFlag rt flag u)) rt ((BitVec.ofBool flag).setWidth 64) := by
  have hr : ∀ r, gprRead (advance (conditionalFlag rt flag u)) r
      = gprRead (gprWrite u rt ((BitVec.ofBool flag).setWidth 64)) r := fun r => gprRead_advance _ r
  refine ⟨?_, fun r hne => ?_⟩
  · rw [hr, gprRead_gprWrite]
    by_cases h : rt = 0
    · subst h; rfl
    · rw [if_pos ⟨rfl, h⟩, if_neg h]
  · rw [hr, gprRead_gprWrite, if_neg (fun h => hne h.1), hu]

theorem advance_conditionalFlag_eq (u : State) (rt : RegNum) (flag : Bool) :
    advance (conditionalFlag rt flag u) =
      { u with gpr := (gprWrite u rt ((BitVec.ofBool flag).setWidth 64)).gpr, llbit := false
               pc := (match u.delay with | some a => a | none => u.pc + 4), delay := none } := by
  rw [advance_eq]
  unfold conditionalFlag gprWrite
  split <;> rfl

/-- The state a store conditional ends in, written out, from one that agrees with `s` on the registers. -/
theorem done_conditionalFlag (u : State) (rt : RegNum) (flag : Bool) (hu : ∀ r, gprRead u r = gprRead s r) :
    ∃ g, done (conditionalFlag rt flag u) =
        .next { u with gpr := g, llbit := false
                       pc := (match u.delay with | some a => a | none => u.pc + 4), delay := none }
      ∧ GprIs s { u with gpr := g } rt ((BitVec.ofBool flag).setWidth 64) := by
  have he := advance_conditionalFlag_eq u rt flag
  have hg := gprIs_conditionalFlag u rt flag hu
  rw [he] at hg
  exact ⟨_, congrArg Host.Outcome.next he, hg⟩

/-- The translated store: with LLbit it is buffered, without it nothing is written (D29). -/
theorem storeConditional_uncached (h : Uncached s (gprRead s base + offset.signExtend 64) n .store pa) :
    storeConditional s base rt offset n =
      if s.llbit then done (conditionalFlag rt true (afterStore s pa n (gprRead s rt)))
      else done (conditionalFlag rt false s) := by
  obtain ⟨halign, htrans, hcopy⟩ := h
  have hw : physWrite s pa n (gprRead s rt) 2 = .ok () (afterStore s pa n (gprRead s rt)) := by
    simp [physWrite, hcopy, storeOut, afterStore, uncachedWrite]
  unfold storeConditional checkAligned baseOffset sext16
  simp only [halign, htrans, Translation.toRes, bind_of_ok, hw, beq_self_eq_true, if_true]

theorem succeeds_afterStore (hm : Memory.wf s.mem = true) (hn : pa.toNat % 8 + n ≤ 8) :
    ∃ t, done (conditionalFlag rt true (afterStore s pa n (gprRead s rt))) = .next t ∧ Stored s t pa n (gprRead s rt)
      ∧ GprIs s t rt 1 ∧ t.llbit = false ∧ MovesOn s t
      ∧ t = { s with gpr := t.gpr, llbit := t.llbit, wbuf := t.wbuf, codeStores := t.codeStores, pc := t.pc, delay := t.delay } := by
  obtain ⟨g, he, hg⟩ := done_conditionalFlag (afterStore s pa n (gprRead s rt)) rt true (fun _ => rfl)
  exact ⟨_, he, stored_enqueue hm hn (gprRead s rt), hg, rfl, ⟨rfl, rfl⟩, rfl⟩

theorem refuses_unlinked :
    ∃ t, done (conditionalFlag rt false s) = .next t ∧ GprIs s t rt 0 ∧ t.llbit = false ∧ MovesOn s t ∧ SameMemory s t
      ∧ t = { s with gpr := t.gpr, llbit := t.llbit, pc := t.pc, delay := t.delay } := by
  obtain ⟨g, he, hg⟩ := done_conditionalFlag s rt false (fun _ => rfl)
  exact ⟨_, he, hg, rfl, ⟨rfl, rfl⟩, sameMemory_of rfl rfl rfl rfl, rfl⟩

/-- Settles O32: the loads end as a write of the register with LLbit set; the stores split on LLbit. -/
theorem loadLinkedStoreConditional : Obligations.LoadLinkedStoreConditional := by
  intro s base rt offset pa v
  refine ⟨fun h hv => ?_, fun h hv hx => ?_, fun hm h => ?_, fun hm h hx => ?_⟩
  · change ∃ t, execLl base rt offset s = .next t ∧ _
    rw [execLl, loadLinked_uncached (by simp) h hv, low32_eq]
    exact loads_doneGpr s rt _
  · change ∃ t, execLld base rt offset s = .next t ∧ _
    rw [execLld, need64_of hx, loadLinked_uncached (by simp) h hv]
    exact loads_doneGpr s rt v
  · have he : exec (.sc base rt offset) s = _ := storeConditional_uncached (rt := rt) h
    rw [he]
    cases hl : s.llbit
    · exact refuses_unlinked
    · exact succeeds_afterStore hm (uncached_fits (by simp) h)
  · have he : exec (.scd base rt offset) s = _ := (need64_of hx).trans (storeConditional_uncached (rt := rt) h)
    rw [he]
    cases hl : s.llbit
    · exact refuses_unlinked
    · exact succeeds_afterStore hm (uncached_fits (by simp) h)

end Sys2Proof.Proofs.LoadLinked
end

section
/-! The TLB instructions (46_cp0.md R620 to R625). -/

namespace Sys2Proof.Proofs.Tlb

open Sys2Proof.Machine Sys2Proof.Laws Sys2Proof.Claims

/-! Matching, bit by bit. -/

/-- Two page numbers agree under a mask exactly if they agree in every bit the mask leaves. -/
theorem maskVpn2_eq_iff (a b : BitVec 27) (m : BitVec 12) :
    maskVpn2 a m = maskVpn2 b m ↔ ∀ k, k < 27 → (m.setWidth 27).getLsbD k = false → a.getLsbD k = b.getLsbD k := by
  unfold maskVpn2
  constructor
  · intro h k hk hm
    have := congrArg (fun x : BitVec 27 => x.getLsbD k) h
    simpa only [BitVec.getLsbD_and, BitVec.getLsbD_not, hk, hm, decide_true, Bool.true_and, Bool.not_false, Bool.and_true]
      using this
  · intro h
    apply BitVec.eq_of_getLsbD_eq
    intro k hk
    simp only [BitVec.getLsbD_and, BitVec.getLsbD_not, hk, decide_true, Bool.true_and]
    cases hm : (m.setWidth 27).getLsbD k
    · rw [h k hk hm]
    · simp

theorem matches_iff (e : TlbEntry) (r : BitVec 2) (vpn2 : BitVec 27) (asid : BitVec 8) :
    e.matches r vpn2 asid = true ↔ EntryHits e r vpn2 asid := by
  simp only [TlbEntry.matches, EntryHits, Bool.and_eq_true, Bool.or_eq_true, beq_iff_eq, maskVpn2_eq_iff, and_assoc]

/-- The overlap test of the multiple-match check, by the bits that both masks leave (R625). -/
theorem overlaps_iff (n e : TlbEntry) : n.overlaps e = true ↔ e.valid = true ∧ e.r = n.r
    ∧ (∀ k, k < 27 → ((n.mask ||| e.mask).setWidth 27).getLsbD k = false → e.vpn2.getLsbD k = n.vpn2.getLsbD k)
    ∧ (n.g = true ∨ e.g = true ∨ e.asid = n.asid) := by
  simp only [TlbEntry.overlaps, Bool.and_eq_true, Bool.or_eq_true, beq_iff_eq, maskVpn2_eq_iff, and_assoc, or_assoc]
  simp only [eq_comm (a := n.r), eq_comm (a := n.asid), eq_comm (a := n.vpn2.getLsbD _)]

theorem tlbConflict_iff (s : State) (i : Fin 48) :
    tlbConflict s i = true ↔ ∃ j : Fin 48, j ≠ i ∧ (entryToWrite s).overlaps s.tlb[j] = true := by
  simp [tlbConflict]

/-! The entries that match, as a list. -/

section Filter

variable {p : Fin 48 → Bool}

theorem filter_eq_nil (h : ∀ j, p j = false) : (List.finRange 48).filter p = [] := by
  simp [List.filter_eq_nil_iff, h]

theorem filter_eq_singleton {i : Fin 48} (hi : p i = true) (h : ∀ j, j ≠ i → p j = false) :
    (List.finRange 48).filter p = [i] := by
  have hp : p = fun j => j == i := by
    funext j
    by_cases hj : j = i
    · subst hj; simp [hi]
    · simp [h j hj, hj]
  rw [hp, List.filter_beq, List.count_eq_one_of_mem (List.nodup_finRange 48) (List.mem_finRange i)]
  rfl

/-- Where two entries match, the list has two members at least. -/
theorem filter_of_two {i j : Fin 48} (hij : i ≠ j) (hi : p i = true) (hj : p j = true) :
    ∃ a b l, (List.finRange 48).filter p = a :: b :: l := by
  have hmi : i ∈ (List.finRange 48).filter p := List.mem_filter.2 ⟨List.mem_finRange i, hi⟩
  have hmj : j ∈ (List.finRange 48).filter p := List.mem_filter.2 ⟨List.mem_finRange j, hj⟩
  match hl : (List.finRange 48).filter p with
  | [] => rw [hl] at hmi; cases hmi
  | [a] => rw [hl, List.mem_singleton] at hmi hmj; exact absurd (hmi.trans hmj.symm) hij
  | a :: b :: l => exact ⟨a, b, l, rfl⟩

end Filter

/-! The machine check. -/

/-- The entry of a machine check from a state that differs in the TLB and the free values used (R816, R820). -/
theorem mcheckEntered (s : State) (x : Vector TlbEntry 48) (n : Nat) :
    McheckEntered s (takeException .mcheck { s with tlb := x, draws := n }) := by
  refine ⟨(takeException_cp0 .mcheck _).1, ?_, by simp, (takeException_cp0 .mcheck _).2.2, ?_, ?_, ?_,
    gprRead_congr (takeException_gpr _ _), sameMemory_of (by simp) (by simp) (by simp) (by simp), ?_⟩
  · have ho : ∀ u : State, vectorOffset u .mcheck = 0x180 := fun u => by unfold vectorOffset; split <;> rfl
    rw [takeException_pc, ho]
    simp [vectorBase, vectors]
  · simp [KeepsAddresses, takeException, recordAddress]
  · simp [takeException, recordAddress]
  · simp [takeException, recordAddress, Exc.code]
  · simp [takeException, spend]

/-! Writing an entry. -/

section Write

variable {s : State}

theorem getElem_setTlb (s : State) (i j : Fin 48) (e : TlbEntry) :
    (setTlb s i e).tlb[j] = if j = i then e else s.tlb[j] := by
  by_cases h : j = i
  · subst h; simp
  · have : i.val ≠ j.val := fun e => h (Fin.ext e.symm)
    simp [h, this]

theorem tlbWrite_conflict {i : Fin 48} (h : tlbConflict s i = true) (k : State → State) :
    ∃ t, tlbWrite s i k = .next t ∧ McheckEntered s t ∧ ∀ j : Fin 48, j ≠ i → t.tlb[j] = s.tlb[j] := by
  refine ⟨_, by rw [tlbWrite, if_pos h, raise]; rfl, mcheckEntered s (setTlb s i (freeEntry s)).tlb (s.draws + 2),
    fun j hj => ?_⟩
  exact (getElem_setTlb s i j _).trans (if_neg hj)

theorem tlbWrite_free {i : Fin 48} (h : tlbConflict s i = false) (k : State → State) :
    tlbWrite s i k = .next (advance (k (setTlb s i (entryToWrite s)))) := by
  rw [tlbWrite, h, if_neg (by decide), done]

/-- What the TLB holds once the entry is written. -/
theorem tlb_written {t : State} {i : Fin 48} (h : t.tlb = (setTlb s i (entryToWrite s)).tlb) :
    t.tlb[i] = entryToWrite s ∧ ∀ j : Fin 48, j ≠ i → t.tlb[j] = s.tlb[j] := by
  simp only [h]
  exact ⟨(getElem_setTlb s i i _).trans (if_pos rfl), fun j hj => (getElem_setTlb s i j _).trans (if_neg hj)⟩

/-- An instruction that ends after touching only CP0, the TLB and the free values keeps memory and the registers. -/
theorem keeps_advance {u : State} {c : Cp0} {x : Vector TlbEntry 48} {n : Nat} (h : u = { s with cp0 := c, tlb := x, draws := n }) :
    MovesOn s (advance u) ∧ SameMemory s (advance u) ∧ ∀ r, gprRead (advance u) r = gprRead s r := by
  subst h
  refine ⟨movesOn_advance rfl rfl, ?_, fun r => ?_⟩
  · rw [advance_eq]; exact sameMemory_of rfl rfl rfl rfl
  · rw [gprRead_advance]; rfl

end Write

/-- The entry TLBWR writes is one from Wired to 47 (R623). -/
theorem randomEntry_bounds {r w : BitVec 6} (hw : w ≤ 47) : w ≤ randomEntry r w ∧ randomEntry r w ≤ 47 := by
  unfold randomEntry
  dsimp only
  split
  · assumption
  · exact ⟨BitVec.le_refl w, hw⟩

/-! The instructions behind their tests. -/

section Instructions

variable {s : State} (hc : cp0Usable s = true) (htr : s.cp0.config0.tr = false)
include hc htr

theorem needTlb_of (k : Out) : needCp0 s (needTlb s k) = k := by
  rw [needCp0_of hc, needTlb, htr, if_neg (by decide)]

theorem exec_tlbwi {i : Fin 48} (hi : s.cp0.index.index.toNat = i.val) : exec .tlbwi s = tlbWrite s i id := by
  change execTlbwi s = _
  rw [execTlbwi, needTlb_of hc htr, dif_pos (hi ▸ i.isLt)]
  congr 1
  exact Fin.ext hi

theorem exec_tlbwi_above (hi : ¬ s.cp0.index.index.toNat < 48) : exec .tlbwi s = .fault .indexAbove47 := by
  change execTlbwi s = _
  rw [execTlbwi, needTlb_of hc htr, dif_neg hi]

theorem exec_tlbr {i : Fin 48} (hi : s.cp0.index.index.toNat = i.val) :
    exec .tlbr s = done (loadEntry s s.tlb[i]) := by
  change execTlbr s = _
  rw [execTlbr, needTlb_of hc htr, dif_pos (hi ▸ i.isLt)]
  simp only [hi]
  rfl

theorem exec_tlbr_above (hi : ¬ s.cp0.index.index.toNat < 48) :
    exec .tlbr s = done (loadEntry (spend 2 s) (freeEntry s)) := by
  change execTlbr s = _
  rw [execTlbr, needTlb_of hc htr, dif_neg hi]

theorem exec_tlbwr (hw : s.cp0.wired.toNat < 48) : exec .tlbwr s
    = tlbWrite s (Fin.ofNat 48 (randomEntry s.cp0.random s.cp0.wired).toNat) stepRandom := by
  change execTlbwr s = _
  rw [execTlbwr, needTlb_of hc htr, if_pos hw]

theorem exec_tlbwr_above (hw : ¬ s.cp0.wired.toNat < 48) : exec .tlbwr s = .fault .wiredAbove47 := by
  change execTlbwr s = _
  rw [execTlbwr, needTlb_of hc htr, if_neg hw]

theorem exec_tlbp_illegal (hm : illegalMaskPresent s = true) : exec .tlbp s = .fault .illegalPageMask := by
  change execTlbp s = _
  rw [execTlbp, needTlb_of hc htr, if_pos hm]

theorem exec_tlbp (hm : illegalMaskPresent s = false) :
    exec .tlbp s = probeEnd s (tlbMatches s s.cp0.entryHi.r s.cp0.entryHi.vpn2) := by
  change execTlbp s = _
  rw [execTlbp, needTlb_of hc htr, hm, if_neg (by decide)]

end Instructions

/-! The ends of the instructions. -/

section Ends

variable {s : State}

theorem tlbwi_end {i : Fin 48} (h : tlbConflict s i = false) : ∃ t, tlbWrite s i id = .next t ∧ t.tlb[i] = entryToWrite s
    ∧ (∀ j : Fin 48, j ≠ i → t.tlb[j] = s.tlb[j])
    ∧ (MovesOn s t ∧ SameMemory s t ∧ ∀ r, gprRead t r = gprRead s r)
    ∧ t = { s with tlb := t.tlb, pc := t.pc, delay := t.delay } := by
  obtain ⟨h1, h2⟩ := tlb_written (t := advance (setTlb s i (entryToWrite s))) (advance_tlb _)
  refine ⟨_, tlbWrite_free h id, h1, h2, keeps_advance (c := s.cp0) (n := s.draws) rfl, ?_⟩
  simp only [id, advance_eq]
  rfl

theorem tlbwr_end {i : Fin 48} (h : tlbConflict s i = false) :
    ∃ t, tlbWrite s i stepRandom = .next t ∧ t.tlb[i] = entryToWrite s
    ∧ (∀ j : Fin 48, j ≠ i → t.tlb[j] = s.tlb[j])
    ∧ t.cp0.random = (if s.cp0.random = s.cp0.wired then 47 else s.cp0.random - 1)
    ∧ (MovesOn s t ∧ SameMemory s t ∧ ∀ r, gprRead t r = gprRead s r)
    ∧ t = { s with tlb := t.tlb, cp0 := { s.cp0 with random := t.cp0.random }, pc := t.pc, delay := t.delay } := by
  obtain ⟨h1, h2⟩ := tlb_written (t := advance (stepRandom (setTlb s i (entryToWrite s)))) (advance_tlb _)
  refine ⟨_, tlbWrite_free h stepRandom, h1, h2, ?_, keeps_advance (n := s.draws) rfl, ?_⟩
  · simp [stepRandom]
  · simp only [advance_eq]
    rfl

theorem loadEntry_end (u : State) (e : TlbEntry) (n : Nat) (hu : u = { s with draws := n }) :
    (MovesOn s (advance (loadEntry u e)) ∧ SameMemory s (advance (loadEntry u e))
      ∧ ∀ r, gprRead (advance (loadEntry u e)) r = gprRead s r)
    ∧ advance (loadEntry u e) = { s with
        cp0 := (loadEntry s e).cp0, draws := n
        pc := (advance (loadEntry u e)).pc, delay := (advance (loadEntry u e)).delay } := by
  subst hu
  refine ⟨keeps_advance (x := s.tlb) (n := n) rfl, ?_⟩
  simp only [advance_eq]
  rfl

end Ends

/-- Settles O43: the tests of the model are put as statements on bits; then each instruction has one of its ends. -/
theorem tlbInstructions : Obligations.TlbInstructions := by
  intro s hc htr
  have hclash : ∀ i : Fin 48, (∃ j : Fin 48, j ≠ i ∧ (s.tlb[j].valid = true ∧ s.tlb[j].r = (entryToWrite s).r
      ∧ (∀ k, k < 27 → (((entryToWrite s).mask ||| s.tlb[j].mask).setWidth 27).getLsbD k = false →
          s.tlb[j].vpn2.getLsbD k = (entryToWrite s).vpn2.getLsbD k)
      ∧ ((entryToWrite s).g = true ∨ s.tlb[j].g = true ∨ s.tlb[j].asid = (entryToWrite s).asid)))
      ↔ tlbConflict s i = true := fun i => by simp only [tlbConflict_iff, overlaps_iff]
  have hhit : ∀ j : Fin 48, EntryHits s.tlb[j] s.cp0.entryHi.r s.cp0.entryHi.vpn2 s.cp0.entryHi.asid
      ↔ s.tlb[j].matches s.cp0.entryHi.r s.cp0.entryHi.vpn2 s.cp0.entryHi.asid = true := fun j => (matches_iff _ _ _ _).symm
  refine ⟨fun i hi => ⟨fun h => ?_, fun h => ?_, ?_⟩, fun hi => ⟨?_, ?_⟩, fun hw => ?_, fun hw => ?_, fun hm => ?_,
    fun hm => ⟨fun h => ?_, fun i h hu => ?_, fun h => ?_⟩⟩
  · rw [exec_tlbwi hc htr hi]
    exact tlbwi_end (by simpa using mt (hclash i).2 h)
  · rw [exec_tlbwi hc htr hi]
    exact tlbWrite_conflict ((hclash i).1 h) id
  · rw [exec_tlbr hc htr hi]
    obtain ⟨hk, he⟩ := loadEntry_end s s.tlb[i] s.draws rfl
    exact ⟨_, rfl, hk, he⟩
  · exact exec_tlbwi_above hc htr (by bv_omega)
  · rw [exec_tlbr_above hc htr (by bv_omega)]
    obtain ⟨hk, he⟩ := loadEntry_end (spend 2 s) (freeEntry s) (s.draws + 2) rfl
    exact ⟨_, freeEntry s, rfl, hk, by rw [advance_eq]; rfl⟩
  · obtain ⟨hlo, hhi⟩ := randomEntry_bounds (r := s.cp0.random) hw
    rw [exec_tlbwr hc htr (by bv_omega)]
    refine ⟨Fin.ofNat 48 (randomEntry s.cp0.random s.cp0.wired).toNat, ?_, fun h => ?_, fun h => ?_⟩
    · rw [Fin.val_ofNat, Nat.mod_eq_of_lt (by bv_omega)]
      exact hlo
    · exact tlbWrite_conflict ((hclash _).1 h) stepRandom
    · exact tlbwr_end (by simpa using mt (hclash _).2 h)
  · exact exec_tlbwr_above hc htr (by bv_omega)
  · exact exec_tlbp_illegal hc htr hm
  · rw [exec_tlbp hc htr hm, tlbMatches, filter_eq_nil fun j => by simpa using mt (hhit j).2 (h j)]
    refine ⟨_, rfl, ?_, keeps_advance (x := s.tlb) (n := s.draws + 1) rfl, ?_⟩
    · simp
    · simp only [advance_eq]; rfl
  · rw [exec_tlbp hc htr hm, tlbMatches,
      filter_eq_singleton ((hhit i).1 h) fun j hj => by simpa using mt (hhit j).2 (hu j hj)]
    refine ⟨_, rfl, ?_, ?_, keeps_advance (x := s.tlb) (n := s.draws) rfl, ?_⟩
    · simp
    · simp only [advance_eq, BitVec.toNat_ofNat]; omega
    · simp only [advance_eq]
  · obtain ⟨i, j, hij, hi, hj⟩ := h
    obtain ⟨a, b, l, hl⟩ := filter_of_two
      (p := fun i => s.tlb[i].matches s.cp0.entryHi.r s.cp0.entryHi.vpn2 s.cp0.entryHi.asid) hij ((hhit i).1 hi) ((hhit j).1 hj)
    rw [exec_tlbp hc htr hm, tlbMatches, hl]
    exact ⟨_, rfl, mcheckEntered s s.tlb s.draws, rfl⟩

end Sys2Proof.Proofs.Tlb
end

section
/-! The moves from the CP0 registers (46_cp0.md R611, R613): the words they read, put together from the fields. -/

namespace Sys2Proof.Proofs.MoveFromCp0

open Sys2Proof.Machine Sys2Proof.Laws Sys2Proof.Claims

/-! Fields and their places. A word written as one field beside another is the union of both, each at its place. -/

theorem shiftLeft_setWidth_append {m n : Nat} (w k : Nat) (a : BitVec m) (b : BitVec n) :
    ((no_index (a ++ b)).setWidth w) <<< k = (a.setWidth w <<< (n + k)) ||| (b.setWidth w <<< k) := by
  apply BitVec.eq_of_getLsbD_eq
  intro i hi
  simp only [BitVec.getLsbD_or, BitVec.getLsbD_shiftLeft, BitVec.getLsbD_setWidth, BitVec.getLsbD_append, hi, decide_true,
    Bool.true_and]
  by_cases h1 : i < k
  · have h2 : i < n + k := by omega
    simp [h1, h2]
  · by_cases h2 : i < n + k
    · have h3 : i - k < n := by omega
      simp [h1, h2, h3]
    · have h3 : ¬ i - k < n := by omega
      have h4 : b.getLsbD (i - k) = false := BitVec.getLsbD_of_ge _ _ (by omega)
      have h5 : i - k < w := by omega
      have h6 : i - (n + k) < w := by omega
      simp [h1, h2, h3, h4, h5, h6, Nat.sub_sub, Nat.add_comm k n]

theorem place_append {m n : Nat} (k : Nat) (a : BitVec m) (b : BitVec n) :
    place k (no_index (a ++ b)) = place (n + k) a ||| place k b := shiftLeft_setWidth_append 32 k a b

@[simp] theorem place_zero (k n : Nat) : place k 0#n = 0#32 := by simp [place]

/-- A word is itself at place 0. -/
theorem eq_place (v : HalfWord) : v = place 0 v := by simp [place]

theorem word_or_left_comm (a b c : HalfWord) : a ||| (b ||| c) = b ||| (a ||| c) := by
  rw [← BitVec.or_assoc, BitVec.or_comm a b, BitVec.or_assoc]

/-- A field within the low word, seen in 64 bits. -/
theorem setWidth_place {n : Nat} (k : Nat) (v : BitVec n) (h : n + k ≤ 32) : (place k v).setWidth 64 = v.setWidth 64 <<< k := by
  apply BitVec.eq_of_getLsbD_eq
  intro i hi
  simp only [place, BitVec.getLsbD_setWidth, BitVec.getLsbD_shiftLeft, hi, decide_true, Bool.true_and]
  by_cases h1 : i < 32
  · have h2 : i - k < 32 := by omega
    have h3 : i - k < 64 := by omega
    simp [h1, h2, h3]
  · have h2 : v.getLsbD (i - k) = false := BitVec.getLsbD_of_ge _ _ (by omega)
    simp [h1, h2]

@[simp] theorem low32_setWidth (v : HalfWord) : low32 (v.setWidth 64) = v := by simp [low32]

theorem low32_setWidth_of_le {n : Nat} (v : BitVec n) : low32 (v.setWidth 64) = place 0 v := by
  simp [low32, place, BitVec.setWidth_setWidth_of_le]

/-! The two instructions by the register they name. -/

section Instructions

variable {s : State} {rd : RegNum} {sel : BitVec 3} (hc : cp0Usable s = true) (hn : cp0Name rd sel ≠ .ejtag) (rt : RegNum)
include hc hn

theorem exec_mfc0 : exec (.mfc0 rt rd sel) s = doneGpr s rt (sext32 (low32 (cp0Read s (cp0Name rd sel)))) := by
  change execMfc0 rt rd sel s = _
  simp only [execMfc0, needCp0_of hc, beq_eq_false_iff_ne.2 hn, Bool.false_eq_true, if_false, doneGpr]

theorem exec_dmfc0_wide (hx : exec64 s = true) (hw : (cp0Name rd sel).wide = true) :
    exec (.dmfc0 rt rd sel) s = doneGpr s rt (cp0Read s (cp0Name rd sel)) := by
  change execDmfc0 rt rd sel s = _
  simp only [execDmfc0, needCp0_of hc, need64_of hx, beq_eq_false_iff_ne.2 hn, hw, Bool.false_eq_true, if_false, if_true,
    doneGpr]

theorem exec_dmfc0_narrow (hx : exec64 s = true) (hw : (cp0Name rd sel).wide = false) :
    exec (.dmfc0 rt rd sel) s
      = doneGpr (spend 1 s) rt ((freeWord s 0).extractLsb' 32 32 ++ low32 (cp0Read s (cp0Name rd sel))) := by
  change execDmfc0 rt rd sel s = _
  simp only [execDmfc0, needCp0_of hc, need64_of hx, beq_eq_false_iff_ne.2 hn, hw, Bool.false_eq_true, if_false, doneGpr]

/-- MFC0 puts the low word of the register into rt. -/
theorem writesGpr_mfc0 {v : HalfWord} (hv : low32 (cp0Read s (cp0Name rd sel)) = v) :
    WritesGpr s (exec (.mfc0 rt rd sel) s) rt (v.signExtend 64) := by
  rw [exec_mfc0 hc hn, ← hv]
  exact writesGpr_doneGpr s rt _

/-- DMFC0 of a 64-bit register, or of one the chip does not have, puts all of it into rt. -/
theorem writesGpr_dmfc0 (hx : exec64 s = true) (hw : (cp0Name rd sel).wide = true) {v : Word}
    (hv : cp0Read s (cp0Name rd sel) = v) : WritesGpr s (exec (.dmfc0 rt rd sel) s) rt v := by
  rw [exec_dmfc0_wide hc hn rt hx hw, hv]
  exact writesGpr_doneGpr s rt v

/-- DMFC0 of any register gives its low word, whatever stands above it. -/
theorem writesLowWord_dmfc0 (hx : exec64 s = true) :
    WritesLowWord s (exec (.dmfc0 rt rd sel) s) rt (low32 (cp0Read s (cp0Name rd sel))) := by
  cases hw : (cp0Name rd sel).wide
  · rw [exec_dmfc0_narrow hc hn rt hx hw]
    obtain ⟨t, ht, hr⟩ := writesGpr_doneGpr (spend 1 s) rt
      ((freeWord s 0).extractLsb' 32 32 ++ low32 (cp0Read s (cp0Name rd sel)))
    refine ⟨t, _, s.draws + 1, ht, hr, ?_⟩
    rw [← low32_eq, low32, BitVec.setWidth_append]
    simp
  · rw [exec_dmfc0_wide hc hn rt hx hw]
    obtain ⟨t, ht, hr⟩ := writesGpr_doneGpr s rt (cp0Read s (cp0Name rd sel))
    exact ⟨t, _, s.draws, ht, hr, (low32_eq _).symm⟩

end Instructions

/-! The registers by their fields (10_state.md R74 to R117). -/

section Registers

variable (s : State)

theorem low32_index : low32 (cp0Read s .index)
    = BitVec.ofBool s.cp0.index.p ++ (0 : BitVec 25) ++ s.cp0.index.index := by
  rw [cp0Read, low32_setWidth, eq_place (_ ++ _)]
  simp [place_append, placeBit]

theorem packEntryLo_eq (e : EntryLo) : (packEntryLo e).setWidth 64
    = (0 : BitVec 34) ++ e.pfn ++ e.c ++ BitVec.ofBool e.d ++ BitVec.ofBool e.v ++ BitVec.ofBool e.g := by
  have h : ∀ v : Word, v = v.setWidth 64 <<< 0 := fun v => by simp
  rw [h (_ ++ BitVec.ofBool e.g)]
  simp only [shiftLeft_setWidth_append, packEntryLo, placeBit, BitVec.setWidth_or]
  rw [setWidth_place, setWidth_place, setWidth_place, setWidth_place, setWidth_place] <;> simp

theorem low32_pageMask : low32 (cp0Read s .pageMask) = (0 : BitVec 7) ++ s.cp0.pageMask ++ (0 : BitVec 13) := by
  rw [cp0Read, low32_setWidth, eq_place (_ ++ _)]
  simp [place_append]

theorem packStatus_eq (h : s.conf.statusTipBit = 16) : packStatus s = (0 : BitVec 2) ++ BitVec.ofBool s.cp0.status.cu1
    ++ BitVec.ofBool s.cp0.status.cu0 ++ BitVec.ofBool s.cp0.status.rp ++ BitVec.ofBool s.cp0.status.fr
    ++ BitVec.ofBool s.cp0.status.re ++ (0 : BitVec 1) ++ BitVec.ofBool s.cp0.status.px ++ BitVec.ofBool s.cp0.status.bev
    ++ BitVec.ofBool s.cp0.status.ts ++ BitVec.ofBool s.cp0.status.sr ++ BitVec.ofBool s.cp0.status.nmi ++ (0 : BitVec 2)
    ++ BitVec.ofBool s.timerRequest ++ s.cp0.status.im ++ BitVec.ofBool s.cp0.status.kx ++ BitVec.ofBool s.cp0.status.sx
    ++ BitVec.ofBool s.cp0.status.ux ++ s.cp0.status.ksu ++ BitVec.ofBool s.cp0.status.erl
    ++ BitVec.ofBool s.cp0.status.exl ++ BitVec.ofBool s.cp0.status.ie := by
  rw [eq_place (_ ++ BitVec.ofBool s.cp0.status.ie)]
  simp [place_append, packStatus, placeBit, h]

theorem packCause_eq : packCause s = BitVec.ofBool s.cp0.cause.bd ++ (0 : BitVec 1) ++ s.cp0.cause.ce ++ (0 : BitVec 4)
    ++ BitVec.ofBool s.cp0.cause.iv ++ (0 : BitVec 7) ++ causeIp s ++ (0 : BitVec 1) ++ s.cp0.cause.excCode
    ++ (0 : BitVec 2) := by
  rw [eq_place (_ ++ (0 : BitVec 2))]
  simp [place_append, packCause, placeBit]

theorem packPerfCtl_eq (p : PerfCtl) (m : Bool) : packPerfCtl p m = BitVec.ofBool m ++ (0 : BitVec 22) ++ p.event
    ++ BitVec.ofBool p.ie ++ BitVec.ofBool p.u ++ BitVec.ofBool p.s ++ BitVec.ofBool p.k ++ BitVec.ofBool p.exl := by
  rw [eq_place (_ ++ BitVec.ofBool p.exl)]
  simp [place_append, packPerfCtl, placeBit]

theorem packConfig0_eq (h : s.conf.config0 = Params.reset.config0) : packConfig0 s = (1 : BitVec 1)
    ++ BitVec.ofBool s.cp0.config0.te ++ s.cp0.config0.wp ++ BitVec.ofBool s.latches.bus32 ++ s.cp0.config0.adp
    ++ BitVec.ofBool s.cp0.config0.isd ++ BitVec.ofBool s.cp0.config0.bbl ++ BitVec.ofBool s.cp0.config0.tr
    ++ BitVec.ofBool s.cp0.config0.did ++ (0 : BitVec 4) ++ (1 : BitVec 1) ++ BitVec.ofBool s.latches.bigEndian
    ++ (2 : BitVec 2) ++ (0 : BitVec 3) ++ (1 : BitVec 3) ++ (0 : BitVec 4) ++ s.cp0.config0.k0 := by
  rw [eq_place (_ ++ s.cp0.config0.k0)]
  simp [place_append, packConfig0, placeBit, h, Params.reset]
  simp only [BitVec.or_assoc, BitVec.or_comm, word_or_left_comm]

theorem packErrCtl_eq (h4 : s.conf.errCtlVg = 4) (h3 : s.conf.errCtlWse = 3) : packErrCtl s = (0 : BitVec 27)
    ++ BitVec.ofBool s.cp0.errCtl.vg ++ BitVec.ofBool s.cp0.errCtl.wse ++ BitVec.ofBool s.cp0.errCtl.dmh
    ++ BitVec.ofBool s.cp0.errCtl.imh ++ BitVec.ofBool s.cp0.errCtl.wst := by
  rw [eq_place (_ ++ BitVec.ofBool s.cp0.errCtl.wst)]
  simp [place_append, packErrCtl, placeBit, h4, h3]

end Registers

/-- The numbers and selects the chip does not have (10_state.md R125). -/
theorem cp0Name_absent : ∀ (rd : RegNum) (sel : BitVec 3), (sel = 0 ∧ rd ∈ [(7 : RegNum), 17, 18, 19, 21, 22, 27]
    ∨ sel ≠ 0 ∧ (rd, sel) ∉ [((16 : RegNum), (1 : BitVec 3)), (25, 1), (25, 2), (25, 3), (28, 1), (29, 1)]) →
    cp0Name rd sel = .absent := by decide


/-- Settles O40: each register's word is the one its fields make, and an instruction puts it into rt. -/
theorem moveFromCp0ReadsEveryRegister : Obligations.MoveFromCp0ReadsEveryRegister := by
  intro s rt rd sel hc
  have reads : ∀ {d x v}, cp0Name d x ≠ .ejtag → low32 (cp0Read s (cp0Name d x)) = v →
      WritesGpr s (exec (.mfc0 rt d x) s) rt (v.signExtend 64) := fun hn hv => writesGpr_mfc0 hc hn rt hv
  have readsAt : ∀ {d x v}, cp0Name d x ≠ .ejtag → (cp0Name d x).wide = true → cp0Read s (cp0Name d x) = v →
      WritesGpr s (exec (.mfc0 rt d x) s) rt ((v.extractLsb' 0 32).signExtend 64)
        ∧ (exec64 s = true → WritesGpr s (exec (.dmfc0 rt d x) s) rt v) := fun hn hw hv =>
    ⟨reads hn (by rw [hv, low32_eq]), fun hx => writesGpr_dmfc0 hc hn rt hx hw hv⟩
  have small : ∀ {n : Nat} (v : BitVec n) (w : HalfWord), place 0 v = w → low32 (v.setWidth 64) = w := fun v w h =>
    (low32_setWidth_of_le v).trans h
  refine ⟨fun hn => ⟨_, reads hn rfl, fun hx => writesLowWord_dmfc0 hc hn rt hx⟩,
    reads (by decide) (low32_index s), reads (by decide) (small s.cp0.random _ ?_),
    readsAt (by decide) rfl (packEntryLo_eq s.cp0.entryLo0), readsAt (by decide) rfl (packEntryLo_eq s.cp0.entryLo1),
    readsAt (by decide) rfl rfl, reads (by decide) (low32_pageMask s), reads (by decide) (small s.cp0.wired _ ?_),
    readsAt (by decide) rfl rfl, reads (by decide) (low32_setWidth _), readsAt (by decide) rfl rfl,
    reads (by decide) (low32_setWidth _), fun h => reads (by decide) ((low32_setWidth _).trans (packStatus_eq s h)),
    reads (by decide) ((low32_setWidth _).trans (packCause_eq s)), readsAt (by decide) rfl rfl, reads (by decide) rfl,
    reads (by decide) rfl, readsAt (by decide) rfl rfl,
    reads (by decide) ((low32_setWidth _).trans (packPerfCtl_eq s.cp0.perfCtl0 true)), reads (by decide) (low32_setWidth _),
    reads (by decide) ((low32_setWidth _).trans (packPerfCtl_eq s.cp0.perfCtl1 false)), reads (by decide) (low32_setWidth _),
    reads (by decide) (small s.cp0.tagLo _ ?_), readsAt (by decide) rfl rfl, reads (by decide) rfl,
    reads (by decide) (low32_setWidth _), readsAt (by decide) rfl rfl, fun h => ?_,
    fun h => reads (by decide) ((low32_setWidth _).trans (packConfig0_eq s h)),
    fun h4 h3 => reads (by decide) ((low32_setWidth _).trans (packErrCtl_eq s h4 h3))⟩
  · rw [eq_place (_ ++ s.cp0.random)]; simp [place_append]
  · rw [eq_place (_ ++ s.cp0.wired)]; simp [place_append]
  · rw [eq_place (_ ++ s.cp0.tagLo)]; simp [place_append]
  · have hn := cp0Name_absent rd sel h
    exact readsAt (by rw [hn]; decide) (by rw [hn]; rfl) (by rw [hn]; rfl)

end Sys2Proof.Proofs.MoveFromCp0
end

section
/-! The moves to the CP0 registers (46_cp0.md R612, R614, R615). -/

namespace Sys2Proof.Proofs.MoveToCp0

open Sys2Proof.Machine Sys2Proof.Laws Sys2Proof.Claims

/-! A field of the low word is the field of the register. -/

theorem low32_getLsbD (v : Word) {k : Nat} (hk : k < 32) : (low32 v).getLsbD k = v.getLsbD k := by simp [low32, hk]

theorem low32_extractLsb' (v : Word) {k n : Nat} (h : k + n ≤ 32) : (low32 v).extractLsb' k n = v.extractLsb' k n := by
  apply BitVec.eq_of_getLsbD_eq
  intro i hi
  rw [BitVec.getLsbD_extractLsb', BitVec.getLsbD_extractLsb', low32_getLsbD v (by omega)]

theorem unpackEntryLo_low32 (v : Word) : unpackEntryLo (low32 v) =
    { pfn := v.extractLsb' 6 24, c := v.extractLsb' 3 3, d := v.getLsbD 2, v := v.getLsbD 1, g := v.getLsbD 0 } := by
  simp (disch := decide) only [unpackEntryLo, low32_getLsbD, low32_extractLsb']

theorem unpackPerfCtl_low32 (v : Word) : unpackPerfCtl (low32 v) =
    { event := v.extractLsb' 5 4, ie := v.getLsbD 4, u := v.getLsbD 3, s := v.getLsbD 2, k := v.getLsbD 1
      exl := v.getLsbD 0 } := by
  simp (disch := decide) only [unpackPerfCtl, low32_getLsbD, low32_extractLsb']

theorem unpackErrCtl_low32 {c : Params} (h4 : c.errCtlVg = 4) (h3 : c.errCtlWse = 3) (v : Word) :
    unpackErrCtl c (low32 v) =
      { vg := v.getLsbD 4, wse := v.getLsbD 3, dmh := v.getLsbD 2, imh := v.getLsbD 1, wst := v.getLsbD 0 } := by
  simp (disch := decide) only [unpackErrCtl, h4, h3, low32_getLsbD]

theorem unpackStatus_low32 (c : Cp0) (v : Word) :
    { c with status := unpackStatus c.status (low32 v) } = statusWritten c v (v.getLsbD 27) := by
  simp (disch := decide) only [unpackStatus, statusWritten, low32_getLsbD, low32_extractLsb']

theorem unpackConfig0_low32 (v : Word) : unpackConfig0 Params.reset.config0 (low32 v) =
    { te := v.getLsbD 30, wp := v.extractLsb' 28 2, adp := v.extractLsb' 25 2, isd := v.getLsbD 24
      bbl := v.getLsbD 23, tr := v.getLsbD 22, did := v.getLsbD 21, k0 := v.extractLsb' 0 3 } := by
  simp (disch := decide) only [unpackConfig0, Params.reset, low32_getLsbD, low32_extractLsb']

/-! The ends a write can have. -/

/-- The instruction completes with these CP0 registers and nothing else changed. -/
def EndsWithCp0 (s : State) (d : Cp0) (o : Out) : Prop :=
  ∃ t, o = .next t ∧ MovesOn s t ∧ t = { s with cp0 := d, pc := t.pc, delay := t.delay }

/-- The same, with the timer request as given unless Count and Compare are equal. -/
def EndsWithTimer (s : State) (d : Cp0) (request : Bool) (o : Out) : Prop :=
  ∃ t, o = .next t ∧ MovesOn s t ∧ (d.count ≠ d.compare → t.timerRequest = request)
    ∧ t = { s with cp0 := d, timerRequest := t.timerRequest, draws := t.draws, pc := t.pc, delay := t.delay }

/-- The same, with the FPU registers open. -/
def EndsWithFreeFprs (s : State) (d : Cp0) (o : Out) : Prop :=
  ∃ t, o = .next t ∧ MovesOn s t
    ∧ t = { s with cp0 := d, fpr := t.fpr, fprFormat := t.fprFormat, draws := t.draws, pc := t.pc, delay := t.delay }

/-- Config0 holds the fields of `v`, and with TR = 1 no TLB entry is valid. -/
def EndsWithConfig0 (s : State) (v : Word) (o : Out) : Prop :=
  ∃ t, o = .next t ∧ MovesOn s t ∧ t.cp0.config0.k0 = v.extractLsb' 0 3
    ∧ (s.conf.config0 = Params.reset.config0 → t.cp0.config0 =
        { te := v.getLsbD 30, wp := v.extractLsb' 28 2, adp := v.extractLsb' 25 2, isd := v.getLsbD 24
          bbl := v.getLsbD 23, tr := v.getLsbD 22, did := v.getLsbD 21, k0 := v.extractLsb' 0 3 })
    ∧ (t.cp0.config0.tr = true → ∀ i : Fin 48, t.tlb[i].valid = false)
    ∧ (t.cp0.config0.tr = false → t.tlb = s.tlb)
    ∧ t = { s with cp0 := { s.cp0 with config0 := t.cp0.config0 }, tlb := t.tlb, pc := t.pc, delay := t.delay }

/-! The two instructions end as a write of the register they name. -/

section Instructions

variable {s : State} {rt rd : RegNum} {sel : BitVec 3} (hc : cp0Usable s = true)
include hc

/-- What holds of the write of a register holds of MTC0, and of DMTC0 where it is available. -/
theorem both_of_writeCp0 {p : Out → Prop} (h : p (writeCp0 s rd sel (gprRead s rt))) :
    p (exec (.mtc0 rt rd sel) s) ∧ (exec64 s = true → p (exec (.dmtc0 rt rd sel) s)) := by
  constructor
  · change p (execMtc0 rt rd sel s)
    rwa [execMtc0, needCp0_of hc]
  · intro hx
    change p (execDmtc0 rt rd sel s)
    rwa [execDmtc0, needCp0_of hc, need64_of hx]

end Instructions

section Writes

variable {s : State} {rd : RegNum} {sel : BitVec 3} {v : Word} {n : Cp0Name}

theorem changesK0InKseg0_of_ne (h : n ≠ .config0) : changesK0InKseg0 s n v = false := by
  simp [changesK0InKseg0, h]

theorem changesK0InKseg0_config0 : changesK0InKseg0 s .config0 v = true
    ↔ segmentOf s.pc = .ckseg0 ∧ v.extractLsb' 0 3 ≠ s.cp0.config0.k0 := by
  simp [changesK0InKseg0]

/-- A write that neither stops nor puts the processor to sleep ends with the register written. -/
theorem writeCp0_eq_done (hn : cp0Name rd sel = n) (he : n ≠ .ejtag) (hk : changesK0InKseg0 s n v = false)
    (hs : n = .status → (cp0Write s n v).cp0.status.rp = false) : writeCp0 s rd sel v = done (cp0Write s n v) := by
  unfold writeCp0
  simp only [hn, hk, beq_eq_false_iff_ne.2 he, Bool.false_eq_true, if_false]
  by_cases h : n = .status
  · simp [hs h]
  · simp [h]

/-- Any register but Status and Config0. -/
theorem writeCp0_plain (hn : cp0Name rd sel = n) (h : n ≠ .ejtag ∧ n ≠ .config0 ∧ n ≠ .status) :
    writeCp0 s rd sel v = done (cp0Write s n v) :=
  writeCp0_eq_done hn h.1 (changesK0InKseg0_of_ne h.2.1) fun e => absurd e h.2.2

/-- Only CP0 is written. -/
theorem endsWithCp0_done (s : State) (d : Cp0) : EndsWithCp0 s d (done { s with cp0 := d }) := by
  refine ⟨_, rfl, movesOn_advance rfl rfl, ?_⟩
  rw [advance_eq]

/-- Count and Compare: the timer request is as given unless the two are equal (60_exceptions.md R851, U19). -/
theorem endsWithTimer_done (s : State) (d : Cp0) (request : Bool) :
    EndsWithTimer s d request (done (timerAfterWrite { s with cp0 := d } request)) := by
  unfold timerAfterWrite
  by_cases h : d.count = d.compare
  · simp only [h, beq_self_eq_true, if_true]
    refine ⟨_, rfl, movesOn_advance rfl rfl, fun hne => absurd h hne, ?_⟩
    rw [advance_eq]
    rfl
  · simp only [beq_eq_false_iff_ne.2 h, Bool.false_eq_true, if_false]
    refine ⟨_, rfl, movesOn_advance rfl rfl, fun _ => by rw [advance_eq], ?_⟩
    rw [advance_eq]

/-! Status. -/

theorem cp0Write_status (s : State) (v : Word) : cp0Write s .status v =
    if v.getLsbD 26 = s.cp0.status.fr then { s with cp0 := statusWritten s.cp0 v (v.getLsbD 27) }
    else freeFprs { s with cp0 := statusWritten s.cp0 v (v.getLsbD 27) } := by
  unfold cp0Write
  dsimp only
  rw [unpackStatus_low32, low32_getLsbD v (by decide)]
  simp

theorem writeCp0_status (hv : v.getLsbD 27 = false) : writeCp0 s 12 0 v = done (cp0Write s .status v) := by
  refine writeCp0_eq_done rfl (by decide) (changesK0InKseg0_of_ne (by decide)) fun _ => ?_
  rw [cp0Write_status]
  split <;> exact hv

theorem endsWithFreeFprs_written (s : State) (d : Cp0) (x : Vector Word 32) (y : Vector FprFormat 32) (n : Nat) :
    EndsWithFreeFprs s d (done { s with cp0 := d, fpr := x, fprFormat := y, draws := n }) := by
  refine ⟨_, rfl, movesOn_advance rfl rfl, ?_⟩
  rw [advance_eq]

theorem endsWithFreeFprs_done (s : State) (d : Cp0) : EndsWithFreeFprs s d (done (freeFprs { s with cp0 := d })) :=
  endsWithFreeFprs_written s d _ _ _

/-! Config0. -/

theorem cp0Write_config0 (s : State) (v : Word) : cp0Write s .config0 v =
    { s with
      cp0 := { s.cp0 with config0 := unpackConfig0 s.conf.config0 (low32 v) }
      tlb := if (unpackConfig0 s.conf.config0 (low32 v)).tr then s.tlb.map fun e => { e with valid := false } else s.tlb } := by
  unfold cp0Write
  dsimp only
  split <;> rfl

theorem writeCp0_config0_stops (hs : segmentOf s.pc = .ckseg0) (hv : v.extractLsb' 0 3 ≠ s.cp0.config0.k0) :
    writeCp0 s 16 0 v = .fault .k0ChangedInKseg0 := by
  have hk : changesK0InKseg0 s .config0 v = true := changesK0InKseg0_config0.2 ⟨hs, hv⟩
  unfold writeCp0
  rw [show cp0Name 16 0 = .config0 from rfl]
  simp [hk]

theorem writeCp0_config0 (h : segmentOf s.pc ≠ .ckseg0 ∨ v.extractLsb' 0 3 = s.cp0.config0.k0) :
    writeCp0 s 16 0 v = done (cp0Write s .config0 v) := by
  refine writeCp0_eq_done rfl (by decide) ?_ (fun e => by cases e)
  rw [← Bool.not_eq_true, changesK0InKseg0_config0]
  tauto

theorem endsWithConfig0_done (s : State) (v : Word) : EndsWithConfig0 s v (done (cp0Write s .config0 v)) := by
  rw [cp0Write_config0]
  refine ⟨_, congrArg Host.Outcome.next (advance_eq _), ⟨rfl, rfl⟩, low32_extractLsb' v (by decide), fun h => ?_,
    fun h i => ?_, fun h => ?_, rfl⟩
  · simp only [h]
    exact unpackConfig0_low32 v
  · dsimp only at h ⊢
    simp [h]
  · dsimp only at h ⊢
    simp [h]

end Writes

/-- A register but Status, Config0 and those of EJTAG, whose write touches CP0 alone. -/
theorem both_of_cp0Write {s : State} {rt rd : RegNum} {sel : BitVec 3} {d : Cp0} (hc : cp0Usable s = true) (n : Cp0Name)
    (hn : cp0Name rd sel = n) (h : n ≠ .ejtag ∧ n ≠ .config0 ∧ n ≠ .status)
    (hw : cp0Write s n (gprRead s rt) = { s with cp0 := d }) :
    EndsWithCp0 s d (exec (.mtc0 rt rd sel) s) ∧ (exec64 s = true → EndsWithCp0 s d (exec (.dmtc0 rt rd sel) s)) := by
  refine both_of_writeCp0 hc ?_
  rw [writeCp0_plain hn h, hw]
  exact endsWithCp0_done s d

/-- Settles O41: each register's write is the one of its fields; Status and Config0 have their own ends. -/
theorem moveToCp0WritesItsFields : Obligations.MoveToCp0WritesItsFields := by
  intro s rt rd sel hc
  have low : ∀ k n, k + n ≤ 32 → (low32 (gprRead s rt)).extractLsb' k n = (gprRead s rt).extractLsb' k n :=
    fun k n h => low32_extractLsb' _ h
  refine ⟨both_of_cp0Write hc .index rfl (by decide) ?_, both_of_cp0Write hc .entryLo0 rfl (by decide) ?_,
    both_of_cp0Write hc .entryLo1 rfl (by decide) ?_, both_of_cp0Write hc .context rfl (by decide) rfl,
    both_of_cp0Write hc .pageMask rfl (by decide) ?_, both_of_cp0Write hc .wired rfl (by decide) ?_,
    both_of_cp0Write hc .entryHi rfl (by decide) rfl, both_of_cp0Write hc .cause rfl (by decide) ?_,
    both_of_cp0Write hc .epc rfl (by decide) rfl, both_of_cp0Write hc .xcontext rfl (by decide) rfl,
    both_of_cp0Write hc .perfCtl0 rfl (by decide) ?_, both_of_cp0Write hc .perfCnt0 rfl (by decide) ?_,
    both_of_cp0Write hc .perfCtl1 rfl (by decide) ?_, both_of_cp0Write hc .perfCnt1 rfl (by decide) ?_,
    both_of_cp0Write hc .tagLo rfl (by decide) ?_, both_of_cp0Write hc .dataLo rfl (by decide) rfl,
    both_of_cp0Write hc .dataHi rfl (by decide) ?_, both_of_cp0Write hc .errorEpc rfl (by decide) rfl,
    fun h4 h3 => both_of_cp0Write hc .errCtl rfl (by decide) ?_, both_of_cp0Write hc .random rfl (by decide) rfl,
    both_of_cp0Write hc .badVAddr rfl (by decide) rfl, both_of_cp0Write hc .prid rfl (by decide) rfl,
    both_of_cp0Write hc .config1 rfl (by decide) rfl, both_of_cp0Write hc .tagHi rfl (by decide) rfl,
    fun h => both_of_cp0Write hc .absent (MoveFromCp0.cp0Name_absent rd sel h) (by decide) rfl,
    both_of_writeCp0 hc (p := EndsWithTimer s _ _) ?_, both_of_writeCp0 hc (p := EndsWithTimer s _ _) ?_,
    fun hv hf => both_of_writeCp0 hc (p := EndsWithCp0 s _) ?_,
    fun hv hf => both_of_writeCp0 hc (p := EndsWithFreeFprs s _) ?_,
    fun hs hv => both_of_writeCp0 hc (p := fun o => o = _) (writeCp0_config0_stops hs hv),
    fun h => both_of_writeCp0 hc (p := EndsWithConfig0 s _) ?_⟩
  · simp only [cp0Write, low 0 6 (by decide)]
  · simp only [cp0Write, unpackEntryLo_low32]
  · simp only [cp0Write, unpackEntryLo_low32]
  · simp only [cp0Write, low 13 12 (by decide)]
  · simp only [cp0Write, low 0 6 (by decide)]
  · simp only [cp0Write, low 8 2 (by decide), low32_getLsbD _ (show 23 < 32 by decide)]
  · simp only [cp0Write, unpackPerfCtl_low32]
  · simp only [cp0Write, low32_eq]
  · simp only [cp0Write, unpackPerfCtl_low32]
  · simp only [cp0Write, low32_eq]
  · simp only [cp0Write, low 0 26 (by decide)]
  · simp only [cp0Write, low32_eq]
  · simp only [cp0Write, unpackErrCtl_low32 h4 h3]
  · rw [writeCp0_plain (n := .count) rfl (by decide), cp0Write, low32_eq]
    exact endsWithTimer_done s _ _
  · rw [writeCp0_plain (n := .compare) rfl (by decide), cp0Write, low32_eq]
    exact endsWithTimer_done s _ _
  · rw [writeCp0_status hv, cp0Write_status, if_pos hf, hv]
    exact endsWithCp0_done s _
  · rw [writeCp0_status hv, cp0Write_status, if_neg hf, hv]
    exact endsWithFreeFprs_done s _
  · rw [writeCp0_config0 h]
    exact endsWithConfig0_done s _

end Sys2Proof.Proofs.MoveToCp0
end

section
/-! The FPU compares (49_fpu_convert_compare_branch.md R780, R781). -/

namespace Sys2Proof.Proofs.FpCompare

open Sys2Proof.Machine Sys2Proof.Laws Sys2Proof.Claims

/-! The operands. -/

/-- A register read in the format it was written in, or after a raw write, gives its bits (10_state.md R43). -/
theorem fpOperand_eq {s : State} {f : Fmt} {i : RegNum} (h : formatFits s i f.tag = true) (k : Nat) :
    fpOperand s f k i = fpBits s f i := by
  cases f <;> simp only [Fmt.tag] at h <;> simp [fpOperand, fpBits, operand32, operand64, h]

/-! The order of two numbers, on a common scale. -/

/-- A normal number has a positive significand, and its last place is not below the least unit of the format (R660). -/
theorem normal_bounds {f : Fmt} {v : Word} {sign : Bool} {m : Nat} {e : Int} (h : classify f v = .normal sign m e) :
    0 < m ∧ f.emin - f.frac ≤ e := by
  unfold classify at h
  dsimp only at h
  split at h
  · split at h <;> cases h
  split at h
  · split at h <;> cases h
  · cases h
    have := Nat.two_pow_pos f.frac
    refine ⟨by omega, ?_⟩
    unfold Fmt.emin
    omega

theorem scaled_zero {f : Fmt} {v : Word} {sign : Bool} (h : classify f v = .zero sign) : scaled f v = 0 := by
  simp [scaled, h]

theorem scaled_normal {f : Fmt} {v : Word} {sign : Bool} {m : Nat} {e : Int} (h : classify f v = .normal sign m e) :
    scaled f v = signed sign (m * 2 ^ (e - (f.emin - f.frac)).toNat) := by
  simp [scaled, h]

theorem signed_mul (sign : Bool) (m n : Nat) : signed sign (m * n) = signed sign m * n := by
  cases sign <;> simp [signed]

/-- A normal number is a multiple of any unit between the least one and its own, scaled. -/
theorem scaled_eq_mul {f : Fmt} {v : Word} {sign : Bool} {m : Nat} {e z : Int} (h : classify f v = .normal sign m e)
    (hz : f.emin - f.frac ≤ z) (hze : z ≤ e) :
    scaled f v = signed sign (m * 2 ^ (e - z).toNat) * (2 ^ (z - (f.emin - f.frac)).toNat : Nat) := by
  rw [scaled_normal h, ← signed_mul, Nat.mul_assoc, ← Nat.pow_add]
  congr 3
  omega

theorem scaled_pos_iff {f : Fmt} {v : Word} {sign : Bool} {m : Nat} {e : Int} (h : classify f v = .normal sign m e) :
    (0 < scaled f v ↔ sign = false) ∧ (scaled f v < 0 ↔ sign = true) ∧ scaled f v ≠ 0 := by
  have hm : 0 < m * 2 ^ (e - (f.emin - f.frac)).toNat := Nat.mul_pos (normal_bounds h).1 (Nat.two_pow_pos _)
  rw [scaled_normal h]
  generalize m * 2 ^ (e - (f.emin - f.frac)).toNat = k at hm
  cases sign <;> simp [signed] <;> omega

/-- The comparison of two finite numbers is the one of their multiples of the least unit (R780). -/
theorem compareValues_finite {f : Fmt} {a b : Word} (ha : Finite f a) (hb : Finite f b) :
    compareValues f a b = (decide (scaled f a < scaled f b), decide (scaled f a = scaled f b)) := by
  unfold compareValues
  obtain ⟨sa, ha⟩ | ⟨sa, ma, ea, ha⟩ := ha <;> obtain ⟨sb, hb⟩ | ⟨sb, mb, eb, hb⟩ := hb <;> simp only [ha, hb]
  · simp [scaled_zero ha, scaled_zero hb]
  · obtain ⟨hpos, -, hne⟩ := scaled_pos_iff hb
    rw [scaled_zero ha, decide_eq_false hne.symm, Bool.decide_congr hpos]
    cases sb <;> rfl
  · obtain ⟨-, hneg, hne⟩ := scaled_pos_iff ha
    rw [scaled_zero hb, decide_eq_false hne, Bool.decide_congr hneg]
    cases sa <;> rfl
  · have h1 := (normal_bounds ha).2
    have h2 := (normal_bounds hb).2
    have hp : (0 : Int) < (2 ^ (min ea eb - (f.emin - f.frac)).toNat : Nat) := by exact_mod_cast Nat.two_pow_pos _
    rw [scaled_eq_mul ha (le_min h1 h2) (min_le_left ea eb), scaled_eq_mul hb (le_min h1 h2) (min_le_right ea eb),
      Bool.decide_congr (Int.mul_lt_mul_right hp), Bool.decide_congr (Int.mul_eq_mul_right_iff hp.ne')]
    rfl

/-! The end of a compare. -/

section End

variable {c : Fcsr} {f : Fmt} {a b : Word}

theorem compareEnd_denormal (h : (isDenormal f a || isDenormal f b) = true) (cond : BitVec 4) :
    compareEnd c f cond a b = .inl causeE := by simp only [compareEnd, h, if_true]

theorem compareEnd_nan (hd : (isDenormal f a || isDenormal f b) = false) (hn : (isNan f a || isNan f b) = true)
    (cond : BitVec 4) : compareEnd c f cond a b =
      if cond.getLsbD 3 then .inl (if enabled c 4 then causeV else causeE) else .inr (cond.getLsbD 0) := by
  simp only [compareEnd, hd, hn, Bool.false_eq_true, if_false, if_true]

/-- Operands that are neither denormalized nor NaNs are compared. -/
theorem compareEnd_values (ha : Finite f a ∨ ∃ g, classify f a = .inf g) (hb : Finite f b ∨ ∃ g, classify f b = .inf g)
    (cond : BitVec 4) : compareEnd c f cond a b =
      .inr ((cond.getLsbD 2 && (compareValues f a b).1) || (cond.getLsbD 1 && (compareValues f a b).2)) := by
  have hv : ∀ v, (Finite f v ∨ ∃ g, classify f v = .inf g) → isDenormal f v = false ∧ isNan f v = false := by
    rintro v ((⟨g, h⟩ | ⟨g, m, e, h⟩) | ⟨g, h⟩) <;> simp [isDenormal, isNan, h]
  simp only [compareEnd, hv a ha, hv b hb, Bool.or_self, Bool.false_eq_true, if_false]

end End

/-! The instruction. -/

section Instruction

variable {s : State} {ft fs : RegNum} {cc : BitVec 3}

/-- The entry of an exception looks at no free value. -/
theorem entered_of_spend {n : Nat} {code : BitVec 5} {offset : Word} {t : State} (h : Entered (spend n s) code offset t) :
    Entered s code offset t := by
  obtain ⟨hcode, hexl, hpc, hdelay, hsaves, hgpr, hmem, hstatus, hcause, hrest⟩ := h
  exact ⟨hcode, hexl, hpc, hdelay, hsaves, hgpr, hmem, hstatus, hcause, hrest⟩

theorem raisesFpe_signal_spend (n : Nat) (c : BitVec 6) (s : State) : RaisesFpe s (signalFpe c (spend n s)) c := by
  obtain ⟨t, ht, he, hk⟩ := raisesFpe_signal c (spend n s)
  exact ⟨t, ht, entered_of_spend (s := setFpuCause s c) he, hk⟩

/-- What a compare that sets its condition code to `x` does. -/
def SetsCondition (s : State) (cc : BitVec 3) (o : Out) (x : Bool) : Prop :=
  ∃ t, o = .next t
    ∧ (∀ k : BitVec 3, t.fcsr.fcc.getLsbD k.toNat = if k = cc then x else s.fcsr.fcc.getLsbD k.toNat)
    ∧ t.fcsr = { s.fcsr with cause := 0, fcc := t.fcsr.fcc } ∧ t.fpr = s.fpr ∧ t.fprFormat = s.fprFormat
      ∧ MovesOn s t ∧ FpKeeps s t

theorem setsCondition_done (s : State) (cc : BitVec 3) (x : Bool) : SetsCondition s cc
    (done { spend 3 s with fcsr := { s.fcsr with cause := 0, fcc := fccWith s.fcsr.fcc cc x } }) x := by
  refine ⟨_, congrArg Host.Outcome.next (advance_eq _), fun k => fccWith_bit _ _ _ _, rfl, rfl, rfl, ⟨rfl, rfl⟩,
    fun r => rfl, sameMemory_of rfl rfl rfl rfl, rfl⟩

variable (hcu : s.cp0.status.cu1 = true) (hfs : fprNumberOk s fs = true) (hft : fprNumberOk s ft = true)
  {f : Fmt} (has : formatFits s fs f.tag = true) (hat : formatFits s ft f.tag = true)
include hcu hfs hft has hat

theorem setsCondition_fpCompare {cond : BitVec 4} {x : Bool}
    (h : compareEnd s.fcsr f cond (fpBits s f fs) (fpBits s f ft) = .inr x) :
    SetsCondition s cc (fpCompare f cond ft fs cc s) x := by
  unfold fpCompare
  rw [fpPre_of hcu (by simp [hfs, hft]), fpOperand_eq has, fpOperand_eq hat, h]
  exact setsCondition_done s cc x

theorem raisesFpe_fpCompare {cond : BitVec 4} {c : BitVec 6}
    (h : compareEnd s.fcsr f cond (fpBits s f fs) (fpBits s f ft) = .inl c) :
    RaisesFpe s (fpCompare f cond ft fs cc s) c := by
  unfold fpCompare
  rw [fpPre_of hcu (by simp [hfs, hft]), fpOperand_eq has, fpOperand_eq hat, h]
  exact raisesFpe_signal_spend 3 c s

end Instruction

/-- The bits of a condition number. -/
theorem cond_bits : ∀ c : Fin 16, (BitVec.ofNat 4 c.val).getLsbD 2 = (c.val / 4 % 2 == 1)
    ∧ (BitVec.ofNat 4 c.val).getLsbD 1 = (c.val / 2 % 2 == 1) ∧ (BitVec.ofNat 4 c.val).getLsbD 0 = (c.val % 2 == 1)
    ∧ (BitVec.ofNat 4 c.val).getLsbD 3 = !decide (c.val < 8) := by decide

/-- What C.cond.fmt does under each class of operands, for one format and condition. -/
def Compares (s : State) (ft fs : RegNum) (cc : BitVec 3) (f : Fmt) (cond : Nat) (i : Instr) : Prop :=
  formatFits s fs f.tag = true → formatFits s ft f.tag = true →
    let a := fpBits s f fs
    let b := fpBits s f ft
    let den := isDenormal f a || isDenormal f b
    let nan := isNan f a || isNan f b
    (Finite f a → Finite f b → SetsCondition s cc (exec i s)
      (cond / 4 % 2 == 1 && decide (scaled f a < scaled f b) || cond / 2 % 2 == 1 && decide (scaled f a = scaled f b)))
    ∧ (∀ g, classify f a = .inf g → (Finite f b ∨ ∃ h, classify f b = .inf h) → SetsCondition s cc (exec i s)
      (cond / 4 % 2 == 1 && g && decide (classify f b ≠ .inf true) || cond / 2 % 2 == 1 && decide (classify f b = .inf g)))
    ∧ (∀ g, classify f b = .inf g → Finite f a → SetsCondition s cc (exec i s) (cond / 4 % 2 == 1 && !g))
    ∧ (den = true → RaisesFpe s (exec i s) 0b100000)
    ∧ (den = false → nan = true → if cond < 8 then SetsCondition s cc (exec i s) (cond % 2 == 1)
        else RaisesFpe s (exec i s) (if s.fcsr.enables.getLsbD 4 then 0b010000 else 0b100000))

theorem compareValues_inf_left {f : Fmt} {a b : Word} {g : Bool} (ha : classify f a = .inf g)
    (hb : Finite f b ∨ ∃ h, classify f b = .inf h) :
    compareValues f a b = (g && decide (classify f b ≠ .inf true), decide (classify f b = .inf g)) := by
  unfold compareValues
  obtain (⟨h, hb⟩ | ⟨h, m, e, hb⟩) | ⟨h, hb⟩ := hb <;> simp only [ha, hb]
  · simp
  · simp
  · cases g <;> cases h <;> rfl

theorem compareValues_inf_right {f : Fmt} {a b : Word} {g : Bool} (hb : classify f b = .inf g) (ha : Finite f a) :
    compareValues f a b = (!g, false) := by
  unfold compareValues
  obtain ⟨h, ha⟩ | ⟨h, m, e, ha⟩ := ha <;> simp only [ha, hb]

/-- A compare of one format and condition, from the end its operands lead to. -/
theorem compares_of {s : State} {ft fs : RegNum} {cc : BitVec 3} (hcu : s.cp0.status.cu1 = true)
    (hfs : fprNumberOk s fs = true) (hft : fprNumberOk s ft = true) {f : Fmt} (c : Fin 16) {i : Instr}
    (hi : exec i s = fpCompare f (BitVec.ofNat 4 c.val) ft fs cc s) : Compares s ft fs cc f c.val i := by
  intro has hat
  obtain ⟨h2, h1, h0, h3⟩ := cond_bits c
  rw [hi]
  have sets : ∀ {x}, compareEnd s.fcsr f (BitVec.ofNat 4 c.val) (fpBits s f fs) (fpBits s f ft) = .inr x →
      SetsCondition s cc (fpCompare f (BitVec.ofNat 4 c.val) ft fs cc s) x :=
    setsCondition_fpCompare hcu hfs hft has hat
  have raises : ∀ {x}, compareEnd s.fcsr f (BitVec.ofNat 4 c.val) (fpBits s f fs) (fpBits s f ft) = .inl x →
      RaisesFpe s (fpCompare f (BitVec.ofNat 4 c.val) ft fs cc s) x := raisesFpe_fpCompare hcu hfs hft has hat
  refine ⟨fun ha hb => sets ?_, fun g ha hb => sets ?_, fun g hb ha => sets ?_, fun hd => raises ?_, fun hd hn => ?_⟩
  · rw [compareEnd_values (.inl ha) (.inl hb), compareValues_finite ha hb, h2, h1]
  · rw [compareEnd_values (.inr ⟨g, ha⟩) hb, compareValues_inf_left ha hb, h2, h1, Bool.and_assoc]
  · rw [compareEnd_values (.inl ha) (.inr ⟨g, hb⟩), compareValues_inf_right hb ha, h2]
    simp
  · exact compareEnd_denormal hd _
  · have he := compareEnd_nan (c := s.fcsr) hd hn (BitVec.ofNat 4 c.val)
    rw [h3, h0] at he
    by_cases hc : c.val < 8
    · rw [if_pos hc]
      exact sets (he.trans (by simp [hc]))
    · rw [if_neg hc]
      exact raises (he.trans (by simp [hc, enabled, causeV, causeE]))

/-- Settles O52: each of the 32 compares is the shared one at its format and condition. -/
theorem fpCompares : Obligations.FpCompares := by
  intro s ft fs cc hcu hfs hft
  have all : ∀ {f : Fmt} (c : Fin 16) {i : Instr}, exec i s = fpCompare f (BitVec.ofNat 4 c.val) ft fs cc s →
      Compares s ft fs cc f c.val i := fun c _ hi => compares_of hcu hfs hft c hi
  exact ⟨all 0 rfl, all 0 rfl, all 1 rfl, all 1 rfl, all 2 rfl, all 2 rfl, all 3 rfl, all 3 rfl, all 4 rfl, all 4 rfl,
    all 5 rfl, all 5 rfl, all 6 rfl, all 6 rfl, all 7 rfl, all 7 rfl, all 8 rfl, all 8 rfl, all 9 rfl, all 9 rfl,
    all 10 rfl, all 10 rfl, all 11 rfl, all 11 rfl, all 12 rfl, all 12 rfl, all 13 rfl, all 13 rfl, all 14 rfl, all 14 rfl,
    all 15 rfl, all 15 rfl⟩

end Sys2Proof.Proofs.FpCompare
end

section
/-! The FPU moves, the transfers to and from the integer registers, and the FPU control registers (48_fpu_load_store_move.md R720 to
R724, R744 to R750). -/

namespace Sys2Proof.Proofs.FpMove

open Sys2Proof.Machine Sys2Proof.Laws Sys2Proof.Claims

/-! A write of an FPU register. -/

section Write

variable (s : State) (i : RegNum) (f : FprFormat)

theorem fprRecord_setContainer (v : Word) (r : RegNum) :
    fprRecord (setContainer s i v f) r = if r = i then f else fprRecord s r := by
  simp only [fprRecord, setContainer, Vector.getElem_set]
  by_cases h : r = i
  · subst h; simp
  · have : ¬ i.toNat = r.toNat := fun e => h (BitVec.eq_of_toNat_eq e.symm)
    simp [h, this]

theorem fprSame_setContainer (v : Word) {r : RegNum} (h : r ≠ i) : FprSame s (setContainer s i v f) r :=
  ⟨(fpr_setContainer s i v f r).trans (if_neg h), (fprRecord_setContainer s i f v r).trans (if_neg h)⟩

theorem low32_append (a b : HalfWord) : low32 (a ++ b) = b := by
  unfold low32
  rw [BitVec.setWidth_append]
  simp

theorem fpr32_setContainer (a b : HalfWord) (r : RegNum) :
    fpr32 (setContainer s i (a ++ b) f) r = if r = i then b else fpr32 s r := by
  unfold fpr32
  rw [fpr_setContainer]
  split
  · exact low32_append a b
  · rfl

/-- The low word is written, whatever becomes of the upper half (R720). -/
theorem fpr32Is_setFpr32 (w : HalfWord) : Fpr32Is s (setFpr32 s i w f) f i w := by
  have h : ∀ a : HalfWord, Fpr32Is s (setContainer s i (a ++ w) f) f i w := fun a =>
    ⟨(fpr32_setContainer s i f a w i).trans (if_pos rfl), (fprRecord_setContainer s i f _ i).trans (if_pos rfl),
      fun _ hr => fprSame_setContainer s i f _ hr⟩
  unfold setFpr32
  split
  · exact h _
  · exact h _

theorem pairUp_ne {i : RegNum} (h : i.getLsbD 0 = false) : pairUp i ≠ i := by
  revert i
  decide

theorem word_eq_append (d : Word) : d.extractLsb' 32 32 ++ low32 d = d := by
  apply BitVec.eq_of_getLsbD_eq
  intro k hk
  rw [BitVec.getLsbD_append]
  by_cases h : k < 32
  · simp [low32, h]
  · have h1 : k - 32 < 32 := by omega
    simp [h, h1, show 32 + (k - 32) = k by omega]

/-- All 64 bits are written, with FR = 0 into the pair (R720). -/
theorem fpr64Is_setFpr64 {i : RegNum} (h : fprNumberOk s i = true) (d : Word) : Fpr64Is s (setFpr64 s i d f) f i d := by
  unfold setFpr64
  cases hfr : s.cp0.status.fr
  · have hi : i.getLsbD 0 = false := by simpa [fprNumberOk, hfr] using h
    have hne := pairUp_ne hi
    simp only [Bool.false_eq_true, if_false]
    refine ⟨?_, fun r => ?_⟩
    · have hfr' : (setContainer (setContainer s i ((s.fpr[i.toNat]'i.isLt).extractLsb' 32 32 ++ low32 d) f) (pairUp i)
          ((s.fpr[(pairUp i).toNat]'(pairUp i).isLt).extractLsb' 32 32 ++ d.extractLsb' 32 32) f).cp0.status.fr = false := hfr
      rw [fpr64, hfr', if_neg (by decide), fpr32_setContainer, if_pos rfl, fpr32_setContainer, if_neg hne.symm,
        fpr32_setContainer, if_pos rfl, word_eq_append]
    · rw [fprRecord_setContainer, fprRecord_setContainer]
      by_cases h1 : r = pairUp i
      · rw [if_pos (Or.inr ⟨hfr, h1⟩), if_pos h1]
      · by_cases h2 : r = i
        · rw [if_pos (Or.inl h2), if_neg h1, if_pos h2]
        · have h3 : ¬ (r = i ∨ s.cp0.status.fr = false ∧ r = i ||| 1) := by
            rintro (h | ⟨-, h⟩)
            · exact h2 h
            · exact h1 h
          rw [if_neg h3]
          obtain ⟨ha, hb⟩ := fprSame_setContainer s i f ((s.fpr[i.toNat]'i.isLt).extractLsb' 32 32 ++ low32 d) h2
          obtain ⟨hc, hd⟩ := fprSame_setContainer (setContainer s i ((s.fpr[i.toNat]'i.isLt).extractLsb' 32 32 ++ low32 d) f)
            (pairUp i) f ((s.fpr[(pairUp i).toNat]'(pairUp i).isLt).extractLsb' 32 32 ++ d.extractLsb' 32 32) h1
          exact ⟨hc.trans ha, hd.trans hb⟩
  · simp only [if_true]
    refine ⟨?_, fun r => ?_⟩
    · have hfr' : (setContainer s i d f).cp0.status.fr = true := hfr
      rw [fpr64, hfr', if_pos rfl, fpr_setContainer, if_pos rfl]
    · by_cases h1 : r = i
      · rw [if_pos (Or.inl h1), fprRecord_setContainer, if_pos h1]
      · rw [if_neg (by simp [h1, hfr])]
        exact fprSame_setContainer s i f d h1

/-- A write of an FPU register touches the containers, their records, and the free values used. -/
theorem setFpr32_frame (w : HalfWord) :
    ∃ x y n, setFpr32 s i w f = { s with fpr := x, fprFormat := y, draws := n } := by
  unfold setFpr32
  split <;> exact ⟨_, _, _, rfl⟩

theorem setFpr64_frame (d : Word) : ∃ x y n, setFpr64 s i d f = { s with fpr := x, fprFormat := y, draws := n } := by
  unfold setFpr64
  split <;> exact ⟨_, _, _, rfl⟩

end Write

section Ends

variable {s u : State}

/-- An instruction that ends after a change of the FPU registers alone keeps the rest. -/
theorem fpKeeps_advance {x : Vector Word 32} {y : Vector FprFormat 32} {n : Nat}
    (h : u = { s with fpr := x, fprFormat := y, draws := n }) :
    (advance u).fcsr = s.fcsr ∧ MovesOn s (advance u) ∧ FpKeeps s (advance u) := by
  subst h
  rw [advance_eq]
  exact ⟨rfl, ⟨rfl, rfl⟩, fun _ => rfl, sameMemory_of rfl rfl rfl rfl, rfl⟩

theorem fpr32Is_advance {f : FprFormat} {i : RegNum} {w : HalfWord} (h : Fpr32Is s u f i w) : Fpr32Is s (advance u) f i w := by
  rw [advance_eq]; exact h

theorem fpr64Is_advance {f : FprFormat} {i : RegNum} {d : Word} (h : Fpr64Is s u f i d) : Fpr64Is s (advance u) f i d := by
  rw [advance_eq]; exact h

end Ends

/-! The moves (R746 to R750). -/

section Moves

variable {s : State} {f : Fmt} {fs fd : RegNum}

/-- The end of a move that copies: fd holds the bits of fs in the format of the move, and nothing else has changed. -/
theorem copies_moveFp (hd : fprNumberOk s fd = true) (hf : formatFits s fs f.tag = true) :
    ∃ t, done (moveFp s f fs fd) = .next t ∧ FprIs s t f f.tag fd (fpBits s f fs) ∧ t.fcsr = s.fcsr ∧ MovesOn s t
      ∧ FpKeeps s t := by
  refine ⟨_, rfl, ?_, ?_⟩
  · rw [moveFp, FpCompare.fpOperand_eq hf]
    cases f
    · exact fpr32Is_advance (fpr32Is_setFpr32 (spend 3 s) fd .s _)
    · exact fpr64Is_advance (fpr64Is_setFpr64 (spend 3 s) .d hd _)
  · rw [moveFp]
    cases f
    · obtain ⟨x, y, n, h⟩ := setFpr32_frame (spend 3 s) fd .s (low32 (fpOperand s .s 0 fs))
      exact fpKeeps_advance h
    · obtain ⟨x, y, n, h⟩ := setFpr64_frame (spend 3 s) fd .d (fpOperand s .d 0 fs)
      exact fpKeeps_advance h

/-- What a move under a condition does: nothing, a copy, or the stop of an odd register (D22). -/
def Moves (s : State) (fs fd : RegNum) (f : Fmt) (p : Prop) (i : Instr) : Prop :=
  (¬ p → DoesNothing s (exec i s))
    ∧ (p → fprNumberOk s fs = true → fprNumberOk s fd = true → formatFits s fs f.tag = true →
        ∃ t, exec i s = .next t ∧ FprIs s t f f.tag fd (fpBits s f fs) ∧ t.fcsr = s.fcsr ∧ MovesOn s t ∧ FpKeeps s t)
    ∧ (p → (fprNumberOk s fs = false ∨ fprNumberOk s fd = false) → exec i s = .fault .oddFprWithFr0)

theorem moves_of_moveFpIf (hcu : s.cp0.status.cu1 = true) {p : Prop} {c : Bool} (hp : p ↔ c = true) {i : Instr}
    (hi : exec i s = moveFpIf s f fs fd c) : Moves s fs fd f p i := by
  refine ⟨fun hn => ?_, fun h h1 h2 hf => ?_, fun h hodd => ?_⟩
  · rw [hi, moveFpIf, if_neg (mt hp.2 hn), needCu1_of hcu]
    exact doesNothing_done s
  · rw [hi, moveFpIf, if_pos (hp.1 h), fpPre_of hcu (by simp [h1, h2])]
    exact copies_moveFp h2 hf
  · rw [hi, moveFpIf, if_pos (hp.1 h), fpPre, needCu1_of hcu, if_neg]
    rcases hodd with h | h <;> simp [h]

end Moves

/-- Settles O53: every move is the conditional one, MOV.fmt with a condition that holds. -/
theorem fpMoves : Obligations.FpMoves := by
  intro s rt fs fd cc hcu
  have mov : ∀ {f : Fmt} {p : Prop} (c : Bool) {i : Instr}, (p ↔ c = true) → exec i s = moveFpIf s f fs fd c →
      Moves s fs fd f p i := fun _ _ hp hi => moves_of_moveFpIf hcu hp hi
  exact ⟨mov true (by simp) rfl, mov true (by simp) rfl, mov (fccBit s cc) Iff.rfl rfl, mov (fccBit s cc) Iff.rfl rfl,
    mov (!fccBit s cc) (by simp [fccBit]) rfl, mov (!fccBit s cc) (by simp [fccBit]) rfl,
    mov (gprRead s rt != 0) (by simp) rfl, mov (gprRead s rt != 0) (by simp) rfl,
    mov (gprRead s rt == 0) (by simp) rfl, mov (gprRead s rt == 0) (by simp) rfl⟩

/-! The control registers by their fields (10_state.md R51, R58 to R60). -/

section Control

variable (f : Fcsr)

theorem packFccr_eq : packFccr f = (0 : BitVec 24) ++ f.fcc := by
  rw [MoveFromCp0.eq_place (_ ++ f.fcc)]
  simp [MoveFromCp0.place_append, packFccr]

theorem packFexr_eq : packFexr f = (0 : BitVec 14) ++ f.cause ++ (0 : BitVec 5) ++ f.flags ++ (0 : BitVec 2) := by
  rw [MoveFromCp0.eq_place (_ ++ (0 : BitVec 2))]
  simp [MoveFromCp0.place_append, packFexr]

theorem packFenr_eq : packFenr f = (0 : BitVec 20) ++ f.enables ++ (0 : BitVec 4) ++ BitVec.ofBool f.fs ++ f.rm := by
  rw [MoveFromCp0.eq_place (_ ++ f.rm)]
  simp [MoveFromCp0.place_append, packFenr, placeBit]

theorem packFcsr_eq : packFcsr f = f.fcc.extractLsb' 1 7 ++ BitVec.ofBool f.fs ++ f.fcc.extractLsb' 0 1 ++ (0 : BitVec 5)
    ++ f.cause ++ f.enables ++ f.flags ++ f.rm := by
  rw [MoveFromCp0.eq_place (_ ++ f.rm)]
  simp [MoveFromCp0.place_append, packFcsr, placeBit]

theorem writeFccr_low32 (v : Word) : writeFccr f (low32 v) = { f with fcc := v.extractLsb' 0 8 } := by
  simp only [writeFccr, MoveToCp0.low32_extractLsb' v (show 0 + 8 ≤ 32 by decide)]

theorem writeFexr_low32 (v : Word) :
    writeFexr f (low32 v) = { f with cause := v.extractLsb' 12 6, flags := v.extractLsb' 2 5 } := by
  simp (disch := decide) only [writeFexr, MoveToCp0.low32_extractLsb']

theorem writeFenr_low32 (v : Word) : writeFenr f (low32 v) =
    { f with enables := v.extractLsb' 7 5, fs := v.getLsbD 2, rm := v.extractLsb' 0 2 } := by
  simp (disch := decide) only [writeFenr, MoveToCp0.low32_extractLsb', MoveToCp0.low32_getLsbD]

theorem unpackFcsr_low32 (v : Word) : unpackFcsr (low32 v) =
    { fcc := v.extractLsb' 25 7 ++ v.extractLsb' 23 1, fs := v.getLsbD 24, cause := v.extractLsb' 12 6
      enables := v.extractLsb' 7 5, flags := v.extractLsb' 2 5, rm := v.extractLsb' 0 2 } := by
  simp (disch := decide) only [unpackFcsr, MoveToCp0.low32_extractLsb', MoveToCp0.low32_getLsbD]

end Control

section ControlMoves

variable {s : State} {rt k : RegNum} (hcu : s.cp0.status.cu1 = true)
include hcu

theorem writesGpr_cfc1 {x : HalfWord} (h : fcrRead s k = some x) :
    WritesGpr s (exec (.cfc1 rt k) s) rt (x.signExtend 64) := by
  change WritesGpr s (execCfc1 rt k s) rt _
  rw [execCfc1, needCu1_of hcu, h]
  exact writesGpr_doneGpr s rt _

/-- CTC1 writes the new FCSR, and raises FPE with it where the write may raise it and leaves a reason (R61). -/
theorem writes_ctc1 {new : Fcsr} {check : Bool} (h : fcrWrite s k (low32 (gprRead s rt)) = some (new, check)) :
    if check && (new.cause.getLsbD 5 || (new.cause.extractLsb' 0 5 &&& new.enables) != 0) then
      ∃ t, exec (.ctc1 rt k) s = .next t ∧ Entered { s with fcsr := new } 15 0x180 t ∧ KeepsAddresses s t
    else ∃ t, exec (.ctc1 rt k) s = .next t ∧ MovesOn s t ∧ t = { s with fcsr := new, pc := t.pc, delay := t.delay } := by
  have he : exec (.ctc1 rt k) s
      = if check && fcsrTraps new then raise .fpe { s with fcsr := new } else done { s with fcsr := new } := by
    change execCtc1 rt k s = _
    rw [execCtc1, needCu1_of hcu, h]
  rw [he]
  change if (check && fcsrTraps new) = true then _ else _
  split
  · exact ⟨_, rfl, entered_plain (e := .fpe) rfl { s with fcsr := new }⟩
  · refine ⟨_, rfl, movesOn_advance rfl rfl, ?_⟩
    rw [advance_eq]

/-- Another control register the chip does not have (R63). -/
theorem control_absent (h : k ≠ 0 ∧ k ≠ 25 ∧ k ≠ 26 ∧ k ≠ 28 ∧ k ≠ 31) :
    exec (.cfc1 rt k) s = .fault .unknownFcr ∧ exec (.ctc1 rt k) s = .fault .unknownFcr := by
  obtain ⟨h0, h25, h26, h28, h31⟩ := h
  have hr : fcrRead s k = none := by unfold fcrRead; split <;> first | rfl | contradiction
  have hw : ∀ v, fcrWrite s k v = none := fun v => by unfold fcrWrite; split <;> first | rfl | contradiction
  constructor
  · change execCfc1 rt k s = _
    rw [execCfc1, needCu1_of hcu, hr]
  · change execCtc1 rt k s = _
    rw [execCtc1, needCu1_of hcu, hw]

end ControlMoves

section Transfers

variable {s : State} {rt fs : RegNum} (hcu : s.cp0.status.cu1 = true)
include hcu

theorem exec_mtc1 : ∃ t, exec (.mtc1 rt fs) s = .next t ∧ Fpr32Is s t .raw fs ((gprRead s rt).extractLsb' 0 32)
    ∧ t.fcsr = s.fcsr ∧ MovesOn s t ∧ FpKeeps s t := by
  obtain ⟨x, y, n, h⟩ := setFpr32_frame s fs .raw ((gprRead s rt).extractLsb' 0 32)
  refine ⟨_, ?_, fpr32Is_advance (fpr32Is_setFpr32 s fs .raw _), fpKeeps_advance h⟩
  change execMtc1 rt fs s = _
  rw [execMtc1, needCu1_of hcu, low32_eq, done]

theorem exec_mfc1 : WritesGpr s (exec (.mfc1 rt fs) s) rt ((fpr32 s fs).signExtend 64) := by
  change WritesGpr s (execMfc1 rt fs s) rt _
  rw [execMfc1, needCu1_of hcu]
  exact writesGpr_doneGpr s rt _

variable (hx : exec64 s = true) (hn : fprNumberOk s fs = true)
include hx hn

theorem exec_dmtc1 : ∃ t, exec (.dmtc1 rt fs) s = .next t ∧ Fpr64Is s t .raw fs (gprRead s rt)
    ∧ t.fcsr = s.fcsr ∧ MovesOn s t ∧ FpKeeps s t := by
  obtain ⟨x, y, n, h⟩ := setFpr64_frame s fs .raw (gprRead s rt)
  refine ⟨_, ?_, fpr64Is_advance (fpr64Is_setFpr64 s .raw hn _), fpKeeps_advance h⟩
  change execDmtc1 rt fs s = _
  rw [execDmtc1, needCu1_of hcu, need64Move_of hx, needFpr_of hn, done]

theorem exec_dmfc1 : WritesGpr s (exec (.dmfc1 rt fs) s) rt (fpr64 s fs) := by
  change WritesGpr s (execDmfc1 rt fs s) rt _
  rw [execDmfc1, needCu1_of hcu, need64Move_of hx, needFpr_of hn]
  exact writesGpr_doneGpr s rt _

end Transfers

/-- Settles O54: the transfers write one register; each control register is its fields, read and written. -/
theorem fpTransfersAndControl : Obligations.FpTransfersAndControl := by
  intro s rt fs hcu
  have some_pair : ∀ {a b : Fcsr} (c : Bool), a = b → some (a, c) = some (b, c) := fun _ h => by rw [h]
  exact ⟨exec_mtc1 hcu, exec_mfc1 hcu, fun hx hn => ⟨exec_dmtc1 hcu hx hn, exec_dmfc1 hcu hx hn⟩,
    writesGpr_cfc1 hcu rfl, writesGpr_cfc1 hcu (congrArg some (packFccr_eq s.fcsr)),
    writesGpr_cfc1 hcu (congrArg some (packFexr_eq s.fcsr)), writesGpr_cfc1 hcu (congrArg some (packFenr_eq s.fcsr)),
    writesGpr_cfc1 hcu (congrArg some (packFcsr_eq s.fcsr)),
    writes_ctc1 hcu rfl, writes_ctc1 hcu (some_pair false (writeFccr_low32 s.fcsr _)),
    writes_ctc1 hcu (some_pair true (writeFexr_low32 s.fcsr _)), writes_ctc1 hcu (some_pair true (writeFenr_low32 s.fcsr _)),
    writes_ctc1 hcu (some_pair true (unpackFcsr_low32 _)), control_absent hcu⟩

end Sys2Proof.Proofs.FpMove
end

section
/-! The instruction boundary (60_exceptions.md R850, R851, R855, 80_external_interface.md R945). -/

namespace Sys2Proof.Proofs.Boundary

open Sys2Proof.Machine Sys2Proof.Laws Sys2Proof.Claims

/-! Count and the performance counters. -/

theorem add_ofNat_eq_iff (c d : HalfWord) (k : Nat) : c + BitVec.ofNat 32 k = d ↔ k % 2 ^ 32 = (d - c).toNat := by
  rw [← BitVec.toNat_ofNat k 32]
  constructor
  · rintro rfl
    rw [add_sub_cancel_left]
  · intro h
    rw [BitVec.eq_of_toNat_eq h, BitVec.add_comm, BitVec.sub_add_cancel]

/-- Count meets Compare on its way exactly if Compare is not Count itself and near enough, or Count goes all the way round (R851). -/
theorem countHits_iff (c d : HalfWord) (n : Nat) :
    ((d - c).toNat ≠ 0 ∧ (d - c).toNat ≤ n) ∨ 2 ^ 32 ≤ n ↔ ∃ k, 0 < k ∧ k ≤ n ∧ c + BitVec.ofNat 32 k = d := by
  simp only [add_ofNat_eq_iff]
  have hlt := (d - c).isLt
  generalize (d - c).toNat = m at hlt ⊢
  constructor
  · intro h
    by_cases hm : m = 0
    · exact ⟨2 ^ 32, by omega, by omega, by omega⟩
    · exact ⟨m, by omega, by omega, by omega⟩
  · rintro ⟨k, h0, hn, rfl⟩
    omega

theorem timerRequest_advanceCount (s : State) (n : Nat) : (advanceCount n s).timerRequest = true
    ↔ s.timerRequest = true ∨ ∃ k, 0 < k ∧ k ≤ n ∧ s.cp0.count + BitVec.ofNat 32 k = s.cp0.compare := by
  rw [← countHits_iff]
  simp [advanceCount]

/-- A performance counter counts: the condition of R855 and R861 as a proposition. -/
def Counts (s : State) (p : PerfCtl) : Prop :=
  let st := s.cp0.status
  st.erl = false ∧ (s.sleeping = true → p.event = 0)
    ∧ (st.exl = true ∧ p.exl = true ∨ st.exl = false ∧ (st.ksu = 0 ∧ p.k = true ∨ st.ksu = 1 ∧ p.s = true ∨ st.ksu = 2 ∧ p.u = true))

theorem counterEnabled_iff (s : State) (p : PerfCtl) : counterEnabled s p = true ↔ Counts s p := by
  unfold counterEnabled Counts
  cases hx : s.cp0.status.exl
  · cases s.sleeping <;> simp [hx, and_comm, or_assoc, and_assoc]
  · cases s.sleeping <;> simp [hx, and_comm (a := p.exl = true), and_assoc]

/-- Count advances before the counters do, and whether they count does not depend on it. -/
theorem counterEnabled_advanceCount (s : State) (n : Nat) (p : PerfCtl) :
    counterEnabled (advanceCount n s) p = counterEnabled s p := rfl

/-! Memory after a list of writes. -/

/-- What one write puts on a byte lane. -/
theorem readByte_applyWrite {m : List Host.Cell} (h : Memory.wf m = true) (w : BusWrite) (lane : Nat) :
    readByte (applyWrite m w) lane = (if w.key ≤ lane then w.bytes[lane - w.key]? else none).getD (readByte m lane) := by
  unfold applyWrite
  rw [readByte_writeBytes h]
  by_cases h1 : w.key ≤ lane
  · by_cases h2 : lane < w.key + w.bytes.length
    · have h3 : lane - w.key < w.bytes.length := by omega
      simp [h1, h2, h3, List.getD_eq_getElem?_getD]
    · have h3 : w.bytes[lane - w.key]? = none := List.getElem?_eq_none (by omega)
      simp [h1, h2, h3]
  · simp [h1]

theorem lastWritten_concat (l : List BusWrite) (w : BusWrite) (lane : Nat) : lastWritten (l ++ [w]) lane
    = (if w.key ≤ lane then w.bytes[lane - w.key]? else none).or (lastWritten l lane) := by
  unfold lastWritten
  rw [List.reverse_append, List.reverse_singleton, List.singleton_append, List.findSome?_cons]
  cases (if w.key ≤ lane then w.bytes[lane - w.key]? else none) <;> rfl

/-- A byte of memory after a list of writes is what the last of them that covers it puts there. -/
theorem readByte_foldl_applyWrite {m : List Host.Cell} (h : Memory.wf m = true) (l : List BusWrite) (lane : Nat) :
    readByte (l.foldl applyWrite m) lane = (lastWritten l lane).getD (readByte m lane) := by
  induction l using List.reverseRecOn with
  | nil => rfl
  | append_singleton l w ih =>
    rw [List.foldl_append, List.foldl_cons, List.foldl_nil, readByte_applyWrite (wf_foldl_applyWrite h), ih, lastWritten_concat]
    cases (if w.key ≤ lane then w.bytes[lane - w.key]? else none) <;> rfl

/-! The boundary. -/

/-- The writes of the host that lie within the 2^36 bytes of memory (20_memory.md R200). -/
def dmaWrites (h : HostInput) : List BusWrite := h.dma.filter fun w => decide (w.key + w.bytes.length ≤ 2 ^ 36)

section Entry

variable {s : State} {h : HostInput} {rest : List HostInput}

/-- What the boundary makes of every component of the state, where the host has an entry. -/
theorem boundary_cons (hs : s.host = h :: rest) : boundary s = { s with
    host := rest, intPins := h.intPins, nmiPin := h.nmi, nmiPending := s.nmiPending || (h.nmi && !s.nmiPin)
    intHeld := h.holdInt, resetRequest := h.reset, timerRequest := (advanceCount h.count s).timerRequest
    cp0 := { s.cp0 with
      count := s.cp0.count + BitVec.ofNat 32 h.count
      perfCnt0 := if counterEnabled s s.cp0.perfCtl0 then s.cp0.perfCnt0 + BitVec.ofNat 32 h.perf0 else s.cp0.perfCnt0
      perfCnt1 := if counterEnabled s s.cp0.perfCtl1 then s.cp0.perfCnt1 + BitVec.ofNat 32 h.perf1 else s.cp0.perfCnt1 }
    wbuf := s.wbuf.drop h.drain
    mem := (dmaWrites h).foldl applyWrite ((s.wbuf.take h.drain).foldl applyWrite s.mem) } := by
  unfold boundary
  rw [hs]
  simp only [applyInput, advanceCounters, counterEnabled_advanceCount]
  simp only [samplePins, applyDma, drain, advanceCount, dmaWrites]
  rfl

theorem boundary_mem (hs : s.host = h :: rest) :
    (boundary s).mem = (s.wbuf.take h.drain ++ dmaWrites h).foldl applyWrite s.mem := by
  rw [boundary_cons hs, List.foldl_append]

theorem boundary_wbuf (hs : s.host = h :: rest) : (boundary s).wbuf = s.wbuf.drop h.drain := by
  rw [boundary_cons hs]

theorem memView_boundary (hs : s.host = h :: rest) :
    memView (boundary s) = (s.wbuf.take h.drain ++ dmaWrites h ++ s.wbuf.drop h.drain).foldl applyWrite s.mem := by
  rw [List.foldl_append, ← boundary_mem hs, ← boundary_wbuf hs]
  rfl

/-- Without writes of its own the host changes nothing that loads see. -/
theorem memView_boundary_of_no_dma (hs : s.host = h :: rest) (hd : h.dma = []) : memView (boundary s) = memView s := by
  have hw : dmaWrites h = [] := by rw [dmaWrites, hd]; rfl
  rw [memView_boundary hs, hw, List.append_nil, List.take_append_drop]
  rfl

end Entry

theorem boundary_nil {s : State} (hs : s.host = []) : boundary s = { drainAll (advanceCount 1 s) with intHeld := false } := by
  unfold boundary
  rw [hs]

/-- One step of Count meets Compare if the next value is Compare. -/
theorem timerRequest_advanceCount_one (s : State) : (advanceCount 1 s).timerRequest = true
    ↔ s.timerRequest = true ∨ s.cp0.count + 1 = s.cp0.compare := by
  rw [timerRequest_advanceCount]
  refine or_congr_right ⟨?_, fun h => ⟨1, Nat.one_pos, Nat.le_refl 1, h⟩⟩
  rintro ⟨k, h0, h1, hk⟩
  obtain rfl : k = 1 := by omega
  exact hk

/-- Settles O59: the boundary is the functions of the schedule one after another, each by its own lemma. -/
theorem boundaryDrivesTimerAndPins : Obligations.BoundaryDrivesTimerAndPins := by
  unfold Obligations.BoundaryDrivesTimerAndPins
  refine ⟨fun s h rest hs => ?_, fun s hs => ?_⟩
  · have hb := boundary_cons hs
    refine ⟨by rw [hb], by rw [hb], ?_, ?_, ?_, by rw [hb], by rw [hb], by rw [hb], by rw [hb], fun r => ?_, fun hd lane => ?_,
      by rw [hb], by rw [hb], by rw [hb], by rw [hb], fun hm lane => ⟨?_, ?_⟩⟩
    · rw [hb]; exact timerRequest_advanceCount s h.count
    · rw [hb]; exact ite_congr (propext (counterEnabled_iff s s.cp0.perfCtl0)) (fun _ => rfl) fun _ => rfl
    · rw [hb]; exact ite_congr (propext (counterEnabled_iff s s.cp0.perfCtl1)) (fun _ => rfl) fun _ => rfl
    · exact gprRead_congr (by rw [hb]) r
    · unfold seenByte
      rw [memView_boundary_of_no_dma hs hd]
    · rw [boundary_mem hs]; exact readByte_foldl_applyWrite hm _ lane
    · unfold seenByte
      rw [memView_boundary hs]; exact readByte_foldl_applyWrite hm _ lane
  · have hb := boundary_nil hs
    refine ⟨by rw [hb]; rfl, fun lane => by rw [hb]; rfl, fun lane => by rw [hb]; rfl, ?_, by rw [hb]; rfl⟩
    rw [hb]; exact timerRequest_advanceCount_one s

end Sys2Proof.Proofs.Boundary
end

section
/-! A cached access that misses (20_memory.md R245): the fill of a line, its victim, and the accesses that fill. -/

namespace Sys2Proof.Proofs.CacheMiss

open Sys2Proof.Machine Sys2Proof.Laws Sys2Proof.Claims

/-! Way Select words. -/

/-- Six bits as a word, the least significant first. -/
def bitsWord (b0 b1 b2 b3 b4 b5 : Bool) : BitVec 6 :=
  BitVec.ofBool b5 ++ BitVec.ofBool b4 ++ BitVec.ofBool b3 ++ BitVec.ofBool b2 ++ BitVec.ofBool b1 ++ BitVec.ofBool b0

theorem getLsbD_bitsWord : ∀ b0 b1 b2 b3 b4 b5 : Bool, let w := bitsWord b0 b1 b2 b3 b4 b5
    w.getLsbD 0 = b0 ∧ w.getLsbD 1 = b1 ∧ w.getLsbD 2 = b2 ∧ w.getLsbD 3 = b3 ∧ w.getLsbD 4 = b4 ∧ w.getLsbD 5 = b5 := by
  decide

theorem bitsWord_getLsbD : ∀ w : BitVec 6,
    bitsWord (w.getLsbD 0) (w.getLsbD 1) (w.getLsbD 2) (w.getLsbD 3) (w.getLsbD 4) (w.getLsbD 5) = w := by
  decide

/-- The word of the order in which way 0 stands at place `p0`, way 1 at `p1`, and so on (R148). -/
def orderWord (p0 p1 p2 p3 : Fin 4) : BitVec 6 :=
  bitsWord (decide (p3 < p2)) (decide (p2 < p1)) (decide (p1 < p0)) (decide (p3 < p0)) (decide (p3 < p1)) (decide (p2 < p0))

theorem orderWord_mem : ∀ p0 p1 p2 p3 : Fin 4, [p0, p1, p2, p3].Nodup → orderWord p0 p1 p2 p3 ∈ legalWs := by
  decide

theorem exists_orderWord : ∀ w ∈ legalWs, ∃ p0 p1 p2 p3 : Fin 4, [p0, p1, p2, p3].Nodup ∧ orderWord p0 p1 p2 p3 = w := by
  decide

/-- The 24 words of the model's list are the words of the orders of the four ways (R147). -/
theorem legalWaySelect_iff (w : BitVec 6) : LegalWaySelect w ↔ w ∈ legalWs := by
  constructor
  · rintro ⟨place, hinj, h0, h1, h2, h3, h4, h5⟩
    rw [← bitsWord_getLsbD w, h0, h1, h2, h3, h4, h5]
    exact orderWord_mem _ _ _ _ (List.Nodup.map hinj (by decide : [(0 : Fin 4), 1, 2, 3].Nodup))
  · intro hw
    obtain ⟨p0, p1, p2, p3, hd, rfl⟩ := exists_orderWord w hw
    refine ⟨![p0, p1, p2, p3], ?_, getLsbD_bitsWord _ _ _ _ _ _⟩
    exact List.nodup_ofFn.1 (by simpa [List.ofFn_succ] using hd)

/-! The lanes of a line. -/

section Lane

variable (pa : PAddr)

theorem lineOf_toNat : lineOf pa = pa.toNat / 32 % 128 := by
  simp [lineOf, Nat.shiftRight_eq_div_pow]

theorem lineOf_lt : lineOf pa < 128 := by
  rw [lineOf_toNat]; omega

theorem tagOf_toNat : (tagOf pa).toNat = pa.toNat / 4096 := by
  have := pa.isLt
  simp only [tagOf, BitVec.extractLsb'_toNat, Nat.shiftRight_eq_div_pow]
  omega

/-- The line of an address starts at the address with its low five bits cleared. -/
theorem lineKey_eq (s : State) : lineKey s (tagOf pa) (lineOf pa) = busAddress s (pa.toNat / 32 * 32) := by
  unfold lineKey
  rw [tagOf_toNat, lineOf_toNat]
  congr 1
  omega

/-- The lanes of an access within a doubleword start in the line of its address. -/
theorem busAddress_laneKey (s : State) (be : Bool) {n : Nat} (h0 : 0 < n) (hn : pa.toNat % 8 + n ≤ 8) :
    busAddress s (laneKey be pa.toNat n) = lineKey s (tagOf pa) (lineOf pa) + laneKey be pa.toNat n % 32 := by
  rw [lineKey_eq]
  unfold busAddress laneKey
  generalize pa.toNat = a at hn ⊢
  cases be <;> simp only [if_true, if_false, Bool.false_eq_true] <;> split <;> omega

theorem laneKey_mod_le (be : Bool) {n : Nat} (hn : pa.toNat % 8 + n ≤ 8) : laneKey be pa.toNat n % 32 + n ≤ 32 := by
  unfold laneKey
  generalize pa.toNat = a at hn ⊢
  cases be <;> simp only [if_true, if_false, Bool.false_eq_true] <;> omega

end Lane

/-! The value of bytes read from a line. -/

theorem joinBytes_lt (bs : List Byte) : (joinBytes bs).toNat < 2 ^ (8 * bs.length) := by
  apply Nat.lt_pow_two_of_testBit
  intro i hi
  change (joinBytes bs).getLsbD i = false
  by_cases h : i < 64
  · have hb := joinBytes_getLsbD bs (i / 8) (i % 8) (by omega) (by omega)
    rw [Nat.div_add_mod] at hb
    have hl : bs.reverse.length ≤ i / 8 := by rw [List.length_reverse]; omega
    simp [hb, List.getD_eq_getElem?_getD, List.getElem?_eq_none hl]
  · exact BitVec.getLsbD_of_ge _ _ (by omega)

theorem lineBytes_length (x : CacheLine) (off n : Nat) : (lineBytes x off n).length = n := by simp [lineBytes]

theorem lineBytes_reverse_getD (x : CacheLine) {off n j : Nat} (hj : j < n) (ho : off + n ≤ 32) :
    (lineBytes x off n).reverse.getD j 0 = x.data[off + (n - 1 - j)]'(by omega) := by
  have h1 : off + (n - 1 - j) < 32 := by omega
  simp [lineBytes, hj, List.getD_eq_getElem?_getD, h1]

/-- A line that holds what memory holds serves a read with the value memory holds. -/
theorem holds_of_line {s : State} {pa : PAddr} {n : Nat} {x : CacheLine} (h0 : 0 < n) (hn : pa.toNat % 8 + n ≤ 8)
    (hx : ∀ i : Fin 32, x.data[i] = seenByte s (lineKey s (tagOf pa) (lineOf pa) + i.val)) :
    Holds s pa n (joinBytes (lineBytes x (laneKey (dataBigEndian s) pa.toNat n % 32) n)) := by
  refine ⟨fun i hi => ?_, by simpa only [lineBytes_length] using joinBytes_lt (lineBytes x _ n)⟩
  have hm := laneKey_mod_le pa (dataBigEndian s) hn
  have hb : byteIndex s n i < n := by unfold byteIndex; split <;> omega
  rw [joinBytes_byte _ _ (by omega), lineBytes_reverse_getD x hb hm, laneKey_lane s pa hi hn, busAddress_laneKey pa s _ h0 hn]
  have hi' : n - 1 - byteIndex s n i = if dataBigEndian s then i else n - 1 - i := by
    unfold byteIndex
    split <;> omega
  rw [← hi', Nat.add_assoc]
  exact hx ⟨_, by omega⟩

/-! The fill. -/

theorem choose_mem (v : Word) {l : List Nat} (h : l ≠ []) : choose v l ∈ l := by
  have hl : v.toNat % l.length < l.length := Nat.mod_lt _ (List.length_pos_iff.2 h)
  unfold choose
  rw [List.getD_eq_getElem _ _ hl]
  exact List.getElem_mem hl

/-- The state in which the bus reads the line of a fill that replaces line `x`: a valid dirty `x` is in memory (R144). -/
def beforeFill (s : State) (x : CacheLine) (line : Nat) : State :=
  if x.v && x.dirty then drainAll (writeBack (spend 1 (waitForWrites s)) x line) else spend 1 (waitForWrites s)

/-- The line a fill brings in: what memory holds, seen through the write buffer. -/
def memoryLine (s : State) (pa : PAddr) : CacheLine :=
  { tag := tagOf pa, v := true, l := false, dirty := false
    data := Vector.ofFn fun i => seenByte s (lineKey s (tagOf pa) (lineOf pa) + i.val) }

/-- The state after a fill of way `w`. -/
def afterFill (s : State) (pa : PAddr) (w : Nat) : State :=
  let s1 := beforeFill s (getLine s.dcache w (lineOf pa)) (lineOf pa)
  touchWs { s1 with dcache := setLine s1.dcache w (lineOf pa) (memoryLine s1 pa) } .data (lineOf pa)

section Before

variable (s : State) (x : CacheLine) (line : Nat)

theorem memView_waitForWrites : memView (waitForWrites s) = memView s := by
  unfold waitForWrites
  split <;> rfl

theorem waitForWrites_frame : ∃ m b, waitForWrites s = { s with mem := m, wbuf := b } := by
  unfold waitForWrites
  split
  · exact ⟨_, _, rfl⟩
  · exact ⟨_, _, rfl⟩

theorem waitForWrites_wbuf_nil (h : s.wbuf = []) : (waitForWrites s).wbuf = [] := by
  unfold waitForWrites
  split
  · exact h
  · rfl

/-- A victim changes memory and the write buffer, and a free value has chosen the way. -/
theorem beforeFill_frame : ∃ m b, beforeFill s x line = { s with mem := m, wbuf := b, draws := s.draws + 1 } := by
  obtain ⟨m, b, h⟩ := waitForWrites_frame s
  unfold beforeFill
  rw [h]
  split
  · exact ⟨_, _, rfl⟩
  · exact ⟨_, _, rfl⟩

theorem beforeFill_latches : (beforeFill s x line).latches = s.latches := by
  obtain ⟨m, b, h⟩ := beforeFill_frame s x line
  rw [h]

theorem beforeFill_wbuf_nil (h : s.wbuf = []) : (beforeFill s x line).wbuf = [] := by
  unfold beforeFill
  split
  · rfl
  · exact waitForWrites_wbuf_nil s h

theorem beforeFill_wbuf_of_dirty (hv : x.v = true) (hd : x.dirty = true) : (beforeFill s x line).wbuf = [] := by
  unfold beforeFill
  rw [hv, hd]
  rfl

theorem memView_beforeFill_of_clean (h : ¬ (x.v = true ∧ x.dirty = true)) : memView (beforeFill s x line) = memView s := by
  unfold beforeFill
  rw [if_neg (by simpa using h)]
  exact memView_waitForWrites s

theorem lineKey_congr {s t : State} (h : t.latches = s.latches) (tag : BitVec 24) : lineKey t tag line = lineKey s tag line := by
  unfold lineKey busAddress
  rw [h]

theorem memView_beforeFill_of_dirty (hv : x.v = true) (hd : x.dirty = true) :
    memView (beforeFill s x line) = applyWrite (memView s) { key := lineKey s x.tag line, bytes := x.data.toList } := by
  unfold beforeFill
  rw [hv, hd, Bool.and_self, if_pos rfl, memView_drainAll]
  unfold writeBack
  rw [memView_enqueue, lineKey_congr line (by simp : (spend 1 (waitForWrites s)).latches = s.latches)]
  exact congrArg (applyWrite · _) (memView_waitForWrites s)

end Before

section Fill

variable {s : State} {pa : PAddr}

theorem fillLine_data (hr : readFails s (lineKey s (tagOf pa) (lineOf pa)) 32 = false) (hu : unlockedWays s.dcache pa ≠ []) :
    ∃ w ∈ unlockedWays s.dcache pa, fillLine s .data pa = .ok w (afterFill s pa w) := by
  refine ⟨_, choose_mem (freeWord s 0) hu, ?_⟩
  unfold fillLine
  simp only [hr, Bool.false_eq_true, if_false, getCache]
  unfold afterFill memoryLine
  dsimp only
  rw [lineKey_congr _ (beforeFill_latches s _ _)]
  rfl

end Fill

/-- What a fill of way `w` of the data cache does: the line is memory's, the other lines stay, the Way Select word was used, the
victim is written out, and nothing else changes. -/
structure Fills (s t : State) (pa : PAddr) (w : Nat) : Prop where
  way : w ∈ unlockedWays s.dcache pa
  line : getLine t.dcache w (lineOf pa) = memoryLine t pa
  others : OtherLines s.dcache t.dcache w (lineOf pa)
  waySelect : WaySelectUsed s t s.dcache t.dcache (lineOf pa)
  victim : VictimWritten s t pa w (seenByte s)
  wbuf_nil : s.wbuf = [] → t.wbuf = []
  wf : cacheWf t.dcache = true
  frame : t = { s with dcache := t.dcache, mem := t.mem, wbuf := t.wbuf, draws := t.draws,
                       cp0 := { s.cp0 with errCtl := { s.cp0.errCtl with wse := t.cp0.errCtl.wse } } }

theorem otherLines_setLine {c : Cache} (h : cacheWf c = true) (w : Nat) {l : Nat} (hl : l < 128) (x : CacheLine) :
    OtherLines c (setLine c w l x) w l := by
  intro w' l' _ hl' hne
  rw [getLine_setLine h, if_neg]
  intro he
  exact hne (Prod.ext (by omega) (by omega))

/-- The Way Select word of the line is used (R147). -/
theorem waySelectUsed_touchWs {s u : State} {line : Nat} (h : storeWf 0 s.dcache.ws = true) (hw : u.dcache.ws = s.dcache.ws)
    (he : u.cp0.errCtl = s.cp0.errCtl) : WaySelectUsed s (touchWs u .data line) s.dcache (touchWs u .data line).dcache line := by
  constructor
  · change (u.cp0.errCtl.wse || !legalWs.contains (storeGet 0 u.dcache.ws line)) = true ↔ _
    rw [legalWaySelect_iff, hw, he]
    simp
  · intro l hl
    change storeGet 0 (storeSet 0 u.dcache.ws line _) l = _
    rw [hw, storeGet_set h, if_neg hl]

theorem waySelectUsed_congr {s t u : State} {c d e : Cache} {line : Nat} (h : WaySelectUsed s t c d line)
    (hw : u.cp0.errCtl.wse = t.cp0.errCtl.wse) (he : e.ws = d.ws) : WaySelectUsed s u c e line := by
  unfold WaySelectUsed
  rw [hw, he]
  exact h

theorem seenByte_congr {t u : State} (hm : u.mem = t.mem) (hw : u.wbuf = t.wbuf) (a : Nat) : seenByte u a = seenByte t a := by
  unfold seenByte memView
  rw [hm, hw]

theorem victimWritten_congr {s t u : State} {pa : PAddr} {w : Nat} {before : Nat → Byte} (h : VictimWritten s t pa w before)
    (hm : u.mem = t.mem) (hw : u.wbuf = t.wbuf) : VictimWritten s u pa w before := by
  unfold VictimWritten
  simp only [seenByte_congr hm hw, hw]
  exact h

theorem cacheWf_touchWs {s : State} (h : cacheWf s.dcache = true) (line : Nat) : cacheWf (touchWs s .data line).dcache = true := by
  unfold cacheWf at h ⊢
  rw [Bool.and_eq_true] at h ⊢
  exact ⟨h.1, storeWf_set h.2⟩

theorem seenByte_beforeFill_of_dirty {s : State} {x : CacheLine} {line : Nat} (hm : Memory.wf s.mem = true) (hv : x.v = true)
    (hd : x.dirty = true) (a : Nat) : seenByte (beforeFill s x line) a
      = if lineKey s x.tag line ≤ a ∧ a < lineKey s x.tag line + 32 then x.data.toList.getD (a - lineKey s x.tag line) 0
        else seenByte s a := by
  unfold seenByte
  rw [memView_beforeFill_of_dirty _ _ _ hv hd]
  refine (readByte_writeBytes (wf_memView hm)).trans ?_
  simp only [Vector.length_toList]

theorem victimWritten_beforeFill {s : State} (hm : Memory.wf s.mem = true) (pa : PAddr) (w : Nat) :
    VictimWritten s (beforeFill s (getLine s.dcache w (lineOf pa)) (lineOf pa)) pa w (seenByte s) := by
  unfold VictimWritten
  generalize getLine s.dcache w (lineOf pa) = x
  dsimp only
  split
  next h =>
    obtain ⟨hv, hd⟩ := h
    refine ⟨beforeFill_wbuf_of_dirty _ _ _ hv hd, fun i => ?_, fun a ha => ?_⟩
    · rw [seenByte_beforeFill_of_dirty hm hv hd, if_pos (by omega), Nat.add_sub_cancel_left]
      simp
    · rw [seenByte_beforeFill_of_dirty hm hv hd, if_neg (by omega)]
  next h =>
    intro a
    unfold seenByte
    rw [memView_beforeFill_of_clean _ _ _ h]

theorem fills_afterFill {s : State} {pa : PAddr} {w : Nat} (hm : Memory.wf s.mem = true) (hc : cacheWf s.dcache = true)
    (hw : w ∈ unlockedWays s.dcache pa) : Fills s (afterFill s pa w) pa w := by
  have hv := victimWritten_beforeFill hm pa w
  have he := beforeFill_wbuf_nil s (getLine s.dcache w (lineOf pa)) (lineOf pa)
  unfold afterFill
  obtain ⟨m, b, hb⟩ := beforeFill_frame s (getLine s.dcache w (lineOf pa)) (lineOf pa)
  rw [hb] at hv he ⊢
  have hws : storeWf 0 s.dcache.ws = true := (Bool.and_eq_true _ _ ▸ hc).2
  exact {
    way := hw
    line := (getLine_setLine hc).trans (if_pos rfl)
    others := otherLines_setLine hc w (lineOf_lt pa) _
    waySelect := waySelectUsed_touchWs hws rfl rfl
    victim := hv
    wbuf_nil := he
    wf := cacheWf_touchWs (cacheWf_setLine hc) _
    frame := rfl }

theorem fillLine_fills {s : State} {pa : PAddr} (hm : Memory.wf s.mem = true) (hc : cacheWf s.dcache = true)
    (hr : readFails s (lineKey s (tagOf pa) (lineOf pa)) 32 = false) (hu : unlockedWays s.dcache pa ≠ []) :
    ∃ t w, fillLine s .data pa = .ok w t ∧ Fills s t pa w := by
  obtain ⟨w, hw, h⟩ := fillLine_data hr hu
  exact ⟨_, w, h, fills_afterFill hm hc hw⟩

/-! The accesses that fill. -/

/-- What an access that fills way `w` leaves behind, whatever it then does to the line's bytes and its Dirty bit. -/
def Filled (s t : State) (pa : PAddr) (w : Nat) : Prop :=
  let line := getLine t.dcache w (lineOf pa)
  w ∈ unlockedWays s.dcache pa ∧ line.v = true ∧ line.tag = tagOf pa ∧ line.l = false
    ∧ OtherLines s.dcache t.dcache w (lineOf pa) ∧ WaySelectUsed s t s.dcache t.dcache (lineOf pa)
    ∧ t = { s with dcache := t.dcache, mem := t.mem, wbuf := t.wbuf, codeStores := t.codeStores, draws := t.draws,
                   cp0 := { s.cp0 with errCtl := { s.cp0.errCtl with wse := t.cp0.errCtl.wse } } }

namespace Fills

variable {s t : State} {pa : PAddr} {w : Nat}

theorem latches (h : Fills s t pa w) : t.latches = s.latches := (congrArg State.latches h.frame).trans rfl

theorem codeStores (h : Fills s t pa w) : t.codeStores = s.codeStores := (congrArg State.codeStores h.frame).trans rfl

theorem bigEndian (h : Fills s t pa w) : dataBigEndian t = dataBigEndian s := (congrArg dataBigEndian h.frame).trans rfl

theorem valid (h : Fills s t pa w) : (getLine t.dcache w (lineOf pa)).v = true := by
  rw [h.line]
  rfl

theorem tag (h : Fills s t pa w) : (getLine t.dcache w (lineOf pa)).tag = tagOf pa := by
  rw [h.line]
  rfl

theorem unlocked (h : Fills s t pa w) : (getLine t.dcache w (lineOf pa)).l = false := by
  rw [h.line]
  rfl

theorem filled (h : Fills s t pa w) : Filled s t pa w :=
  ⟨h.way, h.valid, h.tag, h.unlocked, h.others, h.waySelect, h.frame.trans (by rw [h.codeStores])⟩

theorem clean (h : Fills s t pa w) : (getLine t.dcache w (lineOf pa)).dirty = false := by
  rw [h.line]
  rfl

theorem data (h : Fills s t pa w) (i : Fin 32) :
    (getLine t.dcache w (lineOf pa)).data[i] = seenByte t (lineKey s (tagOf pa) (lineOf pa) + i.val) := by
  rw [h.line, ← lineKey_congr (lineOf pa) h.latches]
  simp [memoryLine]

end Fills

section Access

variable {s : State} {pa : PAddr}

theorem lookupOrFill_miss (hr : cacheReady s.dcache = true) (hh : hitWays s.dcache pa = []) (hl : s.lateError = none) :
    lookupOrFill s .data pa = fillLine s .data pa := by
  unfold lookupOrFill needBus
  simp [getCache, hr, hh, hl]

theorem physRead_cached {cca : BitVec 3} (h : cca = 0 ∨ cca = 1 ∨ cca = 3) (n : Nat) :
    physRead s pa n cca = (lookupOrFill s .data pa).bind fun w t =>
      .ok (joinBytes (lineBytes (getLine t.dcache w (lineOf pa)) (laneKey (dataBigEndian s) pa.toNat n % 32) n)) t := by
  unfold physRead
  rcases h with rfl | rfl | rfl <;> rfl

theorem physWrite_writeBack (n : Nat) (v : Word) : physWrite s pa n v 3 =
    (lookupOrFill s .data pa).bind fun w t => let key := laneKey (dataBigEndian s) pa.toNat n
      .ok () (writeLine (noteStore t pa key n) pa w (key % 32) (splitBytes n v) true) := rfl

/-- A write-through store that misses, with and without allocation. -/
theorem physWrite_allocate {n : Nat} {v : Word} {t : State} {w : Nat} (hr : cacheReady s.dcache = true)
    (hh : hitWays s.dcache pa = []) (hl : s.lateError = none)
    (hf : fillLine (drainAll (storeOut s pa (laneKey (dataBigEndian s) pa.toNat n) (splitBytes n v))) .data pa = .ok w t) :
    physWrite s pa n v 1 = .ok () t := by
  change writeThrough s pa _ (splitBytes n v) true = _
  unfold writeThrough needBus
  simp [hr, hh, hl, hf, Res.bind]

theorem physWrite_noAllocate (n : Nat) (v : Word) (hr : cacheReady s.dcache = true) (hh : hitWays s.dcache pa = []) :
    physWrite s pa n v 0 = .ok () (afterStore s pa n v) := by
  change writeThrough s pa _ (splitBytes n v) false = _
  unfold writeThrough
  simp [hr, hh, afterStore, storeOut, uncachedWrite]

end Access

/-! The store into the line. -/

theorem patchLine_data (x : CacheLine) (off n : Nat) (v : Word) (i : Fin 32) : (patchLine x off (splitBytes n v)).data[i]
    = if off ≤ i.val ∧ i.val < off + n then v.extractLsb' (8 * (n - 1 - (i.val - off))) 8 else x.data[i] := by
  simp only [patchLine, splitBytes_length, Fin.getElem_fin, Vector.getElem_ofFn, Bool.and_eq_true, decide_eq_true_eq]
  split
  · exact splitBytes_getD v (by omega)
  · rfl

theorem patchLine_v (x : CacheLine) (off : Nat) (bs : List Byte) : (patchLine x off bs).v = x.v := by simp only [patchLine]

theorem patchLine_tag (x : CacheLine) (off : Nat) (bs : List Byte) : (patchLine x off bs).tag = x.tag := by simp only [patchLine]

theorem patchLine_l (x : CacheLine) (off : Nat) (bs : List Byte) : (patchLine x off bs).l = x.l := by simp only [patchLine]

theorem noteStore_frame (s : State) (pa : PAddr) (key n : Nat) : ∃ c, noteStore s pa key n = { s with codeStores := c } := ⟨_, rfl⟩

theorem writeLine_dirty (s : State) (pa : PAddr) (w off : Nat) (bs : List Byte) : writeLine s pa w off bs true
    = { s with dcache := setLine s.dcache w (lineOf pa)
                 { patchLine (getLine s.dcache w (lineOf pa)) off bs with dirty := true } } := by
  unfold writeLine
  simp only [Bool.or_true, setCache]

/-- Another line in the filled way, valid and with the same tag, leaves the fill what it was. -/
theorem filled_setLine {s t : State} {pa : PAddr} {w : Nat} (h : Fills s t pa w) (c : List (Nat × CodeLine)) {x : CacheLine}
    (hv : x.v = true) (ht : x.tag = tagOf pa) (hl : x.l = false) :
    Filled s { t with dcache := setLine t.dcache w (lineOf pa) x, codeStores := c } pa w := by
  have hx : getLine (setLine t.dcache w (lineOf pa) x) w (lineOf pa) = x := (getLine_setLine h.wf).trans (if_pos rfl)
  have ho : OtherLines s.dcache (setLine t.dcache w (lineOf pa) x) w (lineOf pa) := fun w' l' h1 h2 h3 =>
    (otherLines_setLine h.wf w (lineOf_lt pa) x w' l' h1 h2 h3).trans (h.others w' l' h1 h2 h3)
  unfold Filled
  dsimp only
  rw [hx]
  refine ⟨h.way, hv, ht, hl, ho, waySelectUsed_congr h.waySelect rfl rfl, ?_⟩
  exact (congrArg (fun u : State => { u with dcache := setLine t.dcache w (lineOf pa) x, codeStores := c }) h.frame).trans rfl

/-- What a write-back store does to the filled line: its bytes and Dirty, and the model's record of stores. -/
theorem filled_writeLine {s t : State} {pa : PAddr} {w : Nat} (h : Fills s t pa w) (off n : Nat) (v : Word) (key : Nat) :
    let u := writeLine (noteStore t pa key n) pa w off (splitBytes n v) true
    let line := getLine u.dcache w (lineOf pa)
    Filled s u pa w ∧ line.dirty = true ∧ VictimWritten s u pa w (seenByte s)
      ∧ ∀ i : Fin 32, line.data[i] = if off ≤ i.val ∧ i.val < off + n then v.extractLsb' (8 * (n - 1 - (i.val - off))) 8
          else seenByte u (lineKey s (tagOf pa) (lineOf pa) + i.val) := by
  obtain ⟨c, hc⟩ := noteStore_frame t pa key n
  rw [writeLine_dirty, hc]
  dsimp only
  rw [getLine_setLine h.wf, if_pos rfl]
  have hv := (patchLine_v (getLine t.dcache w (lineOf pa)) off (splitBytes n v)).trans h.valid
  have ht := (patchLine_tag (getLine t.dcache w (lineOf pa)) off (splitBytes n v)).trans h.tag
  have hl := (patchLine_l (getLine t.dcache w (lineOf pa)) off (splitBytes n v)).trans h.unlocked
  have hd := patchLine_data (getLine t.dcache w (lineOf pa)) off n v
  generalize patchLine (getLine t.dcache w (lineOf pa)) off (splitBytes n v) = x at hv ht hl hd ⊢
  refine ⟨filled_setLine h c hv ht hl, rfl, victimWritten_congr h.victim rfl rfl, fun i => (hd i).trans ?_⟩
  rw [h.data i]
  exact congrArg (ite _ _) (seenByte_congr rfl rfl _).symm

/-! The accesses on a miss, one by one. -/

section Miss

variable {s : State} {pa : PAddr} (hm : Memory.wf s.mem = true) (hc : cacheWf s.dcache = true) (hr : cacheReady s.dcache = true)
  (hh : hitWays s.dcache pa = []) (hu : unlockedWays s.dcache pa ≠ [])
  (hf : readFails s (lineKey s (tagOf pa) (lineOf pa)) 32 = false) (hl : s.lateError = none) {n : Nat}

include hm hc hr hh hu hf hl

theorem lookupOrFill_fills : ∃ t w, lookupOrFill s .data pa = .ok w t ∧ Fills s t pa w := by
  rw [lookupOrFill_miss hr hh hl]
  exact fillLine_fills hm hc hf hu

theorem read_fills (h0 : 0 < n) (hn : pa.toNat % 8 + n ≤ 8) {cca : BitVec 3} (hcca : cca = 0 ∨ cca = 1 ∨ cca = 3) :
    ∃ t w x, physRead s pa n cca = .ok x t ∧ Fills s t pa w ∧ Holds t pa n x := by
  obtain ⟨t, w, hfill, h⟩ := lookupOrFill_fills hm hc hr hh hu hf hl
  refine ⟨t, w, _, (physRead_cached hcca n).trans (congrArg (Res.bind · _) hfill), h, ?_⟩
  rw [← h.bigEndian]
  refine holds_of_line h0 hn fun i => (h.data i).trans ?_
  rw [lineKey_congr (lineOf pa) h.latches]

theorem storeBack_fills (v : Word) : ∃ t w, Fills s t pa w ∧ physWrite s pa n v 3 =
    .ok () (writeLine (noteStore t pa (laneKey (dataBigEndian s) pa.toNat n) n) pa w (laneKey (dataBigEndian s) pa.toNat n % 32)
      (splitBytes n v) true) := by
  obtain ⟨t, w, hfill, h⟩ := lookupOrFill_fills hm hc hr hh hu hf hl
  exact ⟨t, w, h, (physWrite_writeBack n v).trans (congrArg (Res.bind · _) hfill)⟩

/-- A store that allocates fills as from a state in which its bytes, and the writes before it, are in memory. -/
theorem storeThrough_fills (v : Word) : ∃ t w, Fills (drainAll (afterStore s pa n v)) t pa w ∧ physWrite s pa n v 1 = .ok () t := by
  obtain ⟨t, w, hfill, h⟩ := fillLine_fills (s := drainAll (afterStore s pa n v)) (pa := pa) (wf_drainAll hm) hc hf hu
  refine ⟨t, w, h, physWrite_allocate (w := w) hr hh hl ?_⟩
  rw [← hfill]
  unfold storeOut afterStore uncachedWrite
  rw [splitBytes_length]

end Miss

/-- What loads see once a write-through store and every write before it are in memory. -/
theorem seenByte_drainAll_afterStore {s : State} (hm : Memory.wf s.mem = true) (pa : PAddr) (n : Nat) (v : Word) (a : Nat) :
    let key := busAddress s (laneKey (dataBigEndian s) pa.toNat n)
    seenByte (drainAll (afterStore s pa n v)) a
      = if key ≤ a ∧ a < key + n then v.extractLsb' (8 * (n - 1 - (a - key))) 8 else seenByte s a := by
  dsimp only
  change seenByte (enqueue s (uncachedWrite s pa n v)) a = _
  rw [seenByte_enqueue hm]
  unfold uncachedWrite
  dsimp only
  rw [splitBytes_length]
  split
  · exact splitBytes_getD v (by omega)
  · rfl

theorem filled_of_drained {s t : State} {pa : PAddr} {n : Nat} {v : Word} {w : Nat}
    (h : Fills (drainAll (afterStore s pa n v)) t pa w) : Filled s t pa w :=
  ⟨h.way, h.valid, h.tag, h.unlocked, h.others, h.waySelect, h.frame.trans (by rw [h.codeStores]; rfl)⟩

/-- Settles O37: every access that misses is the one fill, and what it then does to the line. -/
theorem missFillsOneUnlockedWay : Obligations.MissFillsOneUnlockedWay := by
  unfold Obligations.MissFillsOneUnlockedWay
  intro s pa n v cca key first line byte filled h0 _ hn hm hc hr hh hu hf hl
  refine ⟨fun hcca => ?_, ?_, ?_, ?_⟩
  · obtain ⟨t, w, x, he, h, hx⟩ := read_fills hm hc hr hh hu hf hl h0 hn hcca
    exact ⟨t, w, x, he, h.filled, h.clean, h.data, hx, h.victim, h.codeStores⟩
  · obtain ⟨t, w, h, he⟩ := storeBack_fills hm hc hr hh hu hf hl (n := n) v
    obtain ⟨h1, h2, h3, h4⟩ := filled_writeLine h (key % 32) n v key
    exact ⟨_, w, he, h1, h2, h3, h4⟩
  · obtain ⟨t, w, h, he⟩ := storeThrough_fills hm hc hr hh hu hf hl (n := n) v
    refine ⟨t, w, he, filled_of_drained h, h.clean, h.wbuf_nil rfl, h.data, ?_⟩
    have hv := h.victim
    rw [funext (seenByte_drainAll_afterStore hm pa n v)] at hv
    exact hv
  · exact ⟨_, physWrite_noAllocate n v hr hh, rfl, rfl⟩

end Sys2Proof.Proofs.CacheMiss
end

section
/-! The virtual segments: their ranges, which mode may use them, and the segments that need no TLB lookup (20_memory.md R220 to
R229, R234). -/

namespace Sys2Proof.Proofs.Segments

open Sys2Proof.Machine Sys2Proof.Laws Sys2Proof.Claims

/-- The addresses of a segment (R221 to R228). -/
def InSegment (va : Word) : Segment → Prop
  | .useg => va.toNat < 0x80000000
  | .xuseg => 0x80000000 ≤ va.toNat ∧ va.toNat < 0x10000000000
  | .xsseg => 0x4000000000000000 ≤ va.toNat ∧ va.toNat < 0x4000010000000000
  | .xkphys => 0x8000000000000000 ≤ va.toNat ∧ va.toNat < 0xC000000000000000 ∧ va.extractLsb' 36 23 = 0
  | .xkseg => 0xC000000000000000 ≤ va.toNat ∧ va.toNat < 0xC00000FF80000000
  | .ckseg0 => 0xFFFFFFFF80000000 ≤ va.toNat ∧ va.toNat < 0xFFFFFFFFA0000000
  | .ckseg1 => 0xFFFFFFFFA0000000 ≤ va.toNat ∧ va.toNat < 0xFFFFFFFFC0000000
  | .csseg => 0xFFFFFFFFC0000000 ≤ va.toNat ∧ va.toNat < 0xFFFFFFFFE0000000
  | .ckseg3 => 0xFFFFFFFFE0000000 ≤ va.toNat
  | .none => 0x10000000000 ≤ va.toNat ∧ va.toNat < 0x4000000000000000
      ∨ 0x4000010000000000 ≤ va.toNat ∧ va.toNat < 0x8000000000000000
      ∨ 0xC00000FF80000000 ≤ va.toNat ∧ va.toNat < 0xFFFFFFFF80000000
      ∨ 0x8000000000000000 ≤ va.toNat ∧ va.toNat < 0xC000000000000000 ∧ va.extractLsb' 36 23 ≠ 0


/-- No address lies in two segments. -/
theorem segmentOf_eq {va : Word} {g : Segment} (h : InSegment va g) : segmentOf va = g := by
  unfold segmentOf
  cases g <;> dsimp only [InSegment] at h ⊢
  case xkphys =>
    obtain ⟨h1, h2, h3⟩ := h
    simp (disch := omega) only [if_pos, if_neg, h3, beq_self_eq_true, if_true]
  case none =>
    obtain h | h | h | ⟨h1, h2, h3⟩ := h
    case inr.inr.inr =>
      have h4 : ¬ (va.extractLsb' 36 23 == 0) = true := by simpa using h3
      simp (disch := omega) only [if_pos, if_neg, h4, if_false, Bool.false_eq_true]
    all_goals simp (disch := omega) only [if_pos, if_neg]
  all_goals simp (disch := omega) only [if_pos, if_neg]

/-- Every address lies in the segment `segmentOf` names. -/
theorem inSegment_segmentOf (va : Word) : InSegment va (segmentOf va) := by
  suffices h : ∃ g, InSegment va g by
    obtain ⟨g, hg⟩ := h
    exact segmentOf_eq hg ▸ hg
  by_contra h
  rw [not_exists] at h
  have h0 := h .useg
  have h1 := h .xuseg
  have h2 := h .xsseg
  have h3 := h .xkphys
  have h4 := h .xkseg
  have h5 := h .ckseg0
  have h6 := h .ckseg1
  have h7 := h .csseg
  have h8 := h .ckseg3
  have h9 := h .none
  dsimp only [InSegment] at h0 h1 h2 h3 h4 h5 h6 h7 h8 h9
  by_cases hx : va.extractLsb' 36 23 = 0
  · simp only [hx, and_true, ne_eq, not_true, and_false, or_false] at h3 h9
    omega
  · simp only [hx, not_false_eq_true, ne_eq, and_true] at h9
    omega

section Translate

variable {s : State} {va : Word} {k : Access}

/-- An address of a segment the mode may not use is an address error, before any lookup. -/
theorem translate_of_inaccessible (h : segmentAccessible s (segmentOf va) = false) :
    Machine.translate s va k = .trap (.addressError k.isStore va) := by
  simp [Machine.translate, h]

/-- The segments without a TLB lookup, where the mode may use them. -/
theorem translate_ckseg0 (hm : currentMode s = .kernel) (h : InSegment va .ckseg0) :
    Machine.translate s va k = .ok ((va.extractLsb' 0 29).setWidth 36) s.cp0.config0.k0 := by
  simp [Machine.translate, segmentOf_eq h, segmentAccessible, hm]

theorem translate_ckseg1 (hm : currentMode s = .kernel) (h : InSegment va .ckseg1) :
    Machine.translate s va k = .ok ((va.extractLsb' 0 29).setWidth 36) 2 := by
  simp [Machine.translate, segmentOf_eq h, segmentAccessible, hm]

theorem translate_xkphys (hm : currentMode s = .kernel) (hk : s.cp0.status.kx = true) (h : InSegment va .xkphys) :
    Machine.translate s va k = .ok (va.extractLsb' 0 36) (va.extractLsb' 59 3) := by
  simp [Machine.translate, segmentOf_eq h, segmentAccessible, hm, hk]

theorem translate_useg_unmapped (he : s.cp0.status.erl = true) (hc : s.conf.erlUsegUnmapped = true)
    (h : InSegment va .useg) : Machine.translate s va k = .ok ((va.extractLsb' 0 31).setWidth 36) 2 := by
  simp [Machine.translate, segmentOf_eq h, segmentAccessible, he, hc]

/-! What an address the mode may use says of the address, segment by segment (R229). -/

theorem user_accessible (hm : currentMode s = .user) (h : segmentAccessible s (segmentOf va) = true) :
    va.toNat < 0x80000000 ∨ s.cp0.status.ux = true ∧ va.toNat < 0x10000000000 := by
  have hs := inSegment_segmentOf va
  cases hg : segmentOf va <;> simp only [hg, InSegment, segmentAccessible, hm] at hs h
  case useg => exact .inl hs
  case xuseg => exact .inr ⟨h, hs.2⟩
  all_goals exact absurd h (by simp)

theorem supervisor_accessible (hm : currentMode s = .supervisor) (h : segmentAccessible s (segmentOf va) = true) :
    va.toNat < 0x8000000000000000 ∨ 0xFFFFFFFFC0000000 ≤ va.toNat ∧ va.toNat < 0xFFFFFFFFE0000000 := by
  have hs := inSegment_segmentOf va
  cases hg : segmentOf va <;> simp only [hg, InSegment, segmentAccessible, hm] at hs h
  case useg | xuseg | xsseg => left; omega
  case csseg => exact .inr hs
  all_goals exact absurd h (by simp)

/-- Whatever the mode, a 64-bit segment needs its bit of Status. -/
theorem accessible_needs (h : segmentAccessible s (segmentOf va) = true) :
    (segmentOf va = .xuseg → s.cp0.status.ux = true) ∧ (segmentOf va = .xsseg → s.cp0.status.sx = true)
      ∧ (segmentOf va = .xkphys ∨ segmentOf va = .xkseg → s.cp0.status.kx = true) ∧ segmentOf va ≠ .none := by
  cases hg : segmentOf va <;> simp_all [segmentAccessible]

end Translate

/-- Settles O35: the segment of an address is found from its range; then the table of R229 is looked up. -/
theorem segmentsDecideAccessAndMapping : Obligations.SegmentsDecideAccessAndMapping := by
  intro s va k n bad
  have hbad : segmentAccessible s (segmentOf va) ≠ true → bad := fun h => translate_of_inaccessible (by simpa using h)
  refine ⟨fun hm => ⟨fun h1 h2 => translate_ckseg0 hm ⟨h1, h2⟩, fun h1 h2 => translate_ckseg1 hm ⟨h1, h2⟩,
    fun hk h1 h2 h3 => translate_xkphys hm hk ⟨h1, h2, h3⟩⟩, fun h he hc => translate_useg_unmapped he hc h,
    fun hm h => hbad fun ha => ?_, fun hm h => hbad fun ha => ?_, fun h => hbad fun ha => ?_,
    fun hu h1 h2 => hbad fun ha => ?_, fun hsx h1 h2 => hbad fun ha => ?_, fun hk h1 h2 => hbad fun ha => ?_⟩
  · rcases user_accessible hm ha with h' | ⟨hu, h'⟩
    · split at h <;> omega
    · rw [hu, if_pos rfl] at h; omega
  · have := supervisor_accessible hm ha
    omega
  · obtain ⟨-, -, -, hnone⟩ := accessible_needs ha
    exact hnone (segmentOf_eq (by simpa only [InSegment, and_assoc] using h))
  · obtain ⟨hux, -⟩ := accessible_needs ha
    exact absurd (hux (segmentOf_eq ⟨h1, h2⟩)) (by simp [hu])
  · obtain ⟨-, hsx', -⟩ := accessible_needs ha
    exact absurd (hsx' (segmentOf_eq ⟨h1, h2⟩)) (by simp [hsx])
  · obtain ⟨-, -, hkx, hnone⟩ := accessible_needs ha
    have hseg : segmentOf va = .xkphys ∨ segmentOf va = .xkseg := by
      by_cases h3 : 0xC000000000000000 ≤ va.toNat
      · exact .inr (segmentOf_eq ⟨h3, h2⟩)
      by_cases h4 : va.extractLsb' 36 23 = 0
      · exact .inl (segmentOf_eq ⟨h1, by omega, h4⟩)
      · exact absurd (segmentOf_eq (g := .none) (.inr (.inr (.inr ⟨h1, by omega, h4⟩)))) hnone
    exact absurd (hkx hseg) (by simp [hk])

end Sys2Proof.Proofs.Segments
end

section
/-! Address errors of loads and stores: a misaligned address is one before any translation, and LUXC1 and SUXC1, which align
their address down, have those of their segment (20_memory.md R210, R229; 60_exceptions.md R806, R824). -/

namespace Sys2Proof.Proofs.AddressErrors

open Sys2Proof.Machine Sys2Proof.Laws Sys2Proof.Claims

variable {s : State} {va : Word} {n : Nat}

/-- The entry records the address, and leaves the ASID and both PTEBase (R824). -/
theorem addressErrorEntered (store : Bool) (va : Word) (s : State) :
    AddressErrorEntered s (if store then 5 else 4) va (takeException (.addressError store va) s) := by
  have ho : vectorOffset s (.addressError store va) = 0x180 := by unfold vectorOffset; split <;> rfl
  exact ⟨ho ▸ entered_takeException (e := .addressError store va) (by simp) s, rfl, rfl⟩

theorem raisesAddressError_load (va : Word) (s : State) : RaisesAddressError s (raise (.addressError false va) s) 4 va :=
  ⟨_, rfl, addressErrorEntered false va s⟩

theorem raisesAddressError_store (va : Word) (s : State) : RaisesAddressError s (raise (.addressError true va) s) 5 va :=
  ⟨_, rfl, addressErrorEntered true va s⟩

/-! The accesses. -/

theorem memRead_misaligned (h : va.toNat % n ≠ 0) : memRead s va n = .trap (.addressError false va) s := by
  simp [memRead, checkAligned, h, Access.isStore]

theorem memWrite_misaligned (h : va.toNat % n ≠ 0) (v : Word) : memWrite s va n v = .trap (.addressError true va) s := by
  simp [memWrite, checkAligned, h, Access.isStore]

theorem memRead_inaccessible (ha : va.toNat % n = 0) (h : segmentAccessible s (segmentOf va) = false) :
    memRead s va n = .trap (.addressError false va) s := by
  simp [memRead, checkAligned, ha, Segments.translate_of_inaccessible h, Translation.toRes, Access.isStore]

theorem memWrite_inaccessible (ha : va.toNat % n = 0) (h : segmentAccessible s (segmentOf va) = false) (v : Word) :
    memWrite s va n v = .trap (.addressError true va) s := by
  simp [memWrite, checkAligned, ha, Segments.translate_of_inaccessible h, Translation.toRes, Access.isStore]

/-! The instructions behind the tests they begin with. -/

section Misaligned

variable {base rt : RegNum} {offset : BitVec 16} (h : (gprRead s base + offset.signExtend 64).toNat % n ≠ 0)
include h

theorem loadGpr_misaligned (extend : Word → Word) :
    RaisesAddressError s (loadGpr s base rt offset n extend) 4 (gprRead s base + offset.signExtend 64) := by
  unfold loadGpr baseOffset sext16
  rw [memRead_misaligned h]
  exact raisesAddressError_load _ s

theorem loadLinked_misaligned (extend : Word → Word) :
    RaisesAddressError s (loadLinked s base rt offset n extend) 4 (gprRead s base + offset.signExtend 64) := by
  unfold loadLinked baseOffset sext16
  rw [memRead_misaligned h]
  exact raisesAddressError_load _ s

theorem storeGpr_misaligned :
    RaisesAddressError s (storeGpr s base rt offset n) 5 (gprRead s base + offset.signExtend 64) := by
  unfold storeGpr baseOffset sext16
  rw [memWrite_misaligned h]
  exact raisesAddressError_store _ s

theorem storeConditional_misaligned :
    RaisesAddressError s (storeConditional s base rt offset n) 5 (gprRead s base + offset.signExtend 64) := by
  unfold storeConditional checkAligned baseOffset sext16
  simp only [beq_iff_eq, h, if_false, bind_of_trap]
  exact raisesAddressError_store _ s

end Misaligned

section Fpu

variable {r : RegNum}

theorem loadFpr32_misaligned (h : va.toNat % 4 ≠ 0) : RaisesAddressError s (loadFpr32 s va r) 4 va := by
  unfold loadFpr32
  rw [memRead_misaligned h]
  exact raisesAddressError_load va s

theorem storeFpr32_misaligned (h : va.toNat % 4 ≠ 0) : RaisesAddressError s (storeFpr32 s va r) 5 va := by
  unfold storeFpr32
  rw [memWrite_misaligned h]
  exact raisesAddressError_store va s

/-- A 64-bit load that answers an address error, into a register it may name. -/
theorem loadFpr64_addressError (hr : fprNumberOk s r = true) :
    RaisesAddressError s (loadFpr64 s (.trap (.addressError false va) s) r) 4 va := by
  unfold loadFpr64
  rw [needFpr_of hr]
  exact raisesAddressError_load va s

theorem loadFpr64_misaligned (h : va.toNat % 8 ≠ 0) (hr : fprNumberOk s r = true) :
    RaisesAddressError s (loadFpr64 s (memRead s va 8) r) 4 va := by
  rw [memRead_misaligned h]
  exact loadFpr64_addressError hr

theorem storeFpr64_misaligned (h : va.toNat % 8 ≠ 0) (hr : fprNumberOk s r = true) :
    RaisesAddressError s (storeFpr64 s va r) 5 va := by
  unfold storeFpr64
  rw [needFpr_of hr, memWrite_misaligned h]
  exact raisesAddressError_store va s

end Fpu

/-! The tests before the access. -/

section Tests

variable {o : Out} {code : BitVec 5}

theorem behind_need64 (hx : exec64 s = true) (h : RaisesAddressError s o code va) :
    RaisesAddressError s (need64 s o) code va := by rwa [need64_of hx]

theorem behind_needCu1 (hc : s.cp0.status.cu1 = true) (h : RaisesAddressError s o code va) :
    RaisesAddressError s (needCu1 s o) code va := by rwa [needCu1_of hc]

theorem behind_need64Move (hc : s.cp0.status.cu1 = true) (hx : exec64 s = true) (h : RaisesAddressError s o code va) :
    RaisesAddressError s (needCu1 s (need64Move s o)) code va := by rwa [needCu1_of hc, need64Move_of hx]

end Tests

/-! The addresses of LUXC1 and SUXC1 (48_fpu_load_store_move.md R729, R730). -/

theorem alignDown8_toNat (va : Word) : (alignDown8 va).toNat = va.toNat / 8 * 8 := by
  unfold alignDown8
  rw [BitVec.toNat_append, ← Nat.shiftLeft_add_eq_or_of_lt (by decide)]
  have := va.isLt
  simp only [BitVec.extractLsb'_toNat, Nat.shiftLeft_eq, Nat.shiftRight_eq_div_pow, BitVec.ofNat_eq_ofNat, BitVec.toNat_ofNat]
  omega

/-- Clearing the low three bits leaves an address in its segment. -/
theorem segmentOf_alignDown8 (va : Word) : segmentOf (alignDown8 va) = segmentOf va := by
  have h := alignDown8_toNat va
  have hx : (alignDown8 va).extractLsb' 36 23 = va.extractLsb' 36 23 := by
    apply BitVec.eq_of_toNat_eq
    simp only [BitVec.extractLsb'_toNat, Nat.shiftRight_eq_div_pow, h]
    omega
  have hs := Segments.inSegment_segmentOf va
  apply Segments.segmentOf_eq
  generalize segmentOf va = g at hs
  cases g with
  | xkphys =>
    obtain ⟨h1, h2, h3⟩ := hs
    exact ⟨by omega, by omega, hx.trans h3⟩
  | none =>
    simp only [Segments.InSegment, h, hx] at hs ⊢
    by_cases hz : va.extractLsb' 36 23 = 0
    · simp only [hz, ne_eq, not_true, and_false, or_false] at hs ⊢
      omega
    · simp only [hz, ne_eq, not_false_eq_true, and_true] at hs ⊢
      omega
  | _ => simp only [Segments.InSegment, h] at hs ⊢; omega

theorem luxc1_inaccessible {r : RegNum} (hr : fprNumberOk s r = true) (h : segmentAccessible s (segmentOf va) = false) :
    RaisesAddressError s (loadFpr64 s ((memRead s (alignDown8 va) 8).reporting (luxc1Reported va)) r) 4 (luxc1Reported va) := by
  rw [memRead_inaccessible (by rw [alignDown8_toNat]; omega) ((segmentOf_alignDown8 va).symm ▸ h)]
  exact loadFpr64_addressError hr

theorem suxc1_inaccessible {r : RegNum} (hr : fprNumberOk s r = true) (h : segmentAccessible s (segmentOf va) = false) :
    RaisesAddressError s (needFpr s r (finish ((memWrite s (alignDown8 va) 8 (fpr64 s r)).reporting va))) 5 va := by
  rw [needFpr_of hr, memWrite_inaccessible (by rw [alignDown8_toNat]; omega) ((segmentOf_alignDown8 va).symm ▸ h)]
  exact raisesAddressError_store va s

/-- Settles O33: each instruction passes its tests, and its access is the address error. -/
theorem misalignedAccessesRaiseAddressErrors : Obligations.MisalignedAccessesRaiseAddressErrors := by
  intro s base index r offset va vx faults
  have one : ∀ {i : Instr} {code : BitVec 5} {a : Word}, RaisesAddressError s (exec i s) code a → faults [i] code a :=
    fun h => List.forall_mem_singleton.2 h
  have two : ∀ {i j : Instr} {code : BitVec 5} {a : Word}, RaisesAddressError s (exec i s) code a →
      RaisesAddressError s (exec j s) code a → faults [i, j] code a :=
    fun h h' => List.forall_mem_cons.2 ⟨h, one h'⟩
  refine ⟨fun h => ⟨two (loadGpr_misaligned h _) (loadGpr_misaligned h _), one (storeGpr_misaligned h)⟩, fun h => ?_,
    fun h hx => ?_, fun hx hc => ?_⟩
  · exact ⟨two (loadGpr_misaligned h _) (loadLinked_misaligned h _),
      two (storeGpr_misaligned h) (storeConditional_misaligned h),
      fun hx => one (behind_need64 hx (loadGpr_misaligned h _)),
      fun hc => ⟨one (behind_needCu1 hc (loadFpr32_misaligned h)), one (behind_needCu1 hc (storeFpr32_misaligned h))⟩⟩
  · exact ⟨two (behind_need64 hx (loadGpr_misaligned h _)) (behind_need64 hx (loadLinked_misaligned h _)),
      two (behind_need64 hx (storeGpr_misaligned h)) (behind_need64 hx (storeConditional_misaligned h)),
      fun hc hr => ⟨one (behind_need64Move hc hx (loadFpr64_misaligned h hr)),
        one (behind_need64Move hc hx (storeFpr64_misaligned h hr))⟩⟩
  · exact ⟨fun h => ⟨one (behind_need64Move hc hx (loadFpr32_misaligned h)),
        one (behind_need64Move hc hx (storeFpr32_misaligned h))⟩,
      fun h hr => ⟨one (behind_need64Move hc hx (loadFpr64_misaligned h hr)),
        one (behind_need64Move hc hx (storeFpr64_misaligned h hr))⟩,
      fun h hr => ⟨one (behind_need64Move hc hx (suxc1_inaccessible hr h)),
        luxc1Reported vx, luxc1Reported_cases vx, one (behind_need64Move hc hx (luxc1_inaccessible hr h))⟩⟩

end Sys2Proof.Proofs.AddressErrors
end

section
/-! A cached access that hits (20_memory.md R241 to R245; 10_state.md R117, R147): which way serves it, what it leaves behind,
and the reads and writes of the bytes of a line. -/

namespace Sys2Proof.Proofs.CacheHit

open Sys2Proof.Machine Sys2Proof.Laws Sys2Proof.Claims CacheMiss

/-- A write leaves the reads of other keys alone, in canonical form or not. -/
theorem storeGet_set_of_ne {α : Type} [DecidableEq α] {d : α} {x y : Nat} (hne : y ≠ x) (v : α) (m : List (Nat × α)) :
    storeGet d (storeSet d m x v) y = storeGet d m y := by
  induction m with
  | nil =>
    unfold storeSet
    split
    · rfl
    · exact if_neg hne
  | cons e t ih =>
    obtain ⟨k, w⟩ := e
    unfold storeSet
    split
    next =>
      split
      · rfl
      · exact if_neg hne
    next =>
      split
      next hx =>
        subst hx
        split <;> simp only [storeGet, if_neg hne]
      next => simp only [storeGet, ih]

/-! The state after a hit. -/

/-- ErrCtl after an access that found the address in one way or in several, and used the Way Select word of its line. -/
def hitErrCtl (s : State) (d : Side) (pa : PAddr) : ErrCtl :=
  let e := s.cp0.errCtl
  let several := decide (1 < (hitWays (getCache s d) pa).length)
  let wse := e.wse || !legalWs.contains (storeGet 0 (getCache s d).ws (lineOf pa))
  match d with
  | .inst => { e with imh := e.imh || several, wse := wse }
  | .data => { e with dmh := e.dmh || several, wse := wse }

/-- The state after a hit that leaves the Way Select word `x` and `n` as the count of free values. -/
def afterHit (s : State) (d : Side) (pa : PAddr) (x : BitVec 6) (n : Nat) : State :=
  { setCache s d { getCache s d with ws := storeSet 0 (getCache s d).ws (lineOf pa) x } with
    draws := n, cp0 := { s.cp0 with errCtl := hitErrCtl s d pa } }

section Hit

variable {s : State} {d : Side} {pa : PAddr}

/-- The one way that holds the address serves the hit, or one of several, and then this is noted. -/
theorem hitWay_mem {ways : List Nat} (h : ways ≠ []) : ∃ w ∈ ways, ∃ n, hitWay s d ways
    = (w, if 1 < ways.length then { noteMultiHit s d with draws := n } else s) := by
  unfold hitWay
  split
  · exact ⟨_, List.mem_singleton_self _, 0, by simp⟩
  next hne =>
    have hl : 1 < ways.length := by
      match ways, h, hne with
      | [w], _, hne => exact absurd rfl (hne w)
      | _ :: _ :: _, _, _ => simp
    exact ⟨_, choose_mem _ h, _, by rw [if_pos hl]; rfl⟩

/-- The Way Select word is used after several ways were noted, if there were several. -/
theorem touchWs_hit (n : Nat) : ∃ x m, touchWs (if 1 < (hitWays (getCache s d) pa).length then
    { noteMultiHit s d with draws := n } else s) d (lineOf pa) = afterHit s d pa x m := by
  unfold afterHit hitErrCtl
  by_cases hl : 1 < (hitWays (getCache s d) pa).length
  · rw [if_pos hl, decide_eq_true hl]
    refine ⟨(Config.any n).extractLsb' 0 6, n + 1, ?_⟩
    cases d <;> simp only [Bool.or_true] <;> rfl
  · rw [if_neg hl, decide_eq_false hl]
    refine ⟨(freeWord s 0).extractLsb' 0 6, s.draws + 1, ?_⟩
    cases d <;> simp only [Bool.or_false] <;> rfl

theorem lookupOrFill_hit (hr : cacheReady (getCache s d) = true) (hh : hitWays (getCache s d) pa ≠ []) :
    ∃ w ∈ hitWays (getCache s d) pa, ∃ x n, lookupOrFill s d pa = .ok w (afterHit s d pa x n) := by
  obtain ⟨w, hw, n, he⟩ := hitWay_mem (s := s) (d := d) hh
  obtain ⟨x, m, ht⟩ := touchWs_hit (s := s) (d := d) (pa := pa) n
  refine ⟨w, hw, x, m, ?_⟩
  unfold lookupOrFill
  rw [hr]
  split
  next hc => exact absurd hc (by decide)
  split
  next hn => exact absurd hn hh
  · rw [he]
    exact congrArg _ ht

/-- The word of the line is used: an illegal one is noted, and another one stands there. -/
theorem waySelectUsed_of {s t : State} {c e : Cache} {line : Nat} {x : BitVec 6} (hw : e.ws = storeSet 0 c.ws line x)
    (he : t.cp0.errCtl.wse = (s.cp0.errCtl.wse || !legalWs.contains (storeGet 0 c.ws line))) :
    WaySelectUsed s t c e line := by
  constructor
  · rw [he, legalWaySelect_iff]
    simp
  · intro l hl
    rw [hw]
    exact storeGet_set_of_ne hl x _

theorem waySelectUsed_afterHit (s : State) (d : Side) (pa : PAddr) (x : BitVec 6) (n : Nat) :
    WaySelectUsed s (afterHit s d pa x n) (getCache s d) (getCache (afterHit s d pa x n) d) (lineOf pa) := by
  cases d
  · exact waySelectUsed_of rfl rfl
  · exact waySelectUsed_of rfl rfl

end Hit

/-! Bytes read from a line, and put into it. -/

/-- A value read from a line holds its bytes, the first one most significant. -/
theorem joinBytes_lineBytes_byte (x : CacheLine) {off n : Nat} (hn : n ≤ 8) (ho : off + n ≤ 32) (i : Fin 32)
    (h1 : off ≤ i.val) (h2 : i.val < off + n) :
    (joinBytes (lineBytes x off n)).extractLsb' (8 * (n - 1 - (i.val - off))) 8 = x.data[i] := by
  have hi : off + (n - 1 - (n - 1 - (i.val - off))) = i.val := by omega
  rw [joinBytes_byte _ _ (by omega), lineBytes_reverse_getD x (by omega) ho]
  simp only [hi, Fin.getElem_fin]

theorem patchLine_dirty (x : CacheLine) (off : Nat) (bs : List Byte) : (patchLine x off bs).dirty = x.dirty := by
  simp only [patchLine]

/-- What a store does to the line of way `w`, in a cache whose lines are those of `s`. -/
structure LineWritten (s t : State) (pa : PAddr) (w off n : Nat) (v : Word) (dirty : Bool) : Prop where
  dirty : (getLine t.dcache w (lineOf pa)).dirty = ((getLine s.dcache w (lineOf pa)).dirty || dirty)
  valid : (getLine t.dcache w (lineOf pa)).v = (getLine s.dcache w (lineOf pa)).v
  tag : (getLine t.dcache w (lineOf pa)).tag = (getLine s.dcache w (lineOf pa)).tag
  l : (getLine t.dcache w (lineOf pa)).l = (getLine s.dcache w (lineOf pa)).l
  data : ∀ i : Fin 32, (getLine t.dcache w (lineOf pa)).data[i] = if off ≤ i.val ∧ i.val < off + n
    then v.extractLsb' (8 * (n - 1 - (i.val - off))) 8 else (getLine s.dcache w (lineOf pa)).data[i]
  others : OtherLines s.dcache t.dcache w (lineOf pa)

theorem lineWritten_writeLine {s u : State} (hc : cacheWf s.dcache = true) (hl : u.dcache.lines = s.dcache.lines) (pa : PAddr)
    (w off n : Nat) (v : Word) (dirty : Bool) :
    LineWritten s (writeLine u pa w off (splitBytes n v) dirty) pa w off n v dirty := by
  have hlines : storeWf blankLine s.dcache.lines = true := by
    unfold cacheWf at hc
    exact (Bool.and_eq_true _ _ ▸ hc).1
  have hw : writeLine u pa w off (splitBytes n v) dirty = setCache u .data (setLine u.dcache w (lineOf pa)
      { patchLine (getLine s.dcache w (lineOf pa)) off (splitBytes n v) with
        dirty := (getLine s.dcache w (lineOf pa)).dirty || dirty }) := by
    have hg : getLine u.dcache w (lineOf pa) = getLine s.dcache w (lineOf pa) := by unfold getLine; rw [hl]
    unfold writeLine
    simp only [hg, patchLine_dirty]
  generalize hx : ({ patchLine (getLine s.dcache w (lineOf pa)) off (splitBytes n v) with
    dirty := (getLine s.dcache w (lineOf pa)).dirty || dirty } : CacheLine) = x at hw
  have hset : ∀ w' l', getLine (writeLine u pa w off (splitBytes n v) dirty).dcache w' l'
      = if 128 * w' + l' = 128 * w + lineOf pa then x else getLine s.dcache w' l' := fun w' l' => by
    rw [hw]
    unfold getLine setLine setCache
    dsimp only
    rw [hl]
    exact storeGet_set hlines
  have hline := (hset w (lineOf pa)).trans (if_pos rfl)
  refine ⟨?_, ?_, ?_, ?_, fun i => ?_, fun w' l' _ hl' hne => ?_⟩
  · simp only [hline, ← hx]
  · simp only [hline, ← hx, patchLine_v]
  · simp only [hline, ← hx, patchLine_tag]
  · simp only [hline, ← hx, patchLine_l]
  · simp only [hline, ← hx, patchLine_data]
  · have := lineOf_lt pa
    rw [hset, if_neg fun he => hne (Prod.ext (by omega) (by omega))]

/-! The accesses. -/

section Access

variable {s : State} {pa : PAddr} {n : Nat}

/-- A cached read that hits gives the bytes of a line that holds the address. -/
theorem physRead_hit {cca : BitVec 3} (hcca : cca = 0 ∨ cca = 1 ∨ cca = 3) (hr : cacheReady s.dcache = true)
    (hh : hitWays s.dcache pa ≠ []) (n : Nat) : ∃ w ∈ hitWays s.dcache pa, ∃ x m, physRead s pa n cca
      = .ok (joinBytes (lineBytes (getLine s.dcache w (lineOf pa)) (laneKey (dataBigEndian s) pa.toNat n % 32) n))
          (afterHit s .data pa x m) := by
  obtain ⟨w, hw, x, m, he⟩ := lookupOrFill_hit (d := .data) hr hh
  exact ⟨w, hw, x, m, by rw [physRead_cached hcca, he]; rfl⟩

/-- A write-back store that hits puts its bytes into the line. -/
theorem physWrite_hit_writeBack (hr : cacheReady s.dcache = true) (hh : hitWays s.dcache pa ≠ []) (n : Nat) (v : Word) :
    let key := laneKey (dataBigEndian s) pa.toNat n
    ∃ w ∈ hitWays s.dcache pa, ∃ x m, physWrite s pa n v 3
      = .ok () (writeLine (noteStore (afterHit s .data pa x m) pa key n) pa w (key % 32) (splitBytes n v) true) := by
  obtain ⟨w, hw, x, m, he⟩ := lookupOrFill_hit (d := .data) hr hh
  exact ⟨w, hw, x, m, by rw [physWrite_writeBack, he]; rfl⟩

/-- A write-through store that hits also puts them into the write buffer. -/
theorem physWrite_hit_writeThrough {cca : BitVec 3} (hcca : cca = 0 ∨ cca = 1) (hr : cacheReady s.dcache = true)
    (hh : hitWays s.dcache pa ≠ []) (n : Nat) (v : Word) :
    let key := laneKey (dataBigEndian s) pa.toNat n
    ∃ w ∈ hitWays s.dcache pa, ∃ x m, physWrite s pa n v cca
      = .ok () (writeLine (afterHit (afterStore s pa n v) .data pa x m) pa w (key % 32) (splitBytes n v) false) := by
  dsimp only
  have ht : physWrite s pa n v cca
      = writeThrough s pa (laneKey (dataBigEndian s) pa.toNat n) (splitBytes n v) (cca == 1) := by
    rcases hcca with rfl | rfl <;> rfl
  obtain ⟨w, hw, m, he⟩ := hitWay_mem (s := afterStore s pa n v) (d := .data) hh
  obtain ⟨x, m', hx⟩ := touchWs_hit (s := afterStore s pa n v) (d := .data) (pa := pa) m
  refine ⟨w, hw, x, m', ?_⟩
  rw [ht, ← hx]
  unfold writeThrough
  rw [hr]
  split
  next hc => exact absurd hc (by decide)
  dsimp only
  split
  next hn => exact absurd hn hh
  · have ho : storeOut s pa (laneKey (dataBigEndian s) pa.toNat n) (splitBytes n v) = afterStore s pa n v := by
      unfold storeOut afterStore uncachedWrite
      rw [splitBytes_length]
    rw [ho, he]
    rfl

end Access

end Sys2Proof.Proofs.CacheHit
end

section
/-! Every load and store does what the access of its bytes does (20_memory.md R233, R241 to R245; 44_load_store.md R540 to R569;
48_fpu_load_store_move.md R725 to R734). -/

namespace Sys2Proof.Proofs.CachedAccess

open Sys2Proof.Machine Sys2Proof.Laws Sys2Proof.Claims CacheMiss CacheHit

/-! The accesses that hit. -/

/-- What an access that hits leaves as it was. -/
def HitKeeps (s t : State) (pa : PAddr) : Prop :=
  WaySelectUsed s t s.dcache t.dcache (lineOf pa)
    ∧ t = { s with dcache := t.dcache, wbuf := t.wbuf, codeStores := t.codeStores, draws := t.draws,
                   cp0 := { s.cp0 with errCtl := { s.cp0.errCtl with
                     dmh := s.cp0.errCtl.dmh || decide (1 < (hitWays s.dcache pa).length), wse := t.cp0.errCtl.wse } } }

section Hit

variable {s : State} {pa : PAddr} {n : Nat} {cca : BitVec 3}

theorem hitKeeps_afterHit (s : State) (pa : PAddr) (x : BitVec 6) (m : Nat) : HitKeeps s (afterHit s .data pa x m) pa :=
  ⟨waySelectUsed_afterHit s .data pa x m, rfl⟩

theorem hitKeeps_setStores (s : State) (pa : PAddr) (x : BitVec 6) (m : Nat) (b : List BusWrite) (c : List (Nat × CodeLine)) :
    HitKeeps s (afterHit { s with wbuf := b, codeStores := c } .data pa x m) pa :=
  ⟨waySelectUsed_afterHit { s with wbuf := b, codeStores := c } .data pa x m, rfl⟩

/-- Bytes put into a line of the data cache keep what a hit keeps. -/
theorem hitKeeps_writeLine {u : State} (h : HitKeeps s u pa) (w off : Nat) (bs : List Byte) (dirty : Bool)
    (c : List (Nat × CodeLine)) : HitKeeps s (writeLine { u with codeStores := c } pa w off bs dirty) pa := by
  obtain ⟨hw, hf⟩ := h
  obtain ⟨x, hx⟩ : ∃ x, writeLine { u with codeStores := c } pa w off bs dirty
      = { u with codeStores := c, dcache := setLine u.dcache w (lineOf pa) x } := ⟨_, rfl⟩
  rw [hx]
  refine ⟨waySelectUsed_congr hw rfl rfl, ?_⟩
  exact (congrArg (fun z : State => { z with codeStores := c, dcache := setLine u.dcache w (lineOf pa) x }) hf).trans rfl

theorem read_hits (hn : n ≤ 8) (hf : pa.toNat % 8 + n ≤ 8) (hr : cacheReady s.dcache = true) (hh : hitWays s.dcache pa ≠ [])
    (hcca : cca = 0 ∨ cca = 1 ∨ cca = 3) :
    let key := laneKey (dataBigEndian s) pa.toNat n
    ∃ t x, ∃ w ∈ hitWays s.dcache pa, physRead s pa n cca = .ok x t ∧ x.toNat < 2 ^ (8 * n) ∧ HitKeeps s t pa
      ∧ t.wbuf = s.wbuf ∧ t.codeStores = s.codeStores ∧ t.dcache.lines = s.dcache.lines
      ∧ ∀ i : Fin 32, key % 32 ≤ i.val → i.val < key % 32 + n →
          x.extractLsb' (8 * (n - 1 - (i.val - key % 32))) 8 = (getLine s.dcache w (lineOf pa)).data[i] := by
  intro key
  obtain ⟨w, hw, x, m, he⟩ := physRead_hit hcca hr hh n
  refine ⟨_, _, w, hw, he, ?_, hitKeeps_afterHit s pa x m, rfl, rfl, rfl,
    fun i => joinBytes_lineBytes_byte _ hn (laneKey_mod_le pa _ hf) i⟩
  simpa only [lineBytes_length] using joinBytes_lt (lineBytes (getLine s.dcache w (lineOf pa)) (key % 32) n)

theorem write_hits (hc : cacheWf s.dcache = true) (hr : cacheReady s.dcache = true) (hh : hitWays s.dcache pa ≠ [])
    (hcca : cca = 0 ∨ cca = 1 ∨ cca = 3) (v : Word) :
    let key := laneKey (dataBigEndian s) pa.toNat n
    ∃ t, ∃ w ∈ hitWays s.dcache pa, physWrite s pa n v cca = .ok () t ∧ HitKeeps s t pa
      ∧ (if cca = 3 then t.wbuf = s.wbuf else t.wbuf = s.wbuf ++ [{ key := busAddress s key, bytes := splitBytes n v }])
      ∧ LineWritten s t pa w (key % 32) n v (cca == 3) := by
  intro key
  by_cases h3 : cca = 3
  · subst h3
    obtain ⟨w, hw, x, m, he⟩ := physWrite_hit_writeBack hr hh n v
    refine ⟨_, w, hw, he, hitKeeps_writeLine (hitKeeps_afterHit s pa x m) _ _ _ _ _, rfl, ?_⟩
    rw [beq_self_eq_true]
    exact lineWritten_writeLine hc (by rfl) pa w (key % 32) n v true
  · have h01 : cca = 0 ∨ cca = 1 := by tauto
    obtain ⟨w, hw, x, m, he⟩ := physWrite_hit_writeThrough h01 hr hh n v
    simp only [if_neg h3, beq_eq_false_iff_ne.2 h3]
    refine ⟨_, w, hw, he, ?_, rfl, lineWritten_writeLine hc (by rfl) pa w (key % 32) n v false⟩
    exact hitKeeps_writeLine (hitKeeps_setStores s pa x m _ _) _ _ _ _ _

end Hit

/-! A read leaves Status as it was, whatever it meets. -/

theorem fillLine_status {s t : State} {pa : PAddr} {w : Nat} (h : fillLine s .data pa = .ok w t) :
    t.cp0.status = s.cp0.status := by
  by_cases hf : readFails s (lineKey s (tagOf pa) (lineOf pa)) 32 = true
  · simp [fillLine, hf] at h
  by_cases hu : unlockedWays s.dcache pa = []
  · simp [fillLine, hf, hu, getCache] at h
  obtain ⟨w', -, he⟩ := fillLine_data (by simpa using hf) hu
  cases he.symm.trans h
  obtain ⟨m, b, hb⟩ := beforeFill_frame s (getLine s.dcache w (lineOf pa)) (lineOf pa)
  unfold afterFill
  rw [hb]
  rfl

theorem lookupOrFill_status {s t : State} {pa : PAddr} {w : Nat} (h : lookupOrFill s .data pa = .ok w t) :
    t.cp0.status = s.cp0.status := by
  by_cases hr : cacheReady s.dcache = true
  swap
  · simp [lookupOrFill, getCache, hr] at h
  by_cases hh : hitWays s.dcache pa = []
  · cases hl : s.lateError with
    | none => exact fillLine_status ((lookupOrFill_miss hr hh hl).symm.trans h)
    | some e => simp [lookupOrFill, needBus, getCache, hr, hh, hl] at h
  · obtain ⟨w', -, x, m, he⟩ := lookupOrFill_hit (d := .data) hr hh
    cases he.symm.trans h
    rfl

theorem physRead_status {s t : State} {pa : PAddr} {n : Nat} {cca : BitVec 3} {x : Word} (h : physRead s pa n cca = .ok x t) :
    t.cp0.status = s.cp0.status := by
  unfold physRead at h
  dsimp only at h
  split at h
  · cases h
  split at h
  · split at h
    · cases h
    · unfold needBus at h
      split at h
      · cases h
      split at h
      · cases h
      · cases h
        simp
  · obtain ⟨w, u, hl, he⟩ := bind_ok.1 h
    cases he
    exact lookupOrFill_status hl

/-! The access of an aligned datum, and of a part of a doubleword, by what it translates to. -/

section Translated

variable {s t : State} {va : Word} {n : Nat} {pa : PAddr} {cca : BitVec 3}

theorem memRead_translated (ha : va.toNat % n = 0) (ht : Machine.translate s va .load = .ok pa cca) :
    memRead s va n = physRead s pa n cca := by
  simp [memRead, checkAligned, ha, ht, Translation.toRes]

theorem memWrite_translated (ha : va.toNat % n = 0) (ht : Machine.translate s va .store = .ok pa cca) (v : Word) :
    memWrite s va n v = physWrite s pa n v cca := by
  simp [memWrite, checkAligned, ha, ht, Translation.toRes]

theorem memReadPart_translated (ht : Machine.translate s va .load = .ok pa cca) (addr : Word) :
    memReadPart s va addr n = physRead s (withinDoubleword pa addr) n cca := by
  simp [memReadPart, ht, Translation.toRes]

theorem memWritePart_translated (ht : Machine.translate s va .store = .ok pa cca) (addr v : Word) :
    memWritePart s va addr n v = physWrite s (withinDoubleword pa addr) n v cca := by
  simp [memWritePart, ht, Translation.toRes]

end Translated

/-! Loads and stores of a general register. -/

section Integer

variable {s t : State} {base rt : RegNum} {offset : BitVec 16} {n : Nat} {pa : PAddr} {cca : BitVec 3} {i : Instr} {x : Word}

/-- A load puts the value its access reads, extended, into the register. -/
theorem loads_of {extend : Word → Word} (hi : exec i s = loadGpr s base rt offset n extend) :
    (gprRead s base + offset.signExtend 64).toNat % n = 0 →
    Machine.translate s (gprRead s base + offset.signExtend 64) .load = .ok pa cca →
    ∀ x t, physRead s pa n cca = .ok x t → WritesGpr t (exec i s) rt (extend x) := by
  intro ha ht x t hp
  rw [hi]
  unfold loadGpr baseOffset sext16
  rw [memRead_translated ha ht, hp]
  exact writesGpr_doneGpr t rt (extend x)

/-- A linked load also sets LLbit. -/
theorem links_of {extend : Word → Word} (hi : exec i s = loadLinked s base rt offset n extend) :
    (gprRead s base + offset.signExtend 64).toNat % n = 0 →
    Machine.translate s (gprRead s base + offset.signExtend 64) .load = .ok pa cca →
    ∀ x t, physRead s pa n cca = .ok x t → ∃ u, exec i s = .next u ∧ GprIs t u rt (extend x) ∧ u.llbit = true ∧ MovesOn t u
      ∧ SameMemory t u ∧ u = { t with gpr := u.gpr, llbit := u.llbit, pc := u.pc, delay := u.delay } := by
  intro ha ht x t hp
  obtain ⟨u, hu, hgpr, hmoves, hmem, hrest⟩ := writesGpr_doneGpr { t with llbit := true } rt (extend x)
  have hll : u.llbit = true := by rw [hrest]
  refine ⟨u, ?_, hgpr, hll, hmoves, hmem, ?_⟩
  · rw [hi, ← hu]
    unfold loadLinked baseOffset sext16
    rw [memRead_translated ha ht, hp]
    rfl
  · rw [hll]
    exact hrest

/-- A store, and one whose exceptions report another address. -/
theorem stores_of {va v : Word} {report : Res Unit → Res Unit} (hf : ∀ a t, report (.ok a t) = .ok a t)
    (hi : exec i s = finish (report (memWrite s va n v))) :
    va.toNat % n = 0 → Machine.translate s va .store = .ok pa cca →
    ∀ t, physWrite s pa n v cca = .ok () t → DoesNothing t (exec i s) := by
  intro ha ht t hp
  rw [hi, memWrite_translated ha ht, hp, hf]
  exact doesNothing_done t

/-- A store conditional does its access only with LLbit, puts LLbit into the register and clears it. -/
theorem conditional_of (hi : exec i s = storeConditional s base rt offset n) :
    (gprRead s base + offset.signExtend 64).toNat % n = 0 →
    Machine.translate s (gprRead s base + offset.signExtend 64) .store = .ok pa cca →
    ∀ t, (if s.llbit then physWrite s pa n (gprRead s rt) cca = .ok () t else t = s) →
      ∃ u, exec i s = .next u ∧ GprIs t u rt (if s.llbit then 1 else 0) ∧ u.llbit = false ∧ MovesOn t u ∧ SameMemory t u
        ∧ u = { t with gpr := u.gpr, llbit := u.llbit, pc := u.pc, delay := u.delay } := by
  intro ha ht t hp
  have hi' : exec i s = done (conditionalFlag rt s.llbit t) := by
    rw [hi]
    unfold storeConditional checkAligned baseOffset sext16
    simp only [ha, ht, Translation.toRes, bind_of_ok, beq_self_eq_true, if_true]
    cases hl : s.llbit <;> simp only [hl, if_true, if_false, Bool.false_eq_true] at hp ⊢
    · rw [hp]
    · rw [hp]
  obtain ⟨g, he, hg⟩ := LoadLinked.done_conditionalFlag t rt s.llbit (fun _ => rfl)
  have hv : (BitVec.ofBool s.llbit).setWidth 64 = if s.llbit then 1 else 0 := by cases s.llbit <;> rfl
  exact ⟨_, hi'.trans he, hv ▸ hg, rfl, ⟨rfl, rfl⟩, sameMemory_of rfl rfl rfl rfl, rfl⟩

end Integer

/-! Loads and stores of an FPU register. -/

section Fpu

variable {s t : State} {r : RegNum} {va : Word} {pa : PAddr} {cca : BitVec 3} {i : Instr}

theorem loadsFpr32_of (hi : exec i s = loadFpr32 s va r) :
    va.toNat % 4 = 0 → Machine.translate s va .load = .ok pa cca → ∀ x t, physRead s pa 4 cca = .ok x t →
      ∃ u, exec i s = .next u ∧ Fpr32Is t u .raw r (x.extractLsb' 0 32) ∧ u.fcsr = t.fcsr ∧ MovesOn t u ∧ FpKeeps t u := by
  intro ha ht x t hp
  obtain ⟨y, z, m, hf⟩ := FpMove.setFpr32_frame t r .raw (low32 x)
  refine ⟨advance (setFpr32 t r (low32 x) .raw), ?_, ?_, FpMove.fpKeeps_advance hf⟩
  · rw [hi]
    unfold loadFpr32
    rw [memRead_translated ha ht, hp]
    rfl
  · rw [← low32_eq]
    exact FpMove.fpr32Is_advance (FpMove.fpr32Is_setFpr32 t r .raw _)

theorem loadsFpr64_of {report : Res Word → Res Word} (hf : ∀ x t, report (.ok x t) = .ok x t) (hr : fprNumberOk s r = true)
    (hi : exec i s = loadFpr64 s (report (memRead s va 8)) r) :
    va.toNat % 8 = 0 → Machine.translate s va .load = .ok pa cca → ∀ x t, physRead s pa 8 cca = .ok x t →
      ∃ u, exec i s = .next u ∧ Fpr64Is t u .raw r x ∧ u.fcsr = t.fcsr ∧ MovesOn t u ∧ FpKeeps t u := by
  intro ha ht x t hp
  have hr' : fprNumberOk t r = true := by
    unfold fprNumberOk
    rw [physRead_status hp]
    exact hr
  obtain ⟨y, z, m, hframe⟩ := FpMove.setFpr64_frame t r .raw x
  refine ⟨advance (setFpr64 t r x .raw), ?_, FpMove.fpr64Is_advance (FpMove.fpr64Is_setFpr64 t .raw hr' x),
    FpMove.fpKeeps_advance hframe⟩
  unfold loadFpr64 at hi
  rw [hi, needFpr_of hr, memRead_translated ha ht, hp, hf]
  rfl

end Fpu

/-! The partial-word instructions (44_load_store.md R549 to R557). -/

/-- Byte `j` of a value, counted from the least significant. -/
def byteAt (v : Word) (j : Nat) : Byte := v.extractLsb' (8 * j) 8

/-- The bytes of a part go up from the address: of a left part in big-endian order, of a right part in little-endian order. -/
def goesUp (s : State) (left : Bool) : Bool := dataBigEndian s == left

/-- How many bytes a part has. -/
def partCount (s : State) (va : Word) (w : Nat) (left : Bool) : Nat :=
  if goesUp s left then w - va.toNat % w else va.toNat % w + 1

/-- The physical address of the first byte of a part. -/
def partFirst (s : State) (va : Word) (pa : PAddr) (w : Nat) (left : Bool) : PAddr :=
  if goesUp s left then pa else pa - BitVec.ofNat 36 (va.toNat % w)

/-- `Left` or `Right` (R549). -/
def partOf (left : Bool) : Bool → Word → Nat → Word × Nat := if left then leftPart else rightPart

theorem partOf_eq (s : State) (va : Word) (w : Nat) (left : Bool) : partOf left (dataBigEndian s) va w
    = (if goesUp s left then va else va - BitVec.ofNat 64 (va.toNat % w), partCount s va w left) := by
  unfold partOf partCount goesUp leftPart rightPart
  cases left <;> cases dataBigEndian s <;> rfl

theorem withinDoubleword_toNat (pa : PAddr) (addr : Word) :
    (withinDoubleword pa addr).toNat = pa.toNat / 8 * 8 + addr.toNat % 8 := by
  have := pa.isLt
  unfold withinDoubleword
  rw [BitVec.toNat_append, ← Nat.shiftLeft_add_eq_or_of_lt (BitVec.isLt _)]
  simp only [BitVec.extractLsb'_toNat, Nat.shiftLeft_eq, Nat.shiftRight_eq_div_pow]
  omega

theorem withinDoubleword_partOf {s : State} {va : Word} {pa : PAddr} {w : Nat} (hw : w = 4 ∨ w = 8)
    (hm : pa.toNat % 4096 = va.toNat % 4096) (left : Bool) :
    withinDoubleword pa (partOf left (dataBigEndian s) va w).1 = partFirst s va pa w left := by
  have := pa.isLt
  have := va.isLt
  rw [partOf_eq]
  unfold partFirst
  apply BitVec.eq_of_toNat_eq
  rw [withinDoubleword_toNat]
  cases goesUp s left
  · simp only [Bool.false_eq_true, if_false, BitVec.toNat_sub, BitVec.toNat_ofNat]
    rcases hw with rfl | rfl <;> omega
  · simp only [if_true]
    omega

theorem partCount_bounds (s : State) (va : Word) {w : Nat} (hw : w = 4 ∨ w = 8) (left : Bool) :
    0 < partCount s va w left ∧ partCount s va w left ≤ w := by
  have : va.toNat % w < w := Nat.mod_lt _ (by omega)
  unfold partCount
  split <;> omega

theorem byteAt_getLsbD (v : Word) (j : Nat) {k : Nat} (hk : k < 8) : (byteAt v j).getLsbD k = v.getLsbD (8 * j + k) := by
  simp [byteAt, hk]

theorem byteAt_ext {v x : Word} {i j : Nat} (h : ∀ k, k < 8 → v.getLsbD (8 * i + k) = x.getLsbD (8 * j + k)) :
    byteAt v i = byteAt x j := by
  apply BitVec.eq_of_getLsbD_eq
  intro k hk
  rw [byteAt_getLsbD v i hk, byteAt_getLsbD x j hk, h k hk]

theorem getLsbD_lowMask (v : Word) (n i : Nat) (hi : i < 64) :
    (v &&& BitVec.ofNat 64 (2 ^ n - 1)).getLsbD i = (v.getLsbD i && decide (i < n)) := by
  rw [BitVec.getLsbD_and, BitVec.getLsbD_ofNat, Nat.testBit_two_pow_sub_one]
  simp [hi]

theorem byteAt_mergeLeft {w m j : Nat} (hw : w ≤ 8) (hj : j < w) (x old : Word) :
    byteAt (mergeLeft w m x old) j = if w - m ≤ j then byteAt x (j - (w - m)) else byteAt old j := by
  unfold mergeLeft
  split
  · refine byteAt_ext fun k hk => ?_
    have h1 : 8 * j + k < 64 := by omega
    have h2 : ¬ 8 * j + k < 8 * (w - m) := by omega
    have h3 : 8 * j + k - 8 * (w - m) = 8 * (j - (w - m)) + k := by omega
    rw [BitVec.getLsbD_or, getLsbD_lowMask _ _ _ h1, BitVec.getLsbD_shiftLeft]
    simp [h1, h2, h3]
  · refine byteAt_ext fun k hk => ?_
    have h1 : 8 * j + k < 64 := by omega
    have h2 : 8 * j + k < 8 * (w - m) := by omega
    rw [BitVec.getLsbD_or, getLsbD_lowMask _ _ _ h1, BitVec.getLsbD_shiftLeft]
    simp [h2]

theorem byteAt_mergeRight {m j : Nat} (hj : j < 8) (x old : Word) :
    byteAt (mergeRight m x old) j = if j < m then byteAt x j else byteAt old j := by
  have hmask : ∀ i, i < 64 → (old &&& ~~~BitVec.ofNat 64 (2 ^ (8 * m) - 1)).getLsbD i
      = (old.getLsbD i && !decide (i < 8 * m)) := by
    intro i hi
    rw [BitVec.getLsbD_and, BitVec.getLsbD_not, BitVec.getLsbD_ofNat, Nat.testBit_two_pow_sub_one]
    simp [hi]
  unfold mergeRight
  split
  · refine byteAt_ext fun k hk => ?_
    have h1 : 8 * j + k < 64 := by omega
    have h2 : 8 * j + k < 8 * m := by omega
    rw [BitVec.getLsbD_or, getLsbD_lowMask _ _ _ h1, hmask _ h1]
    simp [h2]
  · refine byteAt_ext fun k hk => ?_
    have h1 : 8 * j + k < 64 := by omega
    have h2 : ¬ 8 * j + k < 8 * m := by omega
    rw [BitVec.getLsbD_or, getLsbD_lowMask _ _ _ h1, hmask _ h1]
    simp [h2]

/-- The merge of a part into the old value of the register. -/
def mergePart (left : Bool) (w : Nat) : Nat → Word → Word → Word := if left then mergeLeft w else mergeRight

theorem byteAt_mergePart (left : Bool) {w m j : Nat} (hw : w ≤ 8) (hj : j < w) (x old : Word) :
    byteAt (mergePart left w m x old) j = if left then (if w - m ≤ j then byteAt x (j - (w - m)) else byteAt old j)
      else (if j < m then byteAt x j else byteAt old j) := by
  cases left
  · exact byteAt_mergeRight (by omega) x old
  · exact byteAt_mergeLeft hw hj x old

/-- The bytes of the register that a part stores, as the low bytes of a value. -/
def LowerPart (left : Bool) (w : Nat) (old : Word) (lower : Nat → Word) : Prop :=
  ∀ m j, m ≤ w → j < m → byteAt (lower m) j = byteAt old (if left then w - m + j else j)

theorem lowerPart_left32 (old : Word) : LowerPart true 4 old fun n => (old.setWidth 32 >>> (32 - 8 * n)).setWidth 64 := by
  intro m j hm hj
  refine byteAt_ext fun k hk => ?_
  have h1 : 8 * j + k < 64 := by omega
  have h2 : 32 - 8 * m + (8 * j + k) = 8 * (4 - m + j) + k := by omega
  have h3 : 8 * (4 - m + j) + k < 32 := by omega
  have h4 : 8 * (4 - m + j) + k < 64 := by omega
  simp [h1, h2, h3, h4]

theorem lowerPart_left64 (old : Word) : LowerPart true 8 old fun n => old >>> (64 - 8 * n) := by
  intro m j hm hj
  refine byteAt_ext fun k hk => ?_
  have h2 : 64 - 8 * m + (8 * j + k) = 8 * (8 - m + j) + k := by omega
  simp [h2]

theorem lowerPart_right (w : Nat) (old : Word) : LowerPart false w old fun _ => old := fun _ _ _ _ => rfl

/-- A store writes only the low bytes of its value. -/
theorem physWrite_congr {n : Nat} {v x : Word} (h : ∀ j, j < n → byteAt v j = byteAt x j) (s : State) (pa : PAddr)
    (cca : BitVec 3) : physWrite s pa n v cca = physWrite s pa n x cca := by
  have hs : splitBytes n v = splitBytes n x := List.map_congr_left fun i hi =>
    h _ (by have := List.mem_range.1 hi; omega)
  unfold physWrite
  rw [hs]

section Partial

variable {s : State} {base rt : RegNum} {offset : BitVec 16} {w : Nat} {pa : PAddr} {cca : BitVec 3} {i : Instr} {left : Bool}

/-- A partial load reads the bytes of its part and merges them into the register. -/
theorem merges_of (hw : w = 4 ∨ w = 8) {extend : Word → Word} (hi : exec i s
      = loadPart s base rt offset (partOf left) w fun n v old => extend (mergePart left w n v old)) :
    let va := gprRead s base + offset.signExtend 64
    let m := partCount s va w left
    Machine.translate s va .load = .ok pa cca → ∀ x t, physRead s (partFirst s va pa w left) m cca = .ok x t →
      ∃ v, WritesGpr t (exec i s) rt (extend v) ∧ ∀ j, j < w → byteAt v j =
        if left then (if w - m ≤ j then byteAt x (j - (w - m)) else byteAt (gprRead s rt) j)
        else (if j < m then byteAt x j else byteAt (gprRead s rt) j) := by
  intro va m ht x t hp
  refine ⟨mergePart left w m x (gprRead s rt), ?_,
    fun j hj => byteAt_mergePart left (by omega) hj x _⟩
  have hfirst := withinDoubleword_partOf (s := s) hw (translate_mod ht) left
  have hcount : (partOf left (dataBigEndian s) va w).2 = m := by rw [partOf_eq]
  rw [hi]
  change WritesGpr t (loadInto (.gpr rt) (memReadPart s va (partOf left (dataBigEndian s) va w).1
    (partOf left (dataBigEndian s) va w).2) fun v t => gprWrite t rt
      (extend (mergePart left w (partOf left (dataBigEndian s) va w).2 v (gprRead s rt)))) rt _
  rw [memReadPart_translated ht, hfirst, hcount, hp]
  exact writesGpr_doneGpr t rt _

/-- A partial store writes the bytes of its part. -/
theorem parts_of (hw : w = 4 ∨ w = 8) {lower : Nat → Word} (hl : LowerPart left w (gprRead s rt) lower)
    (hi : exec i s = storePart s base offset (partOf left) w lower) :
    let va := gprRead s base + offset.signExtend 64
    let m := partCount s va w left
    Machine.translate s va .store = .ok pa cca → ∀ x t,
      (∀ j, j < m → byteAt x j = byteAt (gprRead s rt) (if left then w - m + j else j)) →
      physWrite s (partFirst s va pa w left) m x cca = .ok () t → DoesNothing t (exec i s) := by
  intro va m ht x t hx hp
  have hfirst := withinDoubleword_partOf (s := s) hw (translate_mod ht) left
  have hcount : (partOf left (dataBigEndian s) va w).2 = m := by rw [partOf_eq]
  have hbytes : ∀ j, j < m → byteAt (lower m) j = byteAt x j := fun j hj =>
    (hl m j (partCount_bounds s va hw left).2 hj).trans (hx j hj).symm
  rw [hi]
  change DoesNothing t (finish (memWritePart s va (partOf left (dataBigEndian s) va w).1
    (partOf left (dataBigEndian s) va w).2 (lower (partOf left (dataBigEndian s) va w).2)))
  rw [memWritePart_translated ht, hfirst, hcount, physWrite_congr hbytes, hp]
  exact doesNothing_done t

end Partial

/-! The instructions whose extension the statement writes with the bits of the value. -/

/-- A word, sign-extended. -/
def signWord (v : Word) : Word := (v.extractLsb' 0 32).signExtend 64

theorem sext32_low32 (v : Word) : sext32 (low32 v) = signWord v := by
  unfold sext32 signWord
  rw [low32_eq]

section Extended

variable (s : State) (base rt : RegNum) (offset : BitVec 16)

theorem exec_lb : exec (.lb base rt offset) s = loadGpr s base rt offset 1 fun x => (x.extractLsb' 0 8).signExtend 64 := by
  simp only [← BitVec.setWidth_eq_extractLsb' (show 8 ≤ 64 by decide)]
  rfl

theorem exec_lh : exec (.lh base rt offset) s = loadGpr s base rt offset 2 fun x => (x.extractLsb' 0 16).signExtend 64 := by
  simp only [← BitVec.setWidth_eq_extractLsb' (show 16 ≤ 64 by decide)]
  rfl

theorem exec_lw : exec (.lw base rt offset) s = loadGpr s base rt offset 4 signWord := by
  simp only [← funext sext32_low32]
  rfl

theorem exec_ll : exec (.ll base rt offset) s = loadLinked s base rt offset 4 signWord := by
  simp only [← funext sext32_low32]
  rfl

theorem exec_lwl : exec (.lwl base rt offset) s
    = loadPart s base rt offset (partOf true) 4 fun n v old => signWord (mergePart true 4 n v old) := by
  simp only [← sext32_low32]
  rfl

theorem exec_lwr : exec (.lwr base rt offset) s
    = loadPart s base rt offset (partOf false) 4 fun n v old => signWord (mergePart false 4 n v old) := by
  simp only [← sext32_low32]
  rfl

end Extended

/-- Settles O36: a hit is one way of those that hold the address; each instruction is its access and its own effect. -/
theorem cachedAccessesUseTheLine : Obligations.CachedAccessesUseTheLine := by
  unfold Obligations.CachedAccessesUseTheLine
  refine ⟨?_, ?_⟩
  · intro s pa n v cca key hits line keeps h0 hn hf hc hr hh hcca
    refine ⟨read_hits hn hf hr hh hcca, ?_⟩
    obtain ⟨t, w, hw, he, hk, hb, hline⟩ := write_hits (n := n) hc hr hh hcca v
    exact ⟨t, w, hw, he, hk, hb, hline.dirty, hline.valid, hline.tag, hline.l, hline.data, hline.others⟩
  · intro s base index rt offset pa cca va vx down be old read loads links loadsFpr stores conditional up count first byte
      merges parts word
    have keep : ∀ {α : Type} (a : α) (t : State), id (Res.ok a t) = .ok a t := fun _ _ => rfl
    have report : ∀ {α : Type} (a : Word) (x : α) (t : State), (Res.ok x t).reporting a = .ok x t := fun _ _ _ => rfl
    refine ⟨loads_of (exec_lb s base rt offset), loads_of rfl, loads_of (exec_lh s base rt offset), loads_of rfl,
      loads_of (exec_lw s base rt offset), links_of (exec_ll s base rt offset),
      merges_of (.inl rfl) (exec_lwl s base rt offset), merges_of (.inl rfl) (exec_lwr s base rt offset),
      stores_of keep rfl, stores_of keep rfl, stores_of keep rfl, conditional_of rfl,
      parts_of (.inl rfl) (lowerPart_left32 old) rfl, parts_of (.inl rfl) (lowerPart_right 4 old) rfl,
      fun hx => ?_, fun hcu => ?_⟩
    · exact ⟨loads_of (need64_of hx), loads_of (need64_of hx), links_of (need64_of hx),
        merges_of (extend := id) (left := true) (.inr rfl) (need64_of hx),
        merges_of (extend := id) (left := false) (.inr rfl) (need64_of hx),
        stores_of keep (need64_of hx), conditional_of (need64_of hx),
        parts_of (.inr rfl) (lowerPart_left64 old) (need64_of hx), parts_of (.inr rfl) (lowerPart_right 8 old) (need64_of hx)⟩
    · refine ⟨loadsFpr32_of (needCu1_of hcu), stores_of keep (needCu1_of hcu), fun hx => ?_⟩
      have behind : ∀ k : Out, needCu1 s (need64Move s k) = k := fun k => by rw [needCu1_of hcu, need64Move_of hx]
      refine ⟨loadsFpr32_of (behind _), stores_of keep (behind _), fun hr => ?_⟩
      have behindFpr : ∀ k : Out, needCu1 s (need64Move s (needFpr s rt k)) = k := fun k => by rw [behind, needFpr_of hr]
      exact ⟨loadsFpr64_of keep hr (behind _), loadsFpr64_of keep hr (behind _),
        loadsFpr64_of (report (luxc1Reported vx)) hr (behind _),
        stores_of keep (behindFpr _), stores_of keep (behindFpr _), stores_of (report vx) (behindFpr _)⟩

end Sys2Proof.Proofs.CachedAccess
end

section
/-! The fetch of an instruction word: uncached, from a line that holds the address, and from a line filled for it; and the
exceptions of a fetch (20_memory.md R204, R205, R211, R245, R252, R256; 60_exceptions.md R806, R807, R817). -/

namespace Sys2Proof.Proofs.Fetch

open Sys2Proof.Machine Sys2Proof.Laws Sys2Proof.Claims CacheMiss CacheHit

/-! The step at an instruction that cannot be fetched. -/

/-- Where nothing comes before the instruction, an exception of its fetch is what the step does. -/
theorem step_of_fetch_trap {s t : State} {e : Exc} (h : Ready s) (hf : fetchWord s s.pc = .trap e t) :
    step s = .next (boundary (takeException e t)) := by
  obtain ⟨hreset, hlate, hnmi, hawake, hint, hmode⟩ := h
  have hsettle : ∀ o, settle s o = o := fun o => by simp [settle, hlate]
  have hnext : nextAction s = .over (raise e t) := by
    simp [nextAction, awakeAction, fetchInstr, lateErrorDue, hreset, hlate, hnmi, hawake, hint, hmode, hf, hsettle]
  unfold step runStep
  rw [hnext]
  rfl

theorem entered_ibe (s : State) : Entered s 6 0x180 (takeException .ibe s) ∧ KeepsAddresses s (takeException .ibe s) :=
  entered_plain (e := .ibe) rfl s

/-! The fetch by what its address translates to. -/

section Translated

variable {s t : State} {va : Word} {pa : PAddr} {cca : BitVec 3}

theorem low2_eq_zero (h : va.toNat % 4 = 0) : va.extractLsb' 0 2 = 0 := by
  apply BitVec.eq_of_toNat_eq
  simp [h]

theorem fetchWord_misaligned (h : va.toNat % 4 ≠ 0) : fetchWord s va = .trap (.addressError false va) s := by
  have hne : va.extractLsb' 0 2 ≠ 0 := fun he => h (by simpa using congrArg BitVec.toNat he)
  unfold fetchWord
  rw [if_pos (bne_iff_ne.2 hne)]

theorem fetchWord_inaccessible (h : segmentAccessible s (segmentOf va) = false) :
    fetchWord s va = .trap (.addressError false va) s := by
  by_cases ha : va.toNat % 4 = 0
  · simp [fetchWord, low2_eq_zero ha, Segments.translate_of_inaccessible h, Translation.toRes, Access.isStore]
  · exact fetchWord_misaligned ha

variable (ha : va.toNat % 4 = 0)
include ha

/-- An uncached fetch, once the writes it waits for are done. -/
theorem fetchWord_uncached (ht : Machine.translate s va .fetch = .ok pa 2) (hc : holdsCopy s.icache pa = false) :
    fetchWord s va = if readFails s (busAddress s pa.toNat) 4 then .trap .ibe (waited s)
      else fetched (waited s) pa false (low32 (joinBytes (readBytes (waited s).mem (fetchLane s pa) 4))) := by
  obtain ⟨m, b, hw⟩ := waitForWrites_frame s
  rw [← waitForWrites_eq]
  simp only [fetchWord, low2_eq_zero ha, ht, Translation.toRes, bind_of_ok, hc, hw]
  rfl

variable (ht : Machine.translate s va .fetch = .ok pa cca) (hcca : cca = 0 ∨ cca = 1 ∨ cca = 3)
include ht hcca

theorem fetchWord_line {w : Nat} (hl : lookupOrFill s .inst pa = .ok w t) :
    fetchWord s va = fetched t pa true (low32 (joinBytes (lineBytes (getLine t.icache w (lineOf pa)) (pa.toNat % 32) 4))) := by
  simp only [fetchWord, low2_eq_zero ha, ht, Translation.toRes, bind_of_ok, hl]
  rcases hcca with rfl | rfl | rfl <;> rfl

theorem fetchWord_fillFails (hl : lookupOrFill s .inst pa = .busError t) : fetchWord s va = .trap .ibe t := by
  simp only [fetchWord, low2_eq_zero ha, ht, Translation.toRes, bind_of_ok, hl]
  rcases hcca with rfl | rfl | rfl <;> rfl

theorem fetchWord_stop {f : Fault} (hl : lookupOrFill s .inst pa = .stop f) : fetchWord s va = .stop f := by
  simp only [fetchWord, low2_eq_zero ha, ht, Translation.toRes, bind_of_ok, hl]
  rcases hcca with rfl | rfl | rfl <;> rfl

end Translated

/-! The bytes of the word. -/

theorem low32_byte (v : Word) {j : Nat} (hj : j < 4) : (low32 v).extractLsb' (8 * j) 8 = v.extractLsb' (8 * j) 8 := by
  apply BitVec.eq_of_getLsbD_eq
  intro k hk
  have h : 8 * j + k < 32 := by omega
  simp [low32, hk, h]

/-- The lane of the `i`-th byte of an instruction word, in the base byte order. -/
theorem fetchLane_byte (s : State) {pa : PAddr} (ha : pa.toNat % 4 = 0) {i : Nat} (hi : i < 4) :
    fetchLane s pa + (if s.latches.bigEndian then i else 3 - i)
      = busAddress s (if s.latches.bigEndian then pa.toNat + i else (pa.toNat + i) / 8 * 8 + (7 - (pa.toNat + i) % 8)) := by
  unfold fetchLane laneKey busAddress
  cases s.latches.bigEndian <;> simp only [if_true, if_false, Bool.false_eq_true] <;> split <;> omega

/-- An uncached word has the bytes of memory at its lanes. -/
theorem uncachedWord_byte (s : State) (m : List Host.Cell) {pa : PAddr} (ha : pa.toNat % 4 = 0) {i : Nat} (hi : i < 4) :
    (low32 (joinBytes (readBytes m (fetchLane s pa) 4))).extractLsb' (8 * (if s.latches.bigEndian then 3 - i else i)) 8
      = readByte m (busAddress s (if s.latches.bigEndian then pa.toNat + i
          else (pa.toNat + i) / 8 * 8 + (7 - (pa.toNat + i) % 8))) := by
  have hj : (if s.latches.bigEndian then 3 - i else i) < 4 := by split <;> omega
  have hk : 4 - 1 - (if s.latches.bigEndian then 3 - i else i) = if s.latches.bigEndian then i else 3 - i := by
    split <;> omega
  rw [low32_byte _ hj, joinBytes_byte _ _ (by omega), readBytes_reverse_getD hj, hk, fetchLane_byte s ha hi]

/-- A cached word has the bytes of its line from its address on. -/
theorem cachedWord_byte (x : CacheLine) {pa : PAddr} (ha : pa.toNat % 4 = 0) (i : Nat) (k : Fin 32) (hi : i < 4)
    (hk : k.val = pa.toNat % 32 + i) :
    (low32 (joinBytes (lineBytes x (pa.toNat % 32) 4))).extractLsb' (8 * (3 - i)) 8 = x.data[k] := by
  have h := joinBytes_lineBytes_byte x (off := pa.toNat % 32) (n := 4) (by omega) (by omega) k (by omega) (by omega)
  rw [low32_byte _ (by omega), ← h]
  congr 2
  omega

/-! The fill of a line of the instruction cache. -/

section Fill

variable {s : State} {pa : PAddr}

/-- The line a fill brings in: memory behind the write buffer, in little-endian mode with the words of each doubleword
exchanged (R205). -/
def instLine (s : State) (pa : PAddr) : CacheLine :=
  { tag := tagOf pa, v := true, l := false, dirty := false
    data := Vector.ofFn fun i => readByte (waited s).mem
      (lineKey s (tagOf pa) (lineOf pa) + (if s.latches.bigEndian then i.val else i.val ^^^ 4)) }

/-- The state after a fill of way `w` that leaves the Way Select word `x` and `n` as the count of free values. -/
def afterInstFill (s : State) (pa : PAddr) (w : Nat) (x : BitVec 6) (n : Nat) : State :=
  { waited s with
    icache := { setLine s.icache w (lineOf pa) (instLine s pa) with ws := storeSet 0 s.icache.ws (lineOf pa) x }
    draws := n
    cp0 := { s.cp0 with errCtl := { s.cp0.errCtl with
      wse := s.cp0.errCtl.wse || !legalWs.contains (storeGet 0 s.icache.ws (lineOf pa)) } } }

theorem lookupOrFill_inst_miss (hr : cacheReady s.icache = true) (hh : hitWays s.icache pa = []) :
    lookupOrFill s .inst pa = fillLine s .inst pa := by
  simp [lookupOrFill, getCache, hr, hh]

theorem fillLine_inst (hf : readFails s (lineKey s (tagOf pa) (lineOf pa)) 32 = false) (hu : unlockedWays s.icache pa ≠ []) :
    ∃ w ∈ unlockedWays s.icache pa, ∃ x n, fillLine s .inst pa = .ok w (afterInstFill s pa w x n) := by
  refine ⟨_, choose_mem (freeWord s 0) hu, (freeWord (spend 1 s) 0).extractLsb' 0 6, s.draws + 1 + 1, ?_⟩
  obtain ⟨m, b, hw⟩ := waitForWrites_frame s
  unfold afterInstFill instLine fillLine
  rw [← waitForWrites_eq, hw]
  simp only [hf, Bool.false_eq_true, if_false, getCache]
  rfl

theorem fillLine_inst_locked (hf : readFails s (lineKey s (tagOf pa) (lineOf pa)) 32 = false)
    (hu : unlockedWays s.icache pa = []) : fillLine s .inst pa = .stop .allWaysLocked := by
  simp [fillLine, hf, getCache, hu]

theorem fillLine_fails (d : Side) (hf : readFails s (lineKey s (tagOf pa) (lineOf pa)) 32 = true) :
    fillLine s d pa = .busError (waited s) := by
  simp [fillLine, hf, waitForWrites_eq]

theorem waySelectUsed_afterInstFill (s : State) (pa : PAddr) (w : Nat) (x : BitVec 6) (n : Nat) :
    WaySelectUsed s (afterInstFill s pa w x n) s.icache (afterInstFill s pa w x n).icache (lineOf pa) :=
  waySelectUsed_of rfl rfl

theorem getLine_afterInstFill (hc : cacheWf s.icache = true) (w : Nat) (x : BitVec 6) (n : Nat) :
    getLine (afterInstFill s pa w x n).icache w (lineOf pa) = instLine s pa :=
  (getLine_setLine hc).trans (if_pos rfl)

theorem otherLines_afterInstFill (hc : cacheWf s.icache = true) (w : Nat) (x : BitVec 6) (n : Nat) :
    OtherLines s.icache (afterInstFill s pa w x n).icache w (lineOf pa) :=
  otherLines_setLine hc w (lineOf_lt pa) (instLine s pa)

/-- A fetch looks at memory, the data cache and the record of stores, not at the instruction cache, for what was stored. -/
theorem storedWords_afterInstFill (w : Nat) (x : BitVec 6) (n : Nat) :
    storedWords (afterInstFill s pa w x n) pa true = storedWords (waited s) pa true := rfl

theorem storedWords_afterHit (x : BitVec 6) (n : Nat) :
    storedWords (afterHit s .inst pa x n) pa true = storedWords s pa true := rfl

end Fill

/-! The clauses. -/

section Clauses

variable {s : State} {pa : PAddr} {cca : BitVec 3}

theorem translated_aligned (ha : s.pc.toNat % 4 = 0) (ht : Machine.translate s s.pc .fetch = .ok pa cca) :
    pa.toNat % 4 = 0 := by
  have := translate_mod ht
  omega

theorem fetch_hits (ha : s.pc.toNat % 4 = 0) (ht : Machine.translate s s.pc .fetch = .ok pa cca)
    (hcca : cca = 0 ∨ cca = 1 ∨ cca = 3) (hr : cacheReady s.icache = true) (hh : hitWays s.icache pa ≠ [])
    (hs : storedWords s pa true = []) :
    ∃ w ∈ hitWays s.icache pa, ∃ x n, fetchWord s s.pc
      = .ok (low32 (joinBytes (lineBytes (getLine s.icache w (lineOf pa)) (pa.toNat % 32) 4))) (afterHit s .inst pa x n) := by
  obtain ⟨w, hw, x, n, hl⟩ := lookupOrFill_hit (d := .inst) hr hh
  refine ⟨w, hw, x, n, ?_⟩
  rw [fetchWord_line ha ht hcca hl, fetched_of_no_stores ((storedWords_afterHit x n).trans hs)]
  rfl

theorem fetch_fills (ha : s.pc.toNat % 4 = 0) (ht : Machine.translate s s.pc .fetch = .ok pa cca)
    (hcca : cca = 0 ∨ cca = 1 ∨ cca = 3) (hr : cacheReady s.icache = true) (hh : hitWays s.icache pa = [])
    (hf : readFails s (lineKey s (tagOf pa) (lineOf pa)) 32 = false) (hu : unlockedWays s.icache pa ≠ [])
    (hc : cacheWf s.icache = true) (hs : storedWords (waited s) pa true = []) :
    ∃ w ∈ unlockedWays s.icache pa, ∃ x n, fetchWord s s.pc
      = .ok (low32 (joinBytes (lineBytes (instLine s pa) (pa.toNat % 32) 4))) (afterInstFill s pa w x n) := by
  obtain ⟨w, hw, x, n, hl⟩ := fillLine_inst hf hu
  refine ⟨w, hw, x, n, ?_⟩
  rw [fetchWord_line ha ht hcca ((lookupOrFill_inst_miss hr hh).trans hl), getLine_afterInstFill hc,
    fetched_of_no_stores ((storedWords_afterInstFill w x n).trans hs)]

end Clauses

/-- Settles O10: the fetch is taken apart by what the pc translates to, and by what the instruction cache holds. -/
theorem fetchReadsTheWordAtPc : Obligations.FetchReadsTheWordAtPc := by
  intro s pa cca big place lane
  refine ⟨fun ha ht hc => ?_, fun ha ht hcca hr hh hs => ?_, fun ha ht hcca hr hh => ?_, fun h hready => ?_⟩
  · have he := fetchWord_uncached ha ht hc
    refine ⟨fun hf => ?_, fun hf hready => ?_⟩
    · rw [hf, if_neg Bool.false_ne_true] at he
      refine ⟨_, fun i hi => uncachedWord_byte s (waited s).mem (translated_aligned ha ht) hi,
        fun hs => he.trans (fetched_of_no_stores hs _), ?_⟩
      obtain ⟨x, n, hx, hmem⟩ := fetched_ok (waited s) pa false (low32 (joinBytes (readBytes (waited s).mem (fetchLane s pa) 4)))
      exact ⟨x, n, he.trans hx, hmem⟩
    · rw [hf, if_pos rfl] at he
      exact ⟨_, step_of_fetch_trap hready he, entered_ibe (waited s)⟩
  · obtain ⟨w, hw, x, n, he⟩ := fetch_hits ha ht hcca hr hh hs
    exact ⟨_, _, w, hw, he, rfl, cachedWord_byte _ (translated_aligned ha ht), waySelectUsed_afterHit s .inst pa x n, rfl⟩
  · have hmiss := lookupOrFill_inst_miss hr hh
    refine ⟨fun hf hu => fetchWord_stop ha ht hcca (hmiss.trans (fillLine_inst_locked hf hu)), fun hf hu hc hs => ?_,
      fun hf hready => ?_⟩
    · obtain ⟨w, hw, x, n, he⟩ := fetch_fills ha ht hcca hr hh hf hu hc hs
      refine ⟨_, _, w, hw, he, ?_, otherLines_afterInstFill hc w x n, waySelectUsed_afterInstFill s pa w x n, rfl⟩
      rw [getLine_afterInstFill hc]
      refine ⟨rfl, rfl, rfl, fun k => ?_, cachedWord_byte _ (translated_aligned ha ht)⟩
      simp only [instLine, Fin.getElem_fin, Vector.getElem_ofFn]
      rfl
    · have he := fetchWord_fillFails ha ht hcca (hmiss.trans (fillLine_fails .inst hf))
      exact ⟨_, step_of_fetch_trap hready he, entered_ibe (waited s)⟩
  · have he : fetchWord s s.pc = .trap (.addressError false s.pc) s := by
      rcases h with h | h
      · exact fetchWord_misaligned h
      · exact fetchWord_inaccessible h
    exact ⟨_, step_of_fetch_trap hready he, AddressErrors.addressErrorEntered false s.pc s⟩

end Sys2Proof.Proofs.Fetch
end

section
/-! SYNC, and what the recipe of 20_memory.md R256 makes sure that fetches see (20_memory.md R251 to R256; 44_load_store.md
R572; 46_cp0.md R637). -/

namespace Sys2Proof.Proofs.Sync

open Sys2Proof.Machine Sys2Proof.Laws Sys2Proof.Claims CacheMiss

/-! SYNC. -/

theorem exec_sync (s : State) (stype : BitVec 5) : exec (.sync stype) s = .next (advance (noteSync (drainAll s))) := rfl

/-- The state after SYNC, written out. -/
theorem advance_noteSync_eq (s : State) : advance (noteSync (drainAll s)) =
    { s with mem := memView s, wbuf := [], codeStores := (noteSync (drainAll s)).codeStores
             pc := (match s.delay with | some a => a | none => s.pc + 4), delay := none } := by
  rw [advance_eq]
  rfl

/-! What fetches may give depends on the record of stores and on what the program's own loads see. -/

theorem storedWords_congr {s t : State} (hl : t.latches = s.latches) (hk : t.codeStores = s.codeStores)
    (hd : t.dcache = s.dcache) (hm : t.mem = s.mem) (hw : t.wbuf = s.wbuf) (pa : PAddr) (cached : Bool) :
    storedWords t pa cached = storedWords s pa cached := by
  unfold storedWords fetchLane programBytes busAddress memView
  rw [hl, hk, hd, hm, hw]

theorem codeStores_noteJump (s : State) :
    (noteJump s).codeStores = storeMap blankCode (fun _ => CodeLine.jump) s.codeStores := rfl

/-- The jump of the recipe looks at nothing but the record. -/
theorem storedWords_noteJump_congr {s t : State} (hl : t.latches = s.latches) (hk : t.codeStores = s.codeStores)
    (hd : t.dcache = s.dcache) (hm : t.mem = s.mem) (hw : t.wbuf = s.wbuf) (pa : PAddr) (cached : Bool) :
    storedWords (noteJump t) pa cached = storedWords (noteJump s) pa cached :=
  storedWords_congr (s := noteJump s) (t := noteJump t) hl
    (by rw [codeStores_noteJump, codeStores_noteJump, hk]) hd hm hw pa cached

/-- The end of an instruction changes nothing that a fetch after it, or after one more store, sees. -/
theorem storedWords_noteJump_advance (s : State) (pa : PAddr) (cached : Bool) :
    storedWords (noteJump (advance s)) pa cached = storedWords (noteJump s) pa cached := by
  rw [advance_eq]
  rfl

theorem storedWords_noteStore_advance (s : State) (pa pa' : PAddr) (key n : Nat) (cached : Bool) :
    storedWords (noteStore (noteJump (advance s)) pa' key n) pa cached
      = storedWords (noteStore (noteJump s) pa' key n) pa cached := by
  rw [advance_eq]
  rfl

/-! A word store, and the fetch of the word after it. -/

section Store

variable {s : State} {pa : PAddr}

/-- The words a fetch may give, where there is one before a store. -/
theorem storedWords_of_earlierWords {cached : Bool} {new w : List Byte} {l : List (List Byte)}
    (hnew : programBytes s pa (laneKey s.latches.bigEndian pa.toNat 4) 4 = new)
    (h : earlierWords (fetchLane s pa % 32) new ((codeLineAt s pa).pending cached) = w :: l) :
    storedWords s pa cached = low32 (joinBytes new) :: low32 (joinBytes w) :: l.map fun b => low32 (joinBytes b) := by
  unfold codeLineAt at h
  unfold storedWords
  simp only [hnew, h, List.map_cons]

/-- Without a copy in the data cache the program's own loads see memory through the write buffer. -/
theorem programBytes_uncached (h : holdsCopy s.dcache pa = false) (key n : Nat) :
    programBytes s pa key n = readBytes (memView s) (busAddress s key) n := by
  have hw : (if cacheReady s.dcache then hitWays s.dcache pa else []) = [] := by
    unfold holdsCopy at h
    split
    · simp_all
    · rfl
  unfold programBytes
  rw [hw]

theorem readBytes_writeBytes {m : List Host.Cell} (hm : Memory.wf m = true) (k : Nat) (bs : List Byte) :
    readBytes (writeBytes m k bs) k bs.length = bs := by
  apply List.ext_getElem
  · simp [readBytes]
  · intro i _ hi
    simp [readBytes, readByte_writeBytes hm, hi]

theorem low32_joinBytes_splitBytes (v : Word) : low32 (joinBytes (splitBytes 4 v)) = v.extractLsb' 0 32 := by
  rw [← low32_eq]
  apply BitVec.eq_of_getLsbD_eq
  intro i hi
  have hj : i / 8 < 4 := by omega
  have hs : (splitBytes 4 v).reverse.getD (i / 8) 0 = v.extractLsb' (8 * (i / 8)) 8 := by
    rw [List.getD_eq_getElem?_getD, List.getElem?_reverse (by simpa using hj), splitBytes_length,
      ← List.getD_eq_getElem?_getD, splitBytes_getD v (by omega)]
    congr 2
    omega
  have hb := joinBytes_getLsbD (splitBytes 4 v) (i / 8) (i % 8) (by omega) (by omega)
  rw [hs, Nat.div_add_mod] at hb
  have h8 : i % 8 < 8 := by omega
  simp only [low32, BitVec.getLsbD_setWidth, hi, hb, BitVec.getLsbD_extractLsb', h8, decide_true, Bool.true_and,
    Nat.div_add_mod]

/-- The newest store is the first that a fetch need not see. -/
theorem CodeLine.pending_stored (x : CodeLine) (off : Nat) (before : List Byte) (cached : Bool) :
    ∃ l, (x.stored off before).pending cached = { off := off, before := before } :: l := by
  cases cached
  · exact ⟨x.stores.take x.unjumped, rfl⟩
  · exact ⟨x.stores, rfl⟩

/-- A store of a whole word is undone to what stood there before. -/
theorem undo_word (off : Nat) {before : List Byte} (h : before.length = 4) (word : List Byte) :
    CodeStore.undo { off := off, before := before } off word = before := by
  apply List.ext_getElem
  · simp [CodeStore.undo, h]
  · intro i _ hi
    have h4 : i < 4 := by omega
    simp [CodeStore.undo, CodeStore.covers, h, h4]

theorem earlierWords_word (off : Nat) {before : List Byte} (h : before.length = 4) (word : List Byte) (l : List CodeStore) :
    earlierWords off word ({ off := off, before := before } :: l) = before :: earlierWords off before l := by
  have hc : ((List.range 4).any fun i => CodeStore.covers { off := off, before := before } (off + i)) = true :=
    List.any_eq_true.2 ⟨0, by simp, by simp [CodeStore.covers, h]⟩
  rw [earlierWords, if_pos hc, undo_word off h]

/-- After an uncached word store in the base byte order a fetch of the word may give the stored word or the one before it. -/
theorem storedWords_afterStore (hm : Memory.wf s.mem = true) (hk : storeWf blankCode s.codeStores = true)
    (hb : dataBigEndian s = s.latches.bigEndian) (hc : holdsCopy s.dcache pa = false) (hn : pa.toNat % 8 + 4 ≤ 8)
    {old : HalfWord} (hold : Holds s pa 4 (old.setWidth 64)) (v : Word) (cached : Bool) :
    ∃ rest, storedWords (afterStore s pa 4 v) pa cached = v.extractLsb' 0 32 :: old :: rest := by
  have hlane : fetchLane s pa = busAddress s (laneKey (dataBigEndian s) pa.toNat 4) := by
    unfold fetchLane
    rw [hb]
  have hline : codeLineAt (afterStore s pa 4 v) pa = (codeLineAt s pa).stored (fetchLane s pa % 32)
      (readBytes (memView s) (fetchLane s pa) 4) := by
    change codeLineAt (noteStore s pa _ 4) pa = _
    rw [codeLineAt_noteStore pa pa _ 4 hk, ← hlane, if_pos rfl, programBytes_uncached hc, ← hlane]
  have hnew : programBytes (afterStore s pa 4 v) pa (laneKey s.latches.bigEndian pa.toNat 4) 4 = splitBytes 4 v := by
    rw [programBytes_uncached (s := afterStore s pa 4 v) hc]
    change readBytes (memView (enqueue s (uncachedWrite s pa 4 v))) (busAddress s (laneKey s.latches.bigEndian pa.toNat 4)) 4 = _
    rw [memView_enqueue, ← hb]
    have := readBytes_writeBytes (wf_memView hm) (busAddress s (laneKey (dataBigEndian s) pa.toNat 4)) (splitBytes 4 v)
    rwa [splitBytes_length] at this
  have hbefore : low32 (joinBytes (readBytes (memView s) (fetchLane s pa) 4)) = old := by
    rw [hlane, joinBytes_of_holds hn hold]
    exact BitVec.setWidth_setWidth_of_le _ (by decide)
  obtain ⟨l, hl⟩ := CodeLine.pending_stored (codeLineAt s pa) (fetchLane s pa % 32)
    (readBytes (memView s) (fetchLane s pa) 4) cached
  have hwords := earlierWords_word (fetchLane s pa % 32) (before := readBytes (memView s) (fetchLane s pa) 4)
    (by simp [readBytes]) (splitBytes 4 v) l
  rw [← hl, ← hline] at hwords
  rw [storedWords_of_earlierWords (s := afterStore s pa 4 v) hnew hwords, low32_joinBytes_splitBytes, hbefore]
  exact ⟨_, rfl⟩

end Store

/-! Hit Invalidate of the instruction cache (46_cp0.md R637). -/

section Invalidate

variable {s : State} {ea : Word} {pa : PAddr} {cca : BitVec 3}

/-- It touches the record of stores, the instruction cache, and what a hit of several ways notes. -/
theorem hitAt_inst (ht : Machine.translate s ea .load = .ok pa cca) (hcca : cca = 0 ∨ cca = 1 ∨ cca = 3) :
    ∃ c e n, hitAt s .inst ea false true = .ok () { noteInvalidate s pa with icache := c, cp0 := e, draws := n } := by
  have htr : cacheTranslate s ea = .ok pa s := by
    unfold cacheTranslate
    rw [ht]
    rcases hcca with rfl | rfl | rfl <;> rfl
  unfold hitAt findWay
  rw [htr, bind_of_ok]
  simp only [beq_self_eq_true, if_true]
  by_cases hh : hitWays (getCache (noteInvalidate s pa) .inst) pa = []
  · simp only [hh]
    exact ⟨_, _, _, rfl⟩
  · obtain ⟨w, -, n, hw⟩ := CacheHit.hitWay_mem (s := noteInvalidate s pa) (d := .inst) hh
    simp only [hw]
    split <;> exact ⟨_, _, _, rfl⟩

theorem exec_cache_hitInvalidate {base : RegNum} {offset : BitVec 16} (hu : cp0Usable s = true)
    (hw : s.cp0.errCtl.wst = false) (ht : Machine.translate s (gprRead s base + offset.signExtend 64) .load = .ok pa cca)
    (hcca : cca = 0 ∨ cca = 1 ∨ cca = 3) : ∃ c e n, exec (.cache base 16 offset) s
      = .next (advance { noteInvalidate s pa with icache := c, cp0 := e, draws := n }) := by
  obtain ⟨c, e, n, hi⟩ := hitAt_inst ht hcca
  refine ⟨c, e, n, ?_⟩
  change needCp0 s (finish (if s.cp0.errCtl.wst then cacheDiagnostic s .inst 4 (baseOffset s base offset)
    else hitAt s .inst (gprRead s base + offset.signExtend 64) false true)) = _
  rw [needCp0_of hu, hw, if_neg Bool.false_ne_true, hi]
  rfl

end Invalidate

/-- Settles O38: SYNC is written out; the recipe is followed on the record of stores, step by step. -/
theorem syncEmptiesTheWriteBuffer : Obligations.SyncEmptiesTheWriteBuffer := by
  intro s stype
  refine ⟨⟨_, exec_sync s stype, ?_⟩, fun hcan base rt offset pa cca => ⟨fun old hb hun hold => ?_, fun hd => ?_⟩⟩
  · rw [advance_noteSync_eq]
    exact ⟨rfl, fun _ => rfl, fun _ => rfl, fun _ => rfl, ⟨rfl, rfl⟩, rfl⟩
  · obtain ⟨hm, -, -, -, hk⟩ := Invariant.canonical_iff.1 hcan
    refine ⟨_, storeGpr_uncached hun, fun cached => ?_⟩
    have ⟨_, _, hc⟩ := hun
    rw [advance_eq]
    exact storedWords_afterStore hm hk hb hc (uncached_fits (by simp) hun) hold (gprRead s rt) cached
  · obtain ⟨-, -, -, -, hk⟩ := Invariant.canonical_iff.1 hcan
    refine ⟨_, exec_sync s stype, ?_, fun pa' key n hdis => ?_, fun hu hw ht hcca => ?_⟩
    · rw [storedWords_noteJump_advance]
      exact storedWords_after_sync_jump (s := drainAll s) hk hd
    · rw [storedWords_noteStore_advance]
      exact storedWords_noteStore_elsewhere (s := drainAll s) hk hd hdis
    · rw [advance_eq]
      obtain ⟨c, e, n, hi⟩ := exec_cache_hitInvalidate (s := { noteSync (drainAll s) with
        pc := (match s.delay with | some a => a | none => s.pc + 4), delay := none }) hu hw ht hcca
      refine ⟨_, hi, fun cached => ?_⟩
      rw [storedWords_noteJump_advance]
      exact (storedWords_noteJump_congr (s := noteInvalidate (noteSync (drainAll s)) pa) rfl rfl rfl rfl rfl pa cached).trans
        (storedWords_after_recipe (s := drainAll s) hk hd cached)

end Sys2Proof.Proofs.Sync
end

section
/-! The words of the instructions: encoding, then decoding, gives the instruction back, and a word that decodes is the word of
its instruction (30_encoding.md R300 to R318). -/

namespace Sys2Proof.Proofs.Encoding

open Sys2Proof.Laws

/-- An SLL has a word of its own where its fields are neither those of NOP nor those of SSNOP (R312), in the two tests of the
decoder. -/
theorem wellFormed_sll {rt rd sa : BitVec 5} : Instr.wellFormed (.sll rt rd sa) = true
    ↔ ¬ (rt == 0 && rd == 0 && sa == 0) = true ∧ ¬ (rt == 0 && rd == 0 && sa == 1) = true := by
  rw [Instr.wellFormed, Bool.and_or_distrib_left, Bool.not_or, Bool.and_eq_true, Bool.not_eq_true', Bool.not_eq_true',
    Bool.not_eq_true, Bool.not_eq_true]

/-! Decoding the words of an instruction, by the field that the encoder takes apart. An instruction whose fields are those of
the word as they are needs `decode_pack` only. -/

section Decode

variable {op fn : BitVec 6} {rs rt rd sa : BitVec 5} {cc : BitVec 3} {r : Reserved}

theorem decode_imm16 {imm : BitVec 16} {f : BitVec 16 → Instr}
    (h : ∀ rd sa fn, decodeFields op rs rt rd sa fn = .ok (f (imm16 rd sa fn))) :
    decode (pack op rs rt (sub5 imm 11) (sub5 imm 6) (sub6 imm 0)) = .ok (f imm) := by
  rw [decode_pack, h, imm16_sub]

theorem decode_imm26 {target : BitVec 26} {f : BitVec 26 → Instr}
    (h : ∀ rs rt rd sa fn, decodeFields op rs rt rd sa fn = .ok (f (imm26 rs rt rd sa fn))) :
    decode (pack op (sub5 target 21) (sub5 target 16) (sub5 target 11) (sub5 target 6) (sub6 target 0)) = .ok (f target) := by
  rw [decode_pack, h, imm26_sub]

theorem decode_code20 {code : BitVec 20} {f : BitVec 20 → Instr}
    (h : ∀ rs rt rd sa, decodeFields op rs rt rd sa fn = .ok (f (code20 rs rt rd sa))) :
    decode (pack op (sub5 code 15) (sub5 code 10) (sub5 code 5) (sub5 code 0) fn) = .ok (f code) := by
  rw [decode_pack, h, code20_sub]

theorem decode_code10 {code : BitVec 10} {f : BitVec 10 → Instr}
    (h : ∀ rd sa, decodeFields op rs rt rd sa fn = .ok (f (code10 rd sa))) :
    decode (pack op rs rt (sub5 code 5) (sub5 code 0) fn) = .ok (f code) := by
  rw [decode_pack, h, code10_sub]

/-- A condition code number in the rt field, with the two bits the row asks for after it. -/
theorem decode_ccRt {low : BitVec 2} {f : BitVec 3 → Instr}
    (h : ∀ rt, low2 rt = low → decodeFields op rs rt rd sa fn = .ok (f (cc3 rt))) :
    decode (pack op rs (ccLow cc low) rd sa fn) = .ok (f cc) := by
  rw [decode_pack, h _ (low2_ccLow cc low), cc3_ccLow]

/-- A condition code number in the sa field. -/
theorem decode_ccSa {f : BitVec 3 → Instr}
    (h : ∀ sa, decodeFields op rs rt rd sa fn = need (low2 sa == 0) r (f (cc3 sa))) :
    decode (pack op rs rt rd (ccLow cc 0) fn) = .ok (f cc) := by
  rw [decode_pack, h, low2_ccLow, cc3_ccLow]
  rfl

/-- The select field of a move of coprocessor 0. -/
theorem decode_sel {sel : BitVec 3} {f : BitVec 3 → Instr}
    (h : ∀ fn, decodeFields op rs rt rd sa fn = need (high3 fn == 0) r (f (sel3 fn))) :
    decode (pack op rs rt rd sa (selFn sel)) = .ok (f sel) := by
  rw [decode_pack, h, high3_selFn, sel3_selFn]
  rfl

/-- A branch on an FPU condition: the condition code number, and the offset. -/
theorem decode_bc1 {low : BitVec 2} {offset : BitVec 16} {f : BitVec 3 → BitVec 16 → Instr}
    (h : ∀ rt rd sa fn, low2 rt = low → decodeBc1 rt rd sa fn = .ok (f (cc3 rt) (imm16 rd sa fn))) :
    decode (pack 17 8 (ccLow cc low) (sub5 offset 11) (sub5 offset 6) (sub6 offset 0)) = .ok (f cc offset) := by
  refine (decode_pack ..).trans ((h _ _ _ _ (low2_ccLow cc low)).trans ?_)
  rw [cc3_ccLow, imm16_sub]

theorem decode_wait (code : BitVec 19) : decode (encode (.wait code)) = .ok (.wait code) := by
  refine (decode_pack ..).trans ((if_pos (coWait_msb code)).trans ?_)
  exact congrArg (fun c => Except.ok (Instr.wait c)) (code19_sub code)

theorem decode_sll (h : Instr.wellFormed (.sll rt rd sa) = true) : decode (encode (.sll rt rd sa)) = .ok (.sll rt rd sa) := by
  obtain ⟨hnop, hssnop⟩ := wellFormed_sll.1 h
  refine (decode_pack ..).trans ?_
  exact (if_neg hnop).trans (if_neg hssnop)

end Decode

/-- Settles O6, by the fields that the encoder takes apart. -/
theorem decodeOfEncode : Obligations.DecodeOfEncode := by
  intro i h
  cases i
  case sll => exact decode_sll h
  case wait code => exact decode_wait code
  case j | jal => exact decode_imm26 fun _ _ _ _ _ => rfl
  case syscall | breakpoint | sdbbp => exact decode_code20 fun _ _ _ _ => rfl
  case tge | tgeu | tlt | tltu | teq | tne => exact decode_code10 fun _ _ => rfl
  case addi | addiu | daddi | daddiu | slti | sltiu | andi | ori | xori | lui | tgei | tgeiu | tlti | tltiu | teqi | tnei
      | beq | bne | blez | bgtz | bltz | bgez | bltzal | bgezal | beql | bnel | blezl | bgtzl | bltzl | bgezl | bltzall
      | bgezall | lb | lbu | lh | lhu | lw | lwu | ld | lwl | lwr | ldl | ldr | swl | swr | sdl | sdr | sb | sh | sw | sd
      | ll | lld | sc | scd | pref | cache | lwc1 | swc1 | ldc1 | sdc1 =>
    exact decode_imm16 fun _ _ _ => rfl
  case bc1t | bc1f | bc1tl | bc1fl => exact decode_bc1 fun _ _ _ _ h => by rw [decodeBc1, h]; rfl
  case movt | movtS | movtD =>
    apply decode_ccRt
    intro _ h
    exact if_pos (by simp [h])
  case movf | movfS | movfD =>
    apply decode_ccRt
    intro _ h
    exact (if_neg (by simp [h])).trans (if_pos (by simp [h]))
  case mfc0 | mtc0 | dmfc0 | dmtc0 => exact decode_sel fun _ => rfl
  case cFS | cFD | cUnS | cUnD | cEqS | cEqD | cUeqS | cUeqD | cOltS | cOltD | cUltS | cUltD | cOleS | cOleD | cUleS | cUleD
      | cSfS | cSfD | cNgleS | cNgleD | cSeqS | cSeqD | cNglS | cNglD | cLtS | cLtD | cNgeS | cNgeD | cLeS | cLeD | cNgtS
      | cNgtD =>
    exact decode_ccSa fun _ => rfl
  all_goals exact decode_pack ..

/-! A word from the fields that the decoder has put together. -/

section Pack

variable (op fn : BitVec 6) {rs : BitVec 5} (rt rd sa : BitVec 5)

theorem pack_imm16 (rs : BitVec 5) :
    pack op rs rt (sub5 (imm16 rd sa fn) 11) (sub5 (imm16 rd sa fn) 6) (sub6 (imm16 rd sa fn) 0) = pack op rs rt rd sa fn := by
  congr 1 <;> ext k hk <;> simp only [imm16, sub5, sub6, BitVec.getElem_extractLsb', BitVec.getLsbD_append] <;> grind

theorem pack_imm26 (rs : BitVec 5) :
    pack op (sub5 (imm26 rs rt rd sa fn) 21) (sub5 (imm26 rs rt rd sa fn) 16) (sub5 (imm26 rs rt rd sa fn) 11)
      (sub5 (imm26 rs rt rd sa fn) 6) (sub6 (imm26 rs rt rd sa fn) 0) = pack op rs rt rd sa fn := by
  congr 1 <;> ext k hk <;> simp only [imm26, sub5, sub6, BitVec.getElem_extractLsb', BitVec.getLsbD_append] <;> grind

theorem pack_code20 (rs : BitVec 5) :
    pack op (sub5 (code20 rs rt rd sa) 15) (sub5 (code20 rs rt rd sa) 10) (sub5 (code20 rs rt rd sa) 5)
      (sub5 (code20 rs rt rd sa) 0) fn = pack op rs rt rd sa fn := by
  congr 1 <;> ext k hk <;> simp only [code20, sub5, BitVec.getElem_extractLsb', BitVec.getLsbD_append] <;> grind

theorem pack_code10 (rs : BitVec 5) :
    pack op rs rt (sub5 (code10 rd sa) 5) (sub5 (code10 rd sa) 0) fn = pack op rs rt rd sa fn := by
  congr 1 <;> ext k hk <;> simp only [code10, sub5, BitVec.getElem_extractLsb', BitVec.getLsbD_append] <;> grind

/-- The code of WAIT leaves the CO bit out, which is 1 (R309). -/
theorem pack_code19 (h : rs.msb = true) :
    pack op (coWait (code19 rs rt rd sa)) (sub5 (code19 rs rt rd sa) 10) (sub5 (code19 rs rt rd sa) 5)
      (sub5 (code19 rs rt rd sa) 0) fn = pack op rs rt rd sa fn := by
  rw [BitVec.msb_eq_getLsbD_last] at h
  congr 1 <;> ext k hk <;> simp only [code19, coWait, sub5, BitVec.getElem_extractLsb', BitVec.getLsbD_append] <;> grind

end Pack

theorem ccLow_split : ∀ x : BitVec 5, ccLow (cc3 x) (low2 x) = x := by decide

theorem ccLow_cc3 {x : BitVec 5} {low : BitVec 2} (h : (low2 x == low) = true) : ccLow (cc3 x) low = x :=
  eq_of_beq h ▸ ccLow_split x

theorem selFn_sel3 : ∀ fn : BitVec 6, high3 fn = 0 → selFn (sel3 fn) = fn := by decide

theorem eq_three_of_ne : ∀ x : BitVec 2, x ≠ 0 → x ≠ 1 → x ≠ 2 → x = 3 := by decide

/-! What the decoder may answer. -/

/-- Why a word of this opcode and function is reserved, if it is (R315, R316, R319, R323). -/
def reservedAs (op fn : BitVec 6) : Reserved :=
  if op = 0 ∧ fn = 1 then .movci
  else if op = 16 then .cop0
  else if op = 17 ∨ op = 19 then .cop1
  else if op = 18 ∨ op = 50 ∨ op = 54 ∨ op = 58 ∨ op = 62 then .cop2
  else .integer

/-- An answer of the decoder is right for the word `w`: an instruction whose word it is, or that it is reserved as `r`. -/
def Answers (w : HalfWord) (r : Reserved) : Except Reserved Instr → Prop
  | .ok i => i.wellFormed = true ∧ encode i = w
  | .error e => e = r

section Rows

variable {w : HalfWord} {c : Bool} {r : Reserved} {i : Instr} {x y : Except Reserved Instr}

theorem answers_ite (hx : c = true → Answers w r x) (hy : ¬ c = true → Answers w r y) :
    Answers w r (if c then x else y) := by
  split
  · next h => exact hx h
  · next h => exact hy h

/-- A row with fixed fields. -/
theorem answers_need (hw : i.wellFormed = true) (he : c = true → encode i = w) : Answers w r (need c r i) :=
  answers_ite (fun h => ⟨hw, he h⟩) fun _ => rfl

end Rows

/-! The decoder of each opcode, row by row. The rows named are those with a field of several parts, or without a fixed field;
the last one is the case of no row, and the others have fixed fields that the test says. -/

section Opcodes

variable (rs rt rd sa : BitVec 5) (fn : BitVec 6)

theorem answers_special : Answers (pack 0 rs rt rd sa fn) (reservedAs 0 fn) (decodeSpecial rs rt rd sa fn) := by
  unfold decodeSpecial
  split
  case h_1 => -- NOP, SSNOP, SLL
    refine answers_ite (fun hrs => ?_) fun _ => rfl
    obtain rfl := eq_of_beq hrs
    refine answers_ite (fun h => ?_) fun hnop => answers_ite (fun h => ?_)
      fun hssnop => ⟨wellFormed_sll.2 ⟨hnop, hssnop⟩, rfl⟩
    all_goals
      simp only [Bool.and_eq_true, beq_iff_eq] at h
      obtain ⟨⟨rfl, rfl⟩, rfl⟩ := h
      exact ⟨rfl, rfl⟩
  case h_2 => -- MOVT, MOVF
    have word {low : BitVec 2} (h : (sa == 0 && low2 rt == low) = true) :
        pack 0 rs (ccLow (cc3 rt) low) rd 0 1 = pack 0 rs rt rd sa 1 := by
      rw [Bool.and_eq_true] at h
      rw [ccLow_cc3 h.2, eq_of_beq h.1]
    exact answers_ite (fun h => ⟨rfl, word h⟩) fun _ => answers_need rfl word
  case h_12 | h_13 => exact ⟨rfl, pack_code20 ..⟩ -- SYSCALL, BREAK
  case h_44 | h_45 | h_46 | h_47 | h_48 | h_49 => exact ⟨rfl, pack_code10 ..⟩ -- the traps
  case h_56 => exact (if_neg fun h => absurd h.2 ‹fn ≠ 1›).symm
  all_goals
    refine answers_need rfl fun h => ?_
    simp only [Bool.and_eq_true, beq_iff_eq] at h
    simp only [h]
    rfl

theorem answers_special2 : Answers (pack 28 rs rt rd sa fn) .integer (decodeSpecial2 rs rt rd sa fn) := by
  unfold decodeSpecial2
  split
  case h_10 => exact ⟨rfl, pack_code20 ..⟩ -- SDBBP
  case h_11 => rfl
  all_goals
    refine answers_need rfl fun h => ?_
    simp only [Bool.and_eq_true, beq_iff_eq] at h
    simp only [h]
    rfl

theorem answers_regimm : Answers (pack 1 rs rt rd sa fn) .integer (decodeRegimm rs rt rd sa fn) := by
  unfold decodeRegimm
  split
  case h_15 => rfl
  all_goals exact ⟨rfl, pack_imm16 ..⟩

theorem answers_cop1x : Answers (pack 19 rs rt rd sa fn) .cop1 (decodeCop1x rs rt rd sa fn) := by
  unfold decodeCop1x
  split
  case h_8 | h_9 | h_10 | h_11 | h_12 | h_13 | h_14 | h_15 => exact ⟨rfl, rfl⟩ -- the MADD family
  case h_16 => rfl
  all_goals exact answers_need rfl fun h => eq_of_beq h ▸ rfl

theorem answers_cop0Op (hco : rs.msb = true) : Answers (pack 16 rs rt rd sa fn) .cop0 (decodeCop0Op rs rt rd sa fn) := by
  unfold decodeCop0Op
  split
  case h_7 => exact ⟨rfl, pack_code19 _ _ _ _ _ hco⟩ -- WAIT
  case h_8 => rfl
  all_goals
    refine answers_need rfl fun h => ?_
    simp only [Bool.and_eq_true, beq_iff_eq] at h
    simp only [h]
    rfl

theorem answers_cop0Move : Answers (pack 16 rs rt rd sa fn) .cop0 (decodeCop0Move rs rt rd sa fn) := by
  unfold decodeCop0Move
  split
  case h_5 => rfl
  all_goals
    refine answers_need rfl fun h => ?_
    rw [Bool.and_eq_true, beq_iff_eq, beq_iff_eq] at h
    rw [encode, selFn_sel3 fn h.2, h.1]
    rfl

theorem answers_cop0 : Answers (pack 16 rs rt rd sa fn) .cop0 (decodeCop0 rs rt rd sa fn) :=
  answers_ite (answers_cop0Op rs rt rd sa fn) fun _ => answers_cop0Move rs rt rd sa fn

/-- Formats S and D have the same rows, but for the conversions between them. -/
theorem answers_fmt : Answers (pack 17 16 rt rd sa fn) .cop1 (decodeFmtS rt rd sa fn)
    ∧ Answers (pack 17 17 rt rd sa fn) .cop1 (decodeFmtD rt rd sa fn) := by
  unfold decodeFmtS decodeFmtD
  refine ⟨?_, ?_⟩ <;>
  · split
    case h_1 | h_2 | h_3 | h_4 | h_18 | h_19 => exact ⟨rfl, rfl⟩ -- ADD, SUB, MUL, DIV, MOVZ, MOVN
    case h_17 => -- MOVT, MOVF
      exact answers_ite (fun h => ⟨rfl, congrArg (pack 17 _ · rd sa _) (ccLow_cc3 h)⟩)
        fun _ => answers_need rfl fun h => congrArg (pack 17 _ · rd sa _) (ccLow_cc3 h)
    case h_24 | h_25 | h_26 | h_27 | h_28 | h_29 | h_30 | h_31 | h_32 | h_33 | h_34 | h_35 | h_36 | h_37 | h_38
        | h_39 => -- the compares
      exact answers_need rfl fun h => congrArg (pack 17 _ rt rd · _) (ccLow_cc3 h)
    case h_40 => rfl
    all_goals exact answers_need rfl fun h => eq_of_beq h ▸ rfl

theorem answers_fixed : Answers (pack 17 20 rt rd sa fn) .cop1 (decodeFmtW rt rd sa fn)
    ∧ Answers (pack 17 21 rt rd sa fn) .cop1 (decodeFmtL rt rd sa fn) := by
  unfold decodeFmtW decodeFmtL
  refine ⟨?_, ?_⟩ <;>
  · split
    case h_3 => rfl
    all_goals exact answers_need rfl fun h => eq_of_beq h ▸ rfl

theorem answers_bc1 : Answers (pack 17 8 rt rd sa fn) .cop1 (decodeBc1 rt rd sa fn) := by
  have word {low : BitVec 2} (h : low2 rt = low) : pack 17 8 (ccLow (cc3 rt) low) (sub5 (imm16 rd sa fn) 11)
      (sub5 (imm16 rd sa fn) 6) (sub6 (imm16 rd sa fn) 0) = pack 17 8 rt rd sa fn := by
    rw [pack_imm16, ccLow_cc3 (beq_iff_eq.2 h)]
  unfold decodeBc1
  split
  case h_4 => exact ⟨rfl, word (eq_three_of_ne _ ‹_› ‹_› ‹_›)⟩
  all_goals exact ⟨rfl, word ‹_›⟩

theorem answers_cop1Move : Answers (pack 17 rs rt rd sa fn) .cop1 (decodeCop1Move rs rt rd sa fn) := by
  unfold decodeCop1Move
  split
  case h_7 => rfl
  all_goals
    refine answers_need rfl fun h => ?_
    simp only [Bool.and_eq_true, beq_iff_eq] at h
    simp only [h]
    rfl

theorem answers_cop1 : Answers (pack 17 rs rt rd sa fn) .cop1 (decodeCop1 rs rt rd sa fn) := by
  unfold decodeCop1
  split
  case h_1 => exact answers_bc1 ..
  case h_2 => exact (answers_fmt ..).1
  case h_3 => exact (answers_fmt ..).2
  case h_4 => exact (answers_fixed ..).1
  case h_5 => exact (answers_fixed ..).2
  case h_6 => exact answers_cop1Move ..

theorem answers_fields (op : BitVec 6) :
    Answers (pack op rs rt rd sa fn) (reservedAs op fn) (decodeFields op rs rt rd sa fn) := by
  unfold decodeFields
  split
  case h_1 => exact answers_special ..
  case h_2 => exact answers_regimm ..
  case h_3 => exact answers_cop0 ..
  case h_4 => exact answers_cop1 ..
  case h_6 => exact answers_cop1x ..
  case h_7 => exact answers_special2 ..
  case h_5 | h_8 | h_9 | h_10 | h_11 => rfl -- the absent coprocessor 2
  case h_12 | h_13 => exact ⟨rfl, pack_imm26 ..⟩ -- J, JAL
  case h_16 | h_17 | h_25 | h_28 | h_29 => -- BLEZ, BGTZ, LUI, BLEZL, BGTZL
    exact answers_need rfl fun h => eq_of_beq h ▸ pack_imm16 ..
  case h_61 => simp_all [Answers, reservedAs]
  all_goals exact ⟨rfl, pack_imm16 ..⟩

end Opcodes

theorem answers_decode (w : HalfWord) : Answers w (reservedAs (opField w) (fnField w)) (decode w) := by
  have h := answers_fields (rsField w) (rtField w) (rdField w) (saField w) (fnField w) (opField w)
  rwa [pack_split] at h

/-- A word without an instruction is reserved for the reason its opcode and function give. -/
theorem decode_reserved {w : HalfWord} (h : ∀ i, decode w ≠ .ok i) :
    decode w = .error (reservedAs (opField w) (fnField w)) := by
  have ha := answers_decode w
  cases hd : decode w with
  | ok i => exact absurd hd (h i)
  | error e =>
    rw [hd] at ha
    exact congrArg _ ha

/-- Settles O7: what the decoder answers is right for the word, opcode by opcode. -/
theorem encodeOfDecode : Obligations.EncodeOfDecode := by
  intro w i h
  have ha := answers_decode w
  rwa [h] at ha

end Sys2Proof.Proofs.Encoding
end

section
/-! The tests that come before an instruction (30_encoding.md R319 to R321; 60_exceptions.md R811): coprocessor 1 is not usable,
or the MIPS-64 level is not available; and the instructions that do nothing (43_branch_jump_nop.md R525, R526; 44_load_store.md
R570, R571). -/

namespace Sys2Proof.Proofs.Availability

open Sys2Proof.Machine Sys2Proof.Laws Sys2Proof.Claims

theorem raises_ri (s : State) : Raises s (raise .ri s) 10 := raises_plain (e := .ri) rfl s

/-- Settles O27: each of the four is the end of an instruction, PREFX behind the test of coprocessor 1. -/
theorem instructionsWithoutEffect : Obligations.InstructionsWithoutEffect := by
  refine ⟨rfl, rfl, fun s base index hint offset =>
    ⟨doesNothing_done s, doesNothing_done s, doesNothing_done s, fun hcu => ?_⟩⟩
  change DoesNothing s (needCu1 s (done s))
  rw [needCu1_of hcu]
  exact doesNothing_done s

/-! Coprocessor 1 is not usable. -/

section Cop1

variable {s : State} (hcu : s.cp0.status.cu1 = false)
include hcu

theorem raisesCpu_needCu1 (k : Out) : RaisesCpu s (needCu1 s k) 1 := by
  rw [needCu1, hcu, if_neg Bool.false_ne_true]
  exact raisesCpu_raise 1 s

/-- A conditional move makes the test in both of its cases. -/
theorem raisesCpu_moveFpIf (f : Fmt) (fs fd : RegNum) (c : Bool) : RaisesCpu s (moveFpIf s f fs fd c) 1 := by
  cases c <;> exact raisesCpu_needCu1 hcu _

end Cop1

/-- The opcode and function of an instruction of coprocessor 1 (R319). -/
def usesCop1 (op fn : BitVec 6) : Bool :=
  op == 17 || op == 19 || op == 49 || op == 53 || op == 57 || op == 61 || (op == 0 && fn == 1)

theorem usesCop1_pack (op : BitVec 6) (rs rt rd sa : BitVec 5) (fn : BitVec 6) :
    usesCop1 (opField (pack op rs rt rd sa fn)) (fnField (pack op rs rt rd sa fn)) = usesCop1 op fn := by
  obtain ⟨hop, -, -, -, -, hfn⟩ := field_pack op rs rt rd sa fn
  rw [hop, hfn]

/-- The meaning of every instruction of coprocessor 1 begins with the test; the others have other opcodes. -/
theorem raisesCpu_exec {s : State} {i : Instr} (hcu : s.cp0.status.cu1 = false)
    (h : usesCop1 (opField (encode i)) (fnField (encode i)) = true) : RaisesCpu s (exec i s) 1 := by
  cases i
  case movtS | movtD | movfS | movfD | movnS | movnD | movzS | movzD => exact raisesCpu_moveFpIf hcu ..
  case movt | movf | lwc1 | swc1 | ldc1 | sdc1 | luxc1 | suxc1 | lwxc1 | swxc1 | ldxc1 | sdxc1 | prefx | mtc1 | mfc1 | dmtc1
      | dmfc1 | cfc1 | ctc1 | bc1t | bc1f | bc1tl | bc1fl | addS | addD | subS | subD | mulS | mulD | divS | divD | absS | absD
      | negS | negD | sqrtS | sqrtD | recipS | recipD | maddS | maddD | msubS | msubD | nmaddS | nmaddD | nmsubS | nmsubD
      | movS | movD | cvtSD | cvtSW | cvtSL | cvtDS | cvtDW | cvtDL | cvtWS | cvtWD | cvtLS | cvtLD | roundWS | roundWD
      | truncWS | truncWD | ceilWS | ceilWD | floorWS | floorWD | roundLS | roundLD | truncLS | truncLD | ceilLS | ceilLD
      | floorLS | floorLD | cFS | cFD | cUnS | cUnD | cEqS | cEqD | cUeqS | cUeqD | cOltS | cOltD | cUltS | cUltD | cOleS
      | cOleD | cUleS | cUleD | cSfS | cSfD | cNgleS | cNgleD | cSeqS | cSeqD | cNglS | cNglD | cLtS | cLtD | cNgeS | cNgeD
      | cLeS | cLeD | cNgtS | cNgtD =>
    exact raisesCpu_needCu1 hcu _
  all_goals exact absurd ((usesCop1_pack ..).symm.trans h) Bool.false_ne_true

/-- Settles O56: the opcodes of the statement are those of coprocessor 1. -/
theorem coprocessor1IsTestedFirst : Obligations.Coprocessor1IsTestedFirst := by
  intro s i hcu w op h
  refine raisesCpu_exec hcu ?_
  change usesCop1 op (w.extractLsb' 0 6) = true
  simp only [usesCop1, Bool.or_eq_true, Bool.and_eq_true, beq_iff_eq, or_assoc]
  exact h

/-! The MIPS-64 level is not available. -/

theorem exec64_user32 {s : State} (h : User32 s) : exec64 s = false := by
  obtain ⟨hksu, hexl, herl, hux, hpx⟩ := h
  simp [exec64, currentMode, hksu, hexl, herl, hux, hpx]

section Exec64

variable {s : State} (hx : exec64 s = false) (k : Out)
include hx

theorem raises_need64 : Raises s (need64 s k) 10 := by
  rw [need64, hx, if_neg Bool.false_ne_true]
  exact raises_ri s

theorem raises_cp0_need64 (hcu : s.cp0.status.cu0 = true) : Raises s (needCp0 s (need64 s k)) 10 := by
  rw [needCp0_of (by simp [cp0Usable, hcu])]
  exact raises_need64 hx k

theorem raisesFpe_need64Arith (hcu : s.cp0.status.cu1 = true) : RaisesFpe s (needCu1 s (need64Arith s k)) 0b100000 := by
  rw [needCu1_of hcu, need64Arith, hx, if_neg Bool.false_ne_true]
  exact raisesFpe_signal _ s

theorem traps_need64Move (hcu : s.cp0.status.cu1 = true) :
    if s.conf.fpuMove64IsRi then Raises s (needCu1 s (need64Move s k)) 10
    else RaisesFpe s (needCu1 s (need64Move s k)) 0b100000 := by
  rw [needCu1_of hcu, need64Move, hx, if_neg Bool.false_ne_true]
  split
  · exact raises_ri s
  · exact raisesFpe_signal _ s

end Exec64

/-- Settles O57: the meaning of each instruction of a list begins with the same tests. -/
theorem mips64LevelNeedsExec64 : Obligations.Mips64LevelNeedsExec64 := by
  intro s a b c d sa sel imm hu
  have hx := exec64_user32 hu
  simp only [List.forall_mem_cons, List.not_mem_nil, false_imp_iff, implies_true, and_true]
  refine ⟨?_, fun hcu => ⟨raises_cp0_need64 hx _ hcu, raises_cp0_need64 hx _ hcu⟩, fun hcu => ?_, fun hcu => ?_⟩
  · and_intros
    all_goals exact raises_need64 hx _
  · and_intros
    all_goals exact raisesFpe_need64Arith hx _ hcu
  · and_intros
    all_goals exact traps_need64Move hx _ hcu

end Sys2Proof.Proofs.Availability
end

section
/-! What a step does at a word that is no instruction (30_encoding.md R315 to R323). -/

namespace Sys2Proof.Proofs.ReservedWords

open Sys2Proof.Machine Sys2Proof.Laws Sys2Proof.Claims Encoding Availability

/-! Why a word is reserved. -/

theorem reservedAs_movci {op fn : BitVec 6} (h : op = 0) (hf : fn = 1) : reservedAs op fn = .movci := if_pos ⟨h, hf⟩

theorem reservedAs_cop0 (fn : BitVec 6) : reservedAs 16 fn = .cop0 := rfl

theorem reservedAs_cop1 {op fn : BitVec 6} (h : op = 17 ∨ op = 19) : reservedAs op fn = .cop1 := by
  rcases h with rfl | rfl <;> rfl

theorem reservedAs_integer {op fn : BitVec 6}
    (h : op = 0 ∧ fn ≠ 1 ∨ op = 1 ∨ op = 6 ∨ op = 7 ∨ op = 15 ∨ op = 22 ∨ op = 23 ∨ op = 28) :
    reservedAs op fn = .integer := by
  rcases h with ⟨rfl, h⟩ | rfl | rfl | rfl | rfl | rfl | rfl | rfl
  · exact if_neg fun hf => h hf.2
  all_goals rfl

/-- The opcodes of the absent coprocessor 2 (R316). -/
theorem decode_cop2 {w : HalfWord}
    (h : opField w = 18 ∨ opField w = 50 ∨ opField w = 54 ∨ opField w = 58 ∨ opField w = 62) :
    decode w = .error .cop2 := by
  unfold decode
  rcases h with h | h | h | h | h <;> rw [h] <;> rfl

/-- The opcodes without a row (R315). -/
theorem decode_noRow {w : HalfWord} (h : opField w = 29 ∨ opField w = 30 ∨ opField w = 31 ∨ opField w = 59) :
    decode w = .error .integer := by
  unfold decode
  rcases h with h | h | h | h <;> rw [h] <;> rfl

/-- The opcodes of one row without fixed fields: each of their words is an instruction (R304). -/
def fullOpcodes : List (BitVec 6) :=
  [2, 3, 4, 5, 8, 9, 10, 11, 12, 13, 14, 20, 21, 24, 25, 26, 27, 32, 33, 34, 35, 36, 37, 38, 39, 40, 41, 42, 43, 44, 45, 46, 47,
    48, 49, 51, 52, 53, 55, 56, 57, 60, 61, 63]

theorem mem_fullOpcodes : ∀ op : BitVec 6,
    op ∉ [(0 : BitVec 6), 1, 6, 7, 15, 16, 17, 18, 19, 22, 23, 28, 29, 30, 31, 50, 54, 58, 59, 62] → op ∈ fullOpcodes := by
  decide

theorem decodeFields_full (rs rt rd sa : BitVec 5) (fn : BitVec 6) :
    ∀ op ∈ fullOpcodes, ∃ i, decodeFields op rs rt rd sa fn = .ok i := by
  simp only [fullOpcodes, List.forall_mem_cons, List.not_mem_nil, false_imp_iff, implies_true, and_true]
  and_intros
  all_goals exact ⟨_, rfl⟩

/-! What each reason does. -/

theorem execReserved_next (r : Reserved) (s : State) : ∃ u, execReserved r s = .next u := by
  cases r <;> simp only [execReserved, needCu1, needCp0, signalFpe, raise] <;> repeat' split
  all_goals exact ⟨_, rfl⟩

theorem execReserved_cop0 (s : State) :
    if currentMode s = .kernel ∨ s.cp0.status.cu0 = true then Raises s (execReserved .cop0 s) 10
    else RaisesCpu s (execReserved .cop0 s) 0 := by
  have husable : cp0Usable s = true ↔ currentMode s = .kernel ∨ s.cp0.status.cu0 = true := by simp [cp0Usable]
  split
  · next h =>
    rw [execReserved, needCp0_of (husable.2 h)]
    exact raises_ri s
  · next h =>
    rw [execReserved, needCp0, if_neg (mt husable.1 h)]
    exact raisesCpu_raise 0 s

theorem execReserved_cop1 (s : State) :
    if s.cp0.status.cu1 = false then RaisesCpu s (execReserved .cop1 s) 1
    else if s.conf.unimplFpuIsFpe = true then RaisesFpe s (execReserved .cop1 s) 0b100000
    else Raises s (execReserved .cop1 s) 10 := by
  split
  · next h => exact raisesCpu_needCu1 h _
  · next h =>
    rw [execReserved, needCu1_of (Bool.eq_true_of_not_eq_false h)]
    split
    · exact raisesFpe_signal _ s
    · exact raises_ri s

theorem execReserved_movci (s : State) :
    if s.cp0.status.cu1 = false then RaisesCpu s (execReserved .movci s) 1 else Raises s (execReserved .movci s) 10 := by
  split
  · next h => exact raisesCpu_needCu1 h _
  · next h =>
    rw [execReserved, needCu1_of (Bool.eq_true_of_not_eq_false h)]
    exact raises_ri s

/-! The step. -/

/-- Where nothing comes before the instruction, the step at a reserved word does what its reason says. -/
theorem step_of_reserved {s t : State} {w : HalfWord} {r : Reserved} (h : Ready s) (hf : fetchWord s s.pc = .ok w t)
    (hd : decode w = .error r) : step s = atBoundary (execReserved r t) := by
  obtain ⟨hreset, hlate, hnmi, hawake, hint, hmode⟩ := h
  have hsettle : ∀ o, settle s o = o := fun o => by simp [settle, hlate]
  have hnext : nextAction s = .over (execReserved r t) := by
    simp [nextAction, awakeAction, fetchInstr, lateErrorDue, hreset, hlate, hnmi, hawake, hint, hmode, hf, hd, hsettle]
  unfold step runStep
  rw [hnext]

/-- Settles O11: the decoder gives the reason, and the reason what the step does. -/
theorem reservedWordsTrap : Obligations.ReservedWordsTrap := by
  intro s t w hready hf op fn reserved
  have traps {r : Reserved} (hd : decode w = .error r) :
      ∃ u, step s = .next (boundary u) ∧ execReserved r t = .next u := by
    obtain ⟨u, hu⟩ := execReserved_next r t
    exact ⟨u, by rw [step_of_reserved hready hf hd, hu]; rfl, hu⟩
  have trapsAs {r : Reserved} (h : reserved) (hr : reservedAs op fn = r) := traps (hr ▸ decode_reserved h)
  refine ⟨fun h => ?_, fun h => ?_, fun h hres => ?_, fun h hres => ?_, fun h hres => ?_, fun h hfn hres => ?_,
    fun h => decodeFields_full _ _ _ _ _ op (mem_fullOpcodes op h)⟩
  · obtain ⟨u, hs, hu⟩ := traps (decode_cop2 h)
    exact ⟨u, hs, hu ▸ raisesCpu_raise 2 t⟩
  · obtain ⟨u, hs, hu⟩ := traps (decode_noRow h)
    exact ⟨u, hs, hu ▸ raises_ri t⟩
  · obtain ⟨u, hs, hu⟩ := trapsAs hres (reservedAs_integer h)
    exact ⟨u, hs, hu ▸ raises_ri t⟩
  · obtain ⟨u, hs, hu⟩ := trapsAs hres (h ▸ reservedAs_cop0 fn)
    exact ⟨u, hs, hu ▸ execReserved_cop0 t⟩
  · obtain ⟨u, hs, hu⟩ := trapsAs hres (reservedAs_cop1 h)
    exact ⟨u, hs, hu ▸ execReserved_cop1 t⟩
  · obtain ⟨u, hs, hu⟩ := trapsAs hres (reservedAs_movci h hfn)
    exact ⟨u, hs, hu ▸ execReserved_movci t⟩

end Sys2Proof.Proofs.ReservedWords
end

section
/-! The integer arithmetic instructions (40_integer_arithmetic.md R400 to R433): how each kind of instruction ends, then the
value that each one ends with. -/

namespace Sys2Proof.Proofs.IntArith

open Sys2Proof.Machine Sys2Proof.Laws Sys2Proof.Claims

/-! The operands of a 32-bit operation. -/

theorem isWord_iff (v : Word) : isWord v = true ↔ v = (v.extractLsb' 0 32).signExtend 64 := by
  rw [isWord, beq_iff_eq, low32_eq, sext32]

theorem strictMiss_eq_false_iff (s : State) (srcs : List RegNum) : strictMiss s srcs = false ↔ WordsOk s srcs := by
  simp only [strictMiss, WordsOk, Bool.and_eq_false_iff, List.any_eq_false, Bool.not_eq_true', Bool.not_eq_false, isWord_iff]

theorem strictMiss_eq_true_iff (s : State) (srcs : List RegNum) : strictMiss s srcs = true ↔ ¬ WordsOk s srcs := by
  rw [← strictMiss_eq_false_iff, Bool.not_eq_false]

/-! The ends of the instructions. -/

section Ends

variable {s : State} {srcs : List RegNum} {rd : RegNum} {v : Word}

theorem doneWord_of_wordsOk (h : WordsOk s srcs) : doneWord s srcs rd v = doneGpr s rd v := by
  rw [doneWord, (strictMiss_eq_false_iff s srcs).2 h, if_neg Bool.false_ne_true]

theorem doneWord_of_not_wordsOk (h : ¬ WordsOk s srcs) : doneWord s srcs rd v = doneGpr (spend 1 s) rd (freeWord s 0) := by
  rw [doneWord, (strictMiss_eq_true_iff s srcs).2 h, if_pos rfl]

theorem writesWord_doneWord (s : State) (srcs : List RegNum) (rd : RegNum) (v : Word) :
    WritesWord s (doneWord s srcs rd v) srcs rd v := by
  refine ⟨fun h => ?_, fun h => ?_⟩
  · rw [doneWord_of_wordsOk h]
    exact writesGpr_doneGpr s rd v
  · rw [doneWord_of_not_wordsOk h]
    obtain ⟨t, ht, hr⟩ := writesGpr_doneGpr (spend 1 s) rd (freeWord s 0)
    exact ⟨t, _, _, ht, hr⟩

theorem writesGpr_need64 (hx : exec64 s = true) (rd : RegNum) (v : Word) : WritesGpr s (need64 s (doneGpr s rd v)) rd v := by
  rw [need64_of hx]
  exact writesGpr_doneGpr s rd v

theorem freesHiLo_doneHiLoFree (s : State) : FreesHiLo s (doneHiLoFree s) :=
  ⟨_, _, _, writesHiLo_done (spend 2 s) (freeWord s 0) (freeWord s 1)⟩

theorem writesHiLoWord_doneHiLo32 (s : State) (srcs : List RegNum) (h l : HalfWord) :
    WritesHiLoWord s (doneHiLo32 s srcs h l) srcs (h.signExtend 64) (l.signExtend 64) := by
  refine ⟨fun hw => ?_, fun hw => ?_⟩
  · rw [doneHiLo32, (strictMiss_eq_false_iff s srcs).2 hw, if_neg Bool.false_ne_true]
    exact writesHiLo_done s (sext32 h) (sext32 l)
  · rw [doneHiLo32, (strictMiss_eq_true_iff s srcs).2 hw, if_pos rfl]
    exact freesHiLo_doneHiLoFree s

theorem writesHiLoWord_doneProduct32 (s : State) (srcs : List RegNum) (p : Word) :
    WritesHiLoWord s (doneProduct32 s srcs p) srcs ((p.extractLsb' 32 32).signExtend 64) ((low32 p).signExtend 64) :=
  writesHiLoWord_doneHiLo32 s srcs _ _

theorem writesHiLo_need64 (hx : exec64 s = true) (p : BitVec 128) :
    WritesHiLo s (need64 s (doneHiLo64 s p)) (p.extractLsb' 64 64) (p.extractLsb' 0 64) := by
  rw [need64_of hx]
  exact writesHiLo_done s _ _

end Ends

/-! Signed overflow (R400). -/

section Overflow

variable {s : State} {overflows : Bool}

theorem writesWord_unless_overflow (h : overflows = false) (srcs : List RegNum) (rd : RegNum) (v : Word) :
    WritesWord s (if overflows then raise .ov s else doneWord s srcs rd v) srcs rd v := by
  rw [h, if_neg Bool.false_ne_true]
  exact writesWord_doneWord s srcs rd v

theorem writesGpr_unless_overflow (hx : exec64 s = true) (h : overflows = false) (rd : RegNum) (v : Word) :
    WritesGpr s (need64 s (if overflows then raise .ov s else doneGpr s rd v)) rd v := by
  rw [h, if_neg Bool.false_ne_true]
  exact writesGpr_need64 hx rd v

theorem raises_overflow (h : overflows = true) (k : Out) : Raises s (if overflows then raise .ov s else k) 12 := by
  rw [if_pos h]
  exact raises_plain (e := .ov) rfl s

theorem raises_overflow64 (hx : exec64 s = true) (h : overflows = true) (k : Out) :
    Raises s (need64 s (if overflows then raise .ov s else k)) 12 := by
  rw [need64_of hx]
  exact raises_overflow h k

variable {n : Nat} {a b : BitVec n}

theorem addOverflows_of_not_fits (hn : 0 < n) (h : ¬ Fits n (a.toInt + b.toInt)) : addOverflows a b = true :=
  Bool.eq_true_of_not_eq_false (mt (addOverflows_iff hn a b).1 h)

theorem subOverflows_of_not_fits (hn : 0 < n) (h : ¬ Fits n (a.toInt - b.toInt)) : subOverflows a b = true :=
  Bool.eq_true_of_not_eq_false (mt (subOverflows_iff hn a b).1 h)

end Overflow

/-- Settles O12: every form ends as a word instruction, the trapping ones behind the test that they pass. -/
theorem wordSumsAndDifferences : Obligations.WordSumsAndDifferences := by
  intro s rs rt rd imm
  simp only [← low32_eq, ← low32_sext16]
  exact ⟨writesWord_doneWord .., writesWord_doneWord .., writesWord_doneWord ..,
    fun h => writesWord_unless_overflow ((addOverflows_iff (by decide) _ _).2 h) ..,
    fun h => writesWord_unless_overflow ((subOverflows_iff (by decide) _ _).2 h) ..,
    fun h => writesWord_unless_overflow ((addOverflows_iff (by decide) _ _).2 h) ..⟩

/-- Settles O13, as O12, behind the test of the MIPS-64 level. -/
theorem doublewordSumsAndDifferences : Obligations.DoublewordSumsAndDifferences := by
  intro s rs rt rd imm hx
  exact ⟨writesGpr_need64 hx .., writesGpr_need64 hx .., writesGpr_need64 hx ..,
    fun h => writesGpr_unless_overflow hx ((addOverflows_iff (by decide) _ _).2 h) ..,
    fun h => writesGpr_unless_overflow hx ((subOverflows_iff (by decide) _ _).2 h) ..,
    fun h => writesGpr_unless_overflow hx ((addOverflows_iff (by decide) _ _).2 h) ..⟩

/-- Settles O14: the test of each form is that the exact result does not fit. -/
theorem signedOverflowRaisesOv : Obligations.SignedOverflowRaisesOv := by
  intro s rs rt rd imm
  simp only [← low32_eq, ← low32_sext16]
  exact ⟨fun h => raises_overflow (addOverflows_of_not_fits (by decide) h) _,
    fun h => raises_overflow (subOverflows_of_not_fits (by decide) h) _,
    fun h => raises_overflow (addOverflows_of_not_fits (by decide) h) _,
    fun hx h => raises_overflow64 hx (addOverflows_of_not_fits (by decide) h) _,
    fun hx h => raises_overflow64 hx (subOverflows_of_not_fits (by decide) h) _,
    fun hx h => raises_overflow64 hx (addOverflows_of_not_fits (by decide) h) _⟩

/-! Words and the instructions they are (30_encoding.md R300 to R318). -/

theorem decode_of_encode_eq {w : HalfWord} {i : Instr} (hi : i.wellFormed = true) (hw : encode i = w) : decode w = .ok i :=
  hw ▸ Encoding.decodeOfEncode i hi

/-- Settles O8: each word is the encoding of the instruction beside it. -/
theorem decodesTheSpecsWords : Obligations.DecodesTheSpecsWords := by
  unfold Obligations.DecodesTheSpecsWords
  and_intros
  all_goals exact decode_of_encode_eq (by decide) (by decide)

/-! Comparisons (R428 to R431). -/

theorem setWidth_ofBool_decide (p : Prop) [Decidable p] : (BitVec.ofBool (decide p)).setWidth 64 = if p then 1 else 0 := by
  split
  · next h => rw [decide_eq_true h]; rfl
  · next h => rw [decide_eq_false h]; rfl

theorem writesGpr_comparison (s : State) (rd : RegNum) (p : Prop) [Decidable p] :
    WritesGpr s (doneGpr s rd ((BitVec.ofBool (decide p)).setWidth 64)) rd (if p then 1 else 0) := by
  rw [setWidth_ofBool_decide]
  exact writesGpr_doneGpr s rd _

/-- Settles O15: a comparison of words is the one of the numbers they stand for; the words are those of the encoder. -/
theorem comparisonsSetZeroOrOne : Obligations.ComparisonsSetZeroOrOne := by
  intro s rs rt rd imm
  exact ⟨writesGpr_comparison .., writesGpr_comparison .., writesGpr_comparison .., writesGpr_comparison ..,
    decode_of_encode_eq rfl rfl, decode_of_encode_eq rfl rfl,
    decode_of_encode_eq rfl (imm_split ..).symm, decode_of_encode_eq rfl (imm_split ..).symm⟩

/-- Settles O16: the model's count is the length of the leading run. -/
theorem countsOfLeadingBits : Obligations.CountsOfLeadingBits := by
  intro s rs rt rd
  simp only [← low32_eq]
  exact ⟨⟨_, leadingRun_ones _, writesWord_doneWord ..⟩, ⟨_, leadingRun_zeros _, writesWord_doneWord ..⟩,
    fun hx => ⟨_, leadingRun_ones _, writesGpr_need64 hx ..⟩, fun hx => ⟨_, leadingRun_zeros _, writesGpr_need64 hx ..⟩⟩

/-! Products (R417 to R427). -/

theorem signExtend128_mul (a b : Word) : a.signExtend 128 * b.signExtend 128 = BitVec.ofInt 128 (a.toInt * b.toInt) :=
  (BitVec.ofInt_mul ..).symm

theorem setWidth128_mul (a b : Word) : a.setWidth 128 * b.setWidth 128 = BitVec.ofNat 128 (a.toNat * b.toNat) := by
  rw [BitVec.ofNat_mul, BitVec.ofNat_toNat, BitVec.ofNat_toNat]

/-- An instruction that writes a register after HI, LO and the free values have become anything. -/
theorem gprResult_of_freeHiLo {s t : State} {h l : Word} {n : Nat} {rd : RegNum} {v : Word}
    (hr : GprResult { s with hi := h, lo := l, draws := n } rd v t) :
    GprIs s t rd v ∧ MovesOn s t ∧ SameMemory s t
      ∧ t = { s with gpr := t.gpr, hi := t.hi, lo := t.lo, pc := t.pc, delay := t.delay, draws := t.draws } := by
  obtain ⟨hvalue, hmoves, hmemory, hrest⟩ := hr
  refine ⟨hvalue, hmoves, hmemory, ?_⟩
  rw [hrest]

/-- MUL is a word instruction in the state in which HI and LO hold free values. -/
theorem writesWord_mul (s : State) (rs rt rd : RegNum) :
    WritesWord { spend 2 s with hi := freeWord s 0, lo := freeWord s 1 } (exec (.mul rs rt rd) s) [rs, rt] rd
      ((low32 (mulSigned32 (low32 (gprRead s rs)) (low32 (gprRead s rt)))).signExtend 64) :=
  writesWord_doneWord ..

/-- Settles O17: the exact products are those of the extended operands; MUL alone writes a general register. -/
theorem multipliesAndAccumulates : Obligations.MultipliesAndAccumulates := by
  intro s rs rt rd
  simp only [← low32_eq, ← mulSigned32_eq, ← mulUnsigned32_eq, ← signExtend128_mul, ← setWidth128_mul]
  obtain ⟨hword, hfree⟩ := writesWord_mul s rs rt rd
  refine ⟨writesHiLoWord_doneProduct32 .., writesHiLoWord_doneProduct32 .., writesHiLoWord_doneProduct32 ..,
    writesHiLoWord_doneProduct32 .., writesHiLoWord_doneProduct32 .., writesHiLoWord_doneProduct32 .., fun h => ?_,
    fun h => ?_, fun hx => writesHiLo_need64 hx _, fun hx => writesHiLo_need64 hx _⟩
  · obtain ⟨t, ht, hr⟩ := hword h
    exact ⟨t, ht, gprResult_of_freeHiLo hr⟩
  · obtain ⟨t, x, n, ht, hr⟩ := hfree h
    exact ⟨x, t, ht, gprResult_of_freeHiLo hr⟩

/-! Quotients and remainders (R413 to R416). -/

section Divide

variable {n : Nat} (a b : BitVec n)

theorem divideOpen_iff : divideOpen a b = true ↔ b = 0 ∨ (a = BitVec.intMin n ∧ b = -1) := by
  rw [divideOpen, Bool.or_eq_true, Bool.and_eq_true, beq_iff_eq, beq_iff_eq, beq_iff_eq, ← BitVec.neg_one_eq_allOnes]
  rfl

theorem sdiv_eq_ofInt : a.sdiv b = BitVec.ofInt n (a.toInt.tdiv b.toInt) :=
  BitVec.eq_of_toInt_eq (by rw [BitVec.toInt_sdiv, BitVec.toInt_ofInt])

theorem srem_eq_ofInt : a.srem b = BitVec.ofInt n (a.toInt.tmod b.toInt) := by
  rw [← BitVec.toInt_srem, BitVec.ofInt_toInt]

theorem udiv_eq_ofNat : a / b = BitVec.ofNat n (a.toNat / b.toNat) := by
  rw [← BitVec.toNat_udiv, BitVec.ofNat_toNat, BitVec.setWidth_eq]

theorem umod_eq_ofNat : a % b = BitVec.ofNat n (a.toNat % b.toNat) := by
  rw [← BitVec.toNat_umod, BitVec.ofNat_toNat, BitVec.setWidth_eq]

end Divide

/-- A division that may be open ends with free values where it is, else as the ordinary one. -/
theorem freesHiLo_if_open {s : State} {o k : Out} {isOpen : Bool} {p : Prop} [Decidable p]
    (ho : o = if isOpen then doneHiLoFree s else k) (hp : isOpen = true ↔ p) (P : Out → Prop) (hk : P k) :
    if p then FreesHiLo s o else P o := by
  subst ho
  split
  · next h =>
    rw [if_pos (hp.2 h)]
    exact freesHiLo_doneHiLoFree s
  · next h => rwa [if_neg (mt hp.1 h)]

/-- Settles O18: the cases of a division are those of its test, and its quotients and remainders those of the numbers. -/
theorem dividesTowardZero : Obligations.DividesTowardZero := by
  intro s rs rt
  simp only [← low32_eq, ← sdiv_eq_ofInt, ← srem_eq_ofInt, ← udiv_eq_ofNat, ← umod_eq_ofNat]
  exact ⟨freesHiLo_if_open rfl (divideOpen_iff _ _) (WritesHiLoWord s · [rs, rt] _ _) (writesHiLoWord_doneHiLo32 ..),
    freesHiLo_if_open rfl beq_iff_eq (WritesHiLoWord s · [rs, rt] _ _) (writesHiLoWord_doneHiLo32 ..),
    fun hx => freesHiLo_if_open (need64_of hx) (divideOpen_iff _ _) (WritesHiLo s · _ _) (writesHiLo_done ..),
    fun hx => freesHiLo_if_open (need64_of hx) beq_iff_eq (WritesHiLo s · _ _) (writesHiLo_done ..)⟩

end Sys2Proof.Proofs.IntArith
end

section
/-! The logic and move instructions (41_logic_and_move.md R451 to R467): the bits of the results, and the two ends of a
conditional move. -/

namespace Sys2Proof.Proofs.Logic

open Sys2Proof.Machine Sys2Proof.Laws Sys2Proof.Claims
open IntArith (decode_of_encode_eq)
open Availability (raisesCpu_needCu1)

/-! The bits of the results. -/

theorem getLsbD_zext16 (imm : BitVec 16) {k : Nat} (hk : k < 64) : (zext16 imm).getLsbD k = imm.getLsbD k := by
  rw [zext16, BitVec.getLsbD_setWidth, decide_eq_true hk, Bool.true_and]

theorem getLsbD_not_of_lt (v : Word) {k : Nat} (hk : k < 64) : (~~~v).getLsbD k = !v.getLsbD k := by
  rw [BitVec.getLsbD_not, decide_eq_true hk, Bool.true_and]

/-- The word that LUI extends has the immediate as its upper half, so its sign is the one of the immediate (R458). -/
theorem getLsbD_upperHalf (imm : BitVec 16) {k : Nat} (hk : k < 64) :
    ((imm ++ (0 : BitVec 16)).signExtend 64).getLsbD k
      = if k < 16 then false else if k < 32 then imm.getLsbD (k - 16) else imm.getLsbD 15 := by
  have hsign : (imm ++ (0 : BitVec 16)).msb = imm.getLsbD 15 := by
    rw [BitVec.msb_append, if_neg (by decide), BitVec.msb_eq_getLsbD_last]
  rw [BitVec.getLsbD_signExtend, decide_eq_true hk, Bool.true_and, BitVec.getLsbD_append, hsign]
  by_cases hlow : k < 16
  · rw [if_pos (by omega), if_pos hlow, if_pos hlow]
    exact BitVec.getLsbD_zero
  · rw [if_neg hlow, if_neg hlow]

theorem writesBits_doneGpr {v : Word} {f : Nat → Bool} (h : ∀ k, k < 64 → v.getLsbD k = f k) (s : State) (rd : RegNum) :
    ∃ w, WritesGpr s (doneGpr s rd v) rd w ∧ ∀ k, k < 64 → w.getLsbD k = f k :=
  ⟨v, writesGpr_doneGpr s rd v, h⟩

/-- Settles O19: each instruction ends by writing the word whose bits are those of the statement; the words are those of the
encoder. -/
theorem logicResultsBitByBit : Obligations.LogicResultsBitByBit := by
  intro s rs rt rd imm
  refine ⟨writesBits_doneGpr (fun k _ => BitVec.getLsbD_and) .., writesBits_doneGpr (fun k _ => BitVec.getLsbD_or) ..,
    writesBits_doneGpr (fun k _ => BitVec.getLsbD_xor) .., writesBits_doneGpr (fun k hk => ?nor) ..,
    writesBits_doneGpr (fun k hk => ?andi) .., writesBits_doneGpr (fun k hk => ?ori) ..,
    writesBits_doneGpr (fun k hk => ?xori) .., writesBits_doneGpr (fun k hk => getLsbD_upperHalf imm hk) ..,
    decode_of_encode_eq rfl rfl, decode_of_encode_eq rfl rfl, decode_of_encode_eq rfl rfl, decode_of_encode_eq rfl rfl,
    decode_of_encode_eq rfl (imm_split ..).symm, decode_of_encode_eq rfl (imm_split ..).symm,
    decode_of_encode_eq rfl (imm_split ..).symm, decode_of_encode_eq rfl (imm_split ..).symm⟩
  case nor => rw [getLsbD_not_of_lt _ hk, BitVec.getLsbD_or]
  case andi => rw [BitVec.getLsbD_and, getLsbD_zext16 imm hk]
  case ori => rw [BitVec.getLsbD_or, getLsbD_zext16 imm hk]
  case xori => rw [BitVec.getLsbD_xor, getLsbD_zext16 imm hk]

/-! Moves. -/

/-- A conditional move ends in one of two ways. -/
theorem moves_of_ends {s : State} {o : Out} {rd : RegNum} {v : Word} {c : Prop} (hmove : c → o = doneGpr s rd v)
    (hstay : ¬ c → o = done s) : (c → WritesGpr s o rd v) ∧ (¬ c → DoesNothing s o) := by
  refine ⟨fun h => ?_, fun h => ?_⟩
  · rw [hmove h]
    exact writesGpr_doneGpr s rd v
  · rw [hstay h]
    exact doesNothing_done s

/-- Settles O20: the conditional moves by the test that each makes, MOVT and MOVF behind the test of coprocessor 1. -/
theorem movesAmongRegisters : Obligations.MovesAmongRegisters := by
  intro s rs rt rd cc
  refine ⟨writesGpr_doneGpr .., writesGpr_doneGpr .., writesHiLo_done .., writesHiLo_done .., ?movn, ?movz,
    fun hcu => ⟨?movt, ?movf⟩, fun hcu => ⟨raisesCpu_needCu1 hcu _, raisesCpu_needCu1 hcu _⟩,
    decode_of_encode_eq rfl rfl, decode_of_encode_eq rfl rfl, decode_of_encode_eq rfl rfl, decode_of_encode_eq rfl rfl,
    decode_of_encode_eq rfl rfl, decode_of_encode_eq rfl rfl, decode_of_encode_eq rfl rfl, decode_of_encode_eq rfl rfl⟩
  case movn => exact moves_of_ends (fun h => if_pos (bne_iff_ne.2 h)) (fun h => if_neg (mt bne_iff_ne.1 h))
  case movz => exact moves_of_ends (fun h => if_pos (beq_iff_eq.2 h)) (fun h => if_neg (mt beq_iff_eq.1 h))
  case movt => exact moves_of_ends (fun h => (needCu1_of hcu).trans (if_pos h)) (fun h => (needCu1_of hcu).trans (if_neg h))
  case movf =>
    exact moves_of_ends (fun h => (needCu1_of hcu).trans (if_neg (Bool.eq_false_iff.1 h)))
      (fun h => (needCu1_of hcu).trans (if_pos (Bool.eq_true_of_not_eq_false h)))

end Sys2Proof.Proofs.Logic
end

section
/-! The shift instructions (42_shift.md R480 to R495): every form ends by writing its shifted operand, and the shift is a
product or a quotient of the number the operand stands for. -/

namespace Sys2Proof.Proofs.Shift

open Sys2Proof.Machine Sys2Proof.Laws Sys2Proof.Claims
open IntArith (writesWord_doneWord writesGpr_need64 decode_of_encode_eq)

/-! An arithmetic shift right is the quotient toward minus infinity. -/

section Arithmetic

variable {n : Nat} (a : BitVec n) (k : Nat)

theorem toInt_sshiftRight_eq_div : (a.sshiftRight k).toInt = a.toInt / 2 ^ k := by
  rw [BitVec.toInt_sshiftRight, Int.shiftRight_eq_div_pow]
  norm_cast

theorem signExtend_sshiftRight_eq_ofInt (m : Nat) : (a.sshiftRight k).signExtend m = BitVec.ofInt m (a.toInt / 2 ^ k) := by
  rw [BitVec.signExtend, toInt_sshiftRight_eq_div]

theorem sshiftRight_eq_ofInt : a.sshiftRight k = BitVec.ofInt n (a.toInt / 2 ^ k) := by
  rw [← toInt_sshiftRight_eq_div, BitVec.ofInt_toInt]

end Arithmetic

/-- Settles O21: every form is a word instruction with the one source rt, and the results are those of the numbers; the words
are those of the encoder, for SLL but those of NOP and SSNOP. -/
theorem wordShifts : Obligations.WordShifts := by
  refine ⟨rfl, rfl, fun s rs rt rd sa => ?_⟩
  simp only [← low32_eq, ← shiftLeft_eq_mul, ← shiftRight_eq_div, ← signExtend_sshiftRight_eq_ofInt, ← shiftCount5_eq]
  exact ⟨writesWord_doneWord .., writesWord_doneWord .., writesWord_doneWord ..,
    writesWord_doneWord .., writesWord_doneWord .., writesWord_doneWord ..,
    fun h => decode_of_encode_eq h rfl, decode_of_encode_eq rfl rfl, decode_of_encode_eq rfl rfl,
    decode_of_encode_eq rfl rfl, decode_of_encode_eq rfl rfl, decode_of_encode_eq rfl rfl⟩

/-- Settles O22, as O21, behind the test of the MIPS-64 level. -/
theorem doublewordShifts : Obligations.DoublewordShifts := by
  intro s rs rt rd sa hx
  simp only [← shiftLeft_eq_mul, ← shiftRight_eq_div, ← sshiftRight_eq_ofInt, ← shiftCount6_eq]
  exact ⟨writesGpr_need64 hx .., writesGpr_need64 hx .., writesGpr_need64 hx ..,
    writesGpr_need64 hx .., writesGpr_need64 hx .., writesGpr_need64 hx ..,
    writesGpr_need64 hx .., writesGpr_need64 hx .., writesGpr_need64 hx ..⟩

end Sys2Proof.Proofs.Shift
end

section
/-! The step at an instruction (60_exceptions.md R817, 20_memory.md R256): where nothing comes before it, the step is its
meaning in the state after the fetch. -/

namespace Sys2Proof.Proofs.Stepping

open Sys2Proof.Machine Sys2Proof.Laws Sys2Proof.Claims Invariant CacheHit Fetch

/-! A fetch leaves the pending bus error as it is. -/

/-- The same bus error is pending in both states, or none. -/
def SameLateError (s t : State) : Prop := t.lateError = s.lateError

section Fetch

variable {s t : State} (h : SameLateError s t)
include h

theorem sameLateError_waitForWrites : SameLateError s (waitForWrites t) := (waitForWrites_lateError t).trans h

theorem sameLateError_fillLine_inst (pa : PAddr) : ResAll (SameLateError s) (fillLine t .inst pa) := by
  by_cases hf : readFails t (lineKey t (tagOf pa) (lineOf pa)) 32 = true
  · rw [fillLine_fails .inst hf]
    exact sameLateError_waitForWrites h
  · have hok := Bool.eq_false_iff.2 hf
    by_cases hu : unlockedWays t.icache pa = []
    · rw [fillLine_inst_locked hok hu]
      trivial
    · obtain ⟨w, -, x, n, he⟩ := fillLine_inst hok hu
      rw [he]
      exact sameLateError_waitForWrites h

theorem sameLateError_lookupOrFill_inst (pa : PAddr) : ResAll (SameLateError s) (lookupOrFill t .inst pa) := by
  by_cases hr : cacheReady t.icache = true
  · by_cases hh : hitWays t.icache pa = []
    · rw [lookupOrFill_inst_miss hr hh]
      exact sameLateError_fillLine_inst h pa
    · obtain ⟨w, -, x, n, he⟩ := lookupOrFill_hit (d := .inst) hr hh
      rw [he]
      exact h
  · simp [lookupOrFill, getCache, hr]

theorem sameLateError_fetched (pa : PAddr) (cached : Bool) (w : HalfWord) :
    ResAll (SameLateError s) (fetched t pa cached w) := by
  obtain ⟨x, n, he, -⟩ := fetched_ok t pa cached w
  rw [he]
  exact h

end Fetch

theorem sameLateError_fetchWord (s : State) (va : Word) : ResAll (SameLateError s) (fetchWord s va) := by
  unfold fetchWord
  split
  · rfl
  refine resAll_bind (resAll_toRes (P := SameLateError s) rfl _) fun a t ht => ?_
  have hwait := sameLateError_waitForWrites ht
  have hline := sameLateError_lookupOrFill_inst ht a.1
  dsimp only
  split
  · trivial
  split
  · split
    · trivial
    · exact resAll_ite.2 ⟨fun _ => hwait, fun _ => sameLateError_fetched hwait ..⟩
  · split
    next he => rw [he] at hline; exact sameLateError_fetched hline ..
    next he => rw [he] at hline; exact hline
    next he => rw [he] at hline; exact hline
    next => trivial

/-! The step. -/

/-- Where no bus error is pending, an outcome stands as it is. -/
theorem settle_of_none {s : State} (h : s.lateError = none) (o : Out) : settle s o = o := by
  simp [settle, h]

theorem landed_next (s u : State) :
    landed s (.next u) = .next (if s.delay = some u.pc ∧ u.pc ≠ s.pc + 4 then noteJump u else u) := by
  simp [landed]

theorem nextAction_of_instr {s t : State} {w : HalfWord} {i : Instr} (h : Ready s) (hf : fetchWord s s.pc = .ok w t)
    (hd : decode w = .ok i) : nextAction s = .run i t := by
  obtain ⟨hreset, hlate, hnmi, hawake, hint, hmode⟩ := h
  simp [nextAction, awakeAction, fetchInstr, lateErrorDue, needsLateData, hreset, hlate, hnmi, hawake, hint, hmode, hf, hd]

/-- Where nothing comes before the instruction, the step is its meaning, with the note of a jump, up to the boundary. -/
theorem step_of_instr {s t : State} {w : HalfWord} {i : Instr} (h : Ready s) (hf : fetchWord s s.pc = .ok w t)
    (hd : decode w = .ok i) : step s = atBoundary (landed t (exec i t)) := by
  have hlate : t.lateError = none := by
    have hsame := sameLateError_fetchWord s s.pc
    rw [hf] at hsame
    exact hsame.trans h.lateError
  unfold step runStep
  rw [nextAction_of_instr h hf hd]
  exact congrArg atBoundary (settle_of_none hlate _)

/-- Settles O9: the step is `exec` up to the boundary, by what it answers. -/
theorem stepRunsDecodedInstruction : Obligations.StepRunsDecodedInstruction := by
  intro s t w i hready hf hd
  rw [step_of_instr hready hf hd]
  cases exec i t with
  | next u => rw [landed_next]; rfl
  | fault f => rfl
  | refused r => rfl

end Sys2Proof.Proofs.Stepping
end

section
/-! The branches and jumps (43_branch_jump_nop.md R500 to R524, 49_fpu_convert_compare_branch.md R783 to R786): how the
ordinary and the likely kind end, with and without a link, and what stops in a delay slot. -/

namespace Sys2Proof.Proofs.Branch

open Sys2Proof.Machine Sys2Proof.Laws Sys2Proof.Claims

/-! The conditions, on whole signed registers (R509 to R514). -/

section Conditions

variable (a b : Word)

theorem bne_eq_decide_ne : (a != b) = decide (a ≠ b) := by
  rw [bne, beq_eq_decide, decide_not]

theorem sle_zero_eq : a.sle 0 = decide (a.toInt ≤ 0) := rfl

theorem not_sle_zero_eq : (!a.sle 0) = decide (0 < a.toInt) := by
  rw [sle_zero_eq, ← decide_not, decide_eq_decide, not_le]

theorem msb_eq_neg : a.msb = decide (a.toInt < 0) := BitVec.msb_eq_toInt

theorem not_msb_eq_nonneg : (!a.msb) = decide (0 ≤ a.toInt) := by
  rw [msb_eq_neg, ← decide_not, decide_eq_decide, not_lt]

end Conditions

/-! The link. -/

theorem gprIs_gprWrite (s : State) (rd : RegNum) (v : Word) : GprIs s (gprWrite s rd v) rd v := by
  refine ⟨?_, fun r hr => ?_⟩
  · rw [gprRead_gprWrite]
    by_cases h : rd = 0
    · rw [if_neg fun hc => hc.2 h, if_pos h, h]
      rfl
    · rw [if_pos ⟨rfl, h⟩, if_neg h]
  · rw [gprRead_gprWrite, if_neg fun hc => hr hc.1]

section Link

variable {s t : State} {rd : RegNum} {v a : Word}

theorem opensSlot_of_gprWrite (h : OpensSlot (gprWrite s rd v) t a) : OpensSlot s t a := by
  unfold gprWrite at h
  split at h <;> exact h

theorem skipsSlot_of_gprWrite (h : SkipsSlot (gprWrite s rd v) t) : SkipsSlot s t := by
  unfold gprWrite at h
  split at h <;> exact h

theorem gprIs_of_gprWrite (h : ∀ r, gprRead t r = gprRead (gprWrite s rd v) r) : GprIs s t rd v := by
  obtain ⟨hvalue, hothers⟩ := gprIs_gprWrite s rd v
  exact ⟨(h rd).trans hvalue, fun r hr => (h r).trans (hothers r hr)⟩

variable {o : Out} {c : Bool}

/-- A branch from the state that has the link already is a branch that writes it. -/
theorem links_of_branches (h : Branches (gprWrite s rd (s.pc + 8)) o c a) : Links s o rd c a := by
  obtain ⟨t, ho, hgpr, hslot⟩ := h
  rw [gprWrite_pc] at hslot
  exact ⟨t, ho, gprIs_of_gprWrite hgpr, opensSlot_of_gprWrite hslot⟩

theorem linksLikely_of_branchesLikely (h : BranchesLikely (gprWrite s 31 (s.pc + 8)) o c a) : LinksLikely s o c a := by
  obtain ⟨t, ho, hgpr, hslot⟩ := h
  refine ⟨t, ho, gprIs_of_gprWrite hgpr, ?_⟩
  cases c
  · exact skipsSlot_of_gprWrite hslot
  · exact opensSlot_of_gprWrite hslot

end Link

theorem withLink_of {s : State} {rs : RegNum} (h : rs ≠ 31) (k : State → Out) :
    withLink s rs k = k (gprWrite s 31 (s.pc + 8)) :=
  if_neg (mt beq_iff_eq.1 h)

/-! The kinds of branches, outside a delay slot. -/

section Ends

variable {s : State} {rs : RegNum} {c p : Bool} (hd : s.delay = none) (hc : c = p)
include hd

theorem branches_needNoSlot (c : Bool) (a : Word) : Branches s (needNoSlot s (.next (branch c a s))) c a := by
  rw [needNoSlot_of hd]
  exact branches_branch s c a

theorem links_needNoSlot (rd : RegNum) (c : Bool) (a : Word) :
    Links s (needNoSlot s (.next (branch c a (gprWrite s rd (s.pc + 8))))) rd c a := by
  rw [needNoSlot_of hd]
  exact links_of_branches (branches_branch _ c a)

theorem linksLikely_needNoSlot (c : Bool) (a : Word) :
    LinksLikely s (needNoSlot s (.next (branchLikely c a (gprWrite s 31 (s.pc + 8))))) c a := by
  rw [needNoSlot_of hd]
  exact linksLikely_of_branchesLikely (branchesLikely_branchLikely ((gprWrite_delay ..).trans hd) c a)

include hc

theorem branches_takeBranch (offset : BitVec 16) :
    Branches s (takeBranch s c offset) p (branchTarget s.pc offset) :=
  hc ▸ branches_needNoSlot hd c _

theorem branchesLikely_takeLikely (offset : BitVec 16) :
    BranchesLikely s (takeLikely s c offset) p (branchTarget s.pc offset) := by
  rw [takeLikely, needNoSlot_of hd, hc]
  exact branchesLikely_branchLikely hd p _

theorem links_withLink (hrs : rs ≠ 31) (offset : BitVec 16) :
    Links s (withLink s rs fun t => needNoSlot s (.next (branch c (branchTarget s.pc offset) t))) 31 p
      (branchTarget s.pc offset) := by
  rw [withLink_of hrs, hc]
  exact links_needNoSlot hd 31 p _

theorem linksLikely_withLink (hrs : rs ≠ 31) (offset : BitVec 16) :
    LinksLikely s (withLink s rs fun t => needNoSlot s (.next (branchLikely c (branchTarget s.pc offset) t))) p
      (branchTarget s.pc offset) := by
  rw [withLink_of hrs, hc]
  exact linksLikely_needNoSlot hd p _

/-- The branches on an FPU condition, once coprocessor 1 is usable. -/
theorem branches_needCu1 (hcu : s.cp0.status.cu1 = true) (offset : BitVec 16) :
    Branches s (needCu1 s (takeBranch s c offset)) p (branchTarget s.pc offset) := by
  rw [needCu1_of hcu]
  exact branches_takeBranch hd hc offset

theorem branchesLikely_needCu1 (hcu : s.cp0.status.cu1 = true) (offset : BitVec 16) :
    BranchesLikely s (needCu1 s (takeLikely s c offset)) p (branchTarget s.pc offset) := by
  rw [needCu1_of hcu]
  exact branchesLikely_takeLikely hd hc offset

end Ends

/-- Settles O23: each is the ordinary branch on its condition. -/
theorem ordinaryBranches : Obligations.OrdinaryBranches := by
  intro s rs rt cc offset hd
  exact ⟨branches_takeBranch hd (beq_eq_decide ..) _, branches_takeBranch hd (bne_eq_decide_ne ..) _,
    branches_takeBranch hd (sle_zero_eq _) _, branches_takeBranch hd (not_sle_zero_eq _) _,
    branches_takeBranch hd (msb_eq_neg _) _, branches_takeBranch hd (not_msb_eq_nonneg _) _,
    fun hcu => ⟨branches_needCu1 hd rfl hcu _, branches_needCu1 hd rfl hcu _⟩⟩

/-- Settles O24: each is the likely branch on its condition, the linking ones from the state that has the link. -/
theorem likelyBranches : Obligations.LikelyBranches := by
  intro s rs rt cc offset hd
  exact ⟨fun hrs => ⟨linksLikely_withLink hd (msb_eq_neg _) hrs _, linksLikely_withLink hd (not_msb_eq_nonneg _) hrs _⟩,
    branchesLikely_takeLikely hd (beq_eq_decide ..) _, branchesLikely_takeLikely hd (bne_eq_decide_ne ..) _,
    branchesLikely_takeLikely hd (sle_zero_eq _) _, branchesLikely_takeLikely hd (not_sle_zero_eq _) _,
    branchesLikely_takeLikely hd (msb_eq_neg _) _, branchesLikely_takeLikely hd (not_msb_eq_nonneg _) _,
    fun hcu => ⟨branchesLikely_needCu1 hd rfl hcu _, branchesLikely_needCu1 hd rfl hcu _⟩⟩

/-! A link register that is the source (R504). -/

theorem links_execJalr {s : State} {rs rd : RegNum} (hd : s.delay = none) (h : rd ≠ rs) (hint : BitVec 5) :
    Links s (execJalr rs rd hint s) rd true (gprRead s rs) := by
  rw [execJalr, if_neg (by simpa using h)]
  exact links_needNoSlot hd rd true _

theorem execJalr_same {s : State} (hd : s.delay = none) (rs : RegNum) (hint : BitVec 5) :
    execJalr rs rs hint s = .fault .linkRegisterIsSource := by
  rw [execJalr, needNoSlot_of hd, if_pos (beq_self_eq_true rs)]

theorem withLink_31 (s : State) (k : State → Out) : withLink s 31 k = .fault .linkRegisterIsSource := rfl

/-- A linking branch tests its source register first, then whether it stands in a delay slot. -/
theorem exec_linking (s : State) (rs : RegNum) (offset : BitVec 16) :
    ∀ i ∈ [Instr.bltzal rs offset, Instr.bgezal rs offset, Instr.bltzall rs offset, Instr.bgezall rs offset],
      ∃ k : State → Out, exec i s = withLink s rs fun t => needNoSlot s (k t) := by
  simp only [List.forall_mem_cons, List.not_mem_nil, false_imp_iff, implies_true, and_true]
  exact ⟨⟨fun t => .next (branch (gprRead s rs).msb (branchTarget s.pc offset) t), rfl⟩,
    ⟨fun t => .next (branch (!(gprRead s rs).msb) (branchTarget s.pc offset) t), rfl⟩,
    ⟨fun t => .next (branchLikely (gprRead s rs).msb (branchTarget s.pc offset) t), rfl⟩,
    ⟨fun t => .next (branchLikely (!(gprRead s rs).msb) (branchTarget s.pc offset) t), rfl⟩⟩

/-- Settles O25: the jumps and the linking branches by their kinds, and the stop where the link register is the source. -/
theorem jumpsAndLinks : Obligations.JumpsAndLinks := by
  intro s rs rd hint index offset hd
  refine ⟨branches_needNoSlot hd true _, links_needNoSlot hd 31 true _, branches_needNoSlot hd true _,
    fun hne => links_execJalr hd hne hint, fun hrs => ⟨links_withLink hd (msb_eq_neg _) hrs _,
      links_withLink hd (not_msb_eq_nonneg _) hrs _, linksLikely_withLink hd (msb_eq_neg _) hrs _,
      linksLikely_withLink hd (not_msb_eq_nonneg _) hrs _⟩, execJalr_same hd rs hint, fun i hi => ?_⟩
  obtain ⟨k, hk⟩ := exec_linking s 31 offset i hi
  exact hk.trans (withLink_31 s _)

/-! In a delay slot (R503). -/

section InSlot

variable {s : State} (hd : s.delay.isSome = true)
include hd

theorem needNoSlot_inSlot (k : Out) : needNoSlot s k = .fault .branchInDelaySlot := if_pos hd

theorem withLink_inSlot {rs : RegNum} (h : rs ≠ 31) (k : State → Out) :
    withLink s rs (fun t => needNoSlot s (k t)) = .fault .branchInDelaySlot :=
  (withLink_of h _).trans (needNoSlot_inSlot hd _)

theorem needCu1_inSlot (h : s.cp0.status.cu1 = true) (k : Out) :
    needCu1 s (needNoSlot s k) = .fault .branchInDelaySlot :=
  (needCu1_of h).trans (needNoSlot_inSlot hd k)

theorem needCp0_inSlot (h : cp0Usable s = true) (k : Out) : needCp0 s (needNoSlot s k) = .fault .branchInDelaySlot :=
  (needCp0_of h).trans (needNoSlot_inSlot hd k)

end InSlot

/-- Settles O26: each makes the test of the delay slot, behind the test of its link register or its coprocessor. -/
theorem branchInSlotStops : Obligations.BranchInSlotStops := by
  intro s rs rt rd cc hint index offset hd
  refine ⟨?plain, fun hrs i hi => ?linking, fun hcu => ?onFpu, fun hcp => ?returns⟩
  case linking =>
    obtain ⟨k, hk⟩ := exec_linking s rs offset i hi
    exact hk.trans (withLink_inSlot hd hrs k)
  all_goals simp only [List.forall_mem_cons, List.not_mem_nil, false_imp_iff, implies_true, and_true]
  case plain =>
    and_intros
    all_goals exact needNoSlot_inSlot hd _
  case onFpu =>
    and_intros
    all_goals exact needCu1_inSlot hd hcu _
  case returns =>
    have husable : cp0Usable s = true := by simpa [cp0Usable] using hcp
    exact ⟨needCp0_inSlot hd husable _, needCp0_inSlot hd husable _⟩

end Sys2Proof.Proofs.Branch
end

section
/-! The uncached loads and stores of the integer registers (44_load_store.md R540 to R547, R549 to R561). -/

namespace Sys2Proof.Proofs.UncachedAccess

open Sys2Proof.Machine Sys2Proof.Laws Sys2Proof.Claims CachedAccess

/-! The uncached accesses within one doubleword. -/

section Access

variable {s : State} {pa : PAddr} {n : Nat} {v : Word}

/-- What an uncached read gives is what the bytes at the address hold. -/
theorem holds_readBytes (hn : pa.toNat % 8 + n ≤ 8) :
    Holds s pa n (joinBytes (readBytes (memView s) (busAddress s (laneKey (dataBigEndian s) pa.toNat n)) n)) := by
  refine ⟨fun i hi => ?_, ?_⟩
  · have hb : byteIndex s n i < n := by unfold byteIndex; split <;> omega
    have hi' : n - 1 - byteIndex s n i = if dataBigEndian s then i else n - 1 - i := by
      unfold byteIndex
      split <;> omega
    rw [joinBytes_byte _ _ (by omega), readBytes_reverse_getD hb, laneKey_lane s pa hi hn, hi']
    rfl
  · have hl := CacheMiss.joinBytes_lt (readBytes (memView s) (busAddress s (laneKey (dataBigEndian s) pa.toNat n)) n)
    rwa [show (readBytes (memView s) _ n).length = n by simp [readBytes]] at hl

/-- A copy of a line is a copy for every address of a doubleword in it. -/
theorem holdsCopy_congr {a b : PAddr} (h : a.toNat / 8 = b.toNat / 8) (c : Cache) : holdsCopy c a = holdsCopy c b := by
  have hline : lineOf a = lineOf b := by
    rw [CacheMiss.lineOf_toNat, CacheMiss.lineOf_toNat]
    omega
  have htag : tagOf a = tagOf b := by
    apply BitVec.eq_of_toNat_eq
    rw [CacheMiss.tagOf_toNat, CacheMiss.tagOf_toNat]
    omega
  simp only [holdsCopy, hitWays, hline, htag]

/-- Where the bus answers for a range of bytes without an error, it does so for any bytes of the range. -/
theorem readFails_within {a m b : Nat} (h : readFails s a m = false) (hlo : a ≤ b) (hhi : b + n ≤ a + m) :
    readFails s b n = false := by
  simp only [readFails, List.any_eq_false, Bool.and_eq_true, decide_eq_true_eq] at h ⊢
  intro r hr
  have := h r hr
  omega

/-- The bytes an access within a doubleword drives on the bus are bytes of the doubleword. -/
theorem busAddr_within (h0 : 0 < n) (hn : pa.toNat % 8 + n ≤ 8) :
    busAddress s (pa.toNat / 8 * 8) ≤ busAddr s pa n ∧ busAddr s pa n + n ≤ busAddress s (pa.toNat / 8 * 8) + 8 := by
  have hlane : ∀ k, k < 8 → busAddress s (pa.toNat / 8 * 8 + k) = busAddress s (pa.toNat / 8 * 8) + k := by
    intro k hk
    unfold busAddress
    split <;> omega
  unfold busAddr
  split
  · have hlast := hlane (pa.toNat % 8) (by omega)
    rw [Nat.div_add_mod'] at hlast
    omega
  · rw [hlane _ (by omega)]
    omega

/-- An uncached read answers what the bytes at the address hold, where the bus answers for the whole doubleword. -/
theorem physRead_uncached (h0 : 0 < n) (hn : pa.toNat % 8 + n ≤ 8) (hc : holdsCopy s.dcache pa = false)
    (hl : s.lateError = none) (hf : readFails s (busAddress s (pa.toNat / 8 * 8)) 8 = false) :
    ∃ x, physRead s pa n 2 = .ok x (waited s) ∧ Holds s pa n x := by
  obtain ⟨hlo, hhi⟩ := busAddr_within (s := s) h0 hn
  refine ⟨_, ?_, holds_readBytes hn⟩
  simp [physRead, needBus, hc, hl, drivenAddress_eq s pa h0 hn, readFails_within hf hlo hhi, waitForWrites_eq]

theorem physWrite_uncached (hc : holdsCopy s.dcache pa = false) (v : Word) :
    physWrite s pa n v 2 = .ok () (afterStore s pa n v) := by
  simp [physWrite, hc, storeOut, afterStore, uncachedWrite]

/-- A store that ends behind its access has stored its bytes and done nothing else. -/
theorem stores_of_doesNothing (hm : Memory.wf s.mem = true) (hn : pa.toNat % 8 + n ≤ 8) {o : Out}
    (h : DoesNothing (afterStore s pa n v) o) : Stores s o pa n v := by
  obtain ⟨t, ho, hmoves, -, ht⟩ := h
  obtain ⟨p, d, rfl⟩ : ∃ p d, t = { afterStore s pa n v with pc := p, delay := d } := ⟨_, _, ht⟩
  exact ⟨_, ho, stored_enqueue hm hn v, fun _ => rfl, hmoves, rfl⟩

end Access

/-! Loads and stores of an aligned datum (R541 to R547, R558 to R561). -/

section Aligned

variable {s : State} {base rt : RegNum} {offset : BitVec 16} {n : Nat} {pa : PAddr} {v : Word} {i : Instr}

theorem writesGpr_loadGpr (hn : n = 1 ∨ n = 2 ∨ n = 4 ∨ n = 8)
    (h : UncachedLoad s (gprRead s base + offset.signExtend 64) n pa) (hv : Holds s pa n v) {extend : Word → Word}
    (hi : exec i s = loadGpr s base rt offset n extend) : WritesGpr (waited s) (exec i s) rt (extend v) := by
  rw [hi, loadGpr_uncached hn h hv]
  exact writesGpr_doneGpr _ _ _

theorem stores_storeGpr (hn : n = 1 ∨ n = 2 ∨ n = 4 ∨ n = 8) (hm : Memory.wf s.mem = true)
    (h : Uncached s (gprRead s base + offset.signExtend 64) n .store pa) (hi : exec i s = storeGpr s base rt offset n) :
    Stores s (exec i s) pa n (gprRead s rt) := by
  rw [hi, storeGpr_uncached h]
  exact stores_of_doesNothing hm (uncached_fits hn h) (doesNothing_done _)

end Aligned

/-- Settles O28: each load is the read of its bytes and its own extension. -/
theorem uncachedLoads : Obligations.UncachedLoads := by
  intro s base rt offset pa v
  refine ⟨fun h hv => ⟨?lb, ?lbu⟩, fun h hv => ⟨?lh, ?lhu⟩, fun h hv => ⟨?lw, fun hx => ?lwu⟩, fun h hv hx => ?ld⟩
  case lb => exact writesGpr_loadGpr (by simp) h hv (exec_lb s base rt offset)
  case lbu => exact writesGpr_loadGpr (extend := id) (by simp) h hv rfl
  case lh => exact writesGpr_loadGpr (by simp) h hv (exec_lh s base rt offset)
  case lhu => exact writesGpr_loadGpr (extend := id) (by simp) h hv rfl
  case lw => exact writesGpr_loadGpr (by simp) h hv (exec_lw s base rt offset)
  case lwu => exact writesGpr_loadGpr (extend := id) (by simp) h hv (need64_of hx)
  case ld => exact writesGpr_loadGpr (extend := id) (by simp) h hv (need64_of hx)

/-- Settles O30: each store puts the low bytes of the register into the write buffer. -/
theorem uncachedStores : Obligations.UncachedStores := by
  intro s base rt offset pa va v hm
  refine ⟨fun h => ?sb, fun h => ?sh, fun h => ?sw, fun h hx => ?sd⟩
  case sb => exact stores_storeGpr (by simp) hm h rfl
  case sh => exact stores_storeGpr (by simp) hm h rfl
  case sw => exact stores_storeGpr (by simp) hm h rfl
  case sd => exact stores_storeGpr (by simp) hm h (need64_of hx)

/-! The bytes of a part, counted from the address of the instruction (R549). -/

section Part

variable {s : State} {va : Word} {w : Nat} {pa : PAddr} {left : Bool} {j : Nat}

/-- The lane of the `j`-th byte from the address up to the boundary. -/
def partLane (s : State) (pa : PAddr) (left : Bool) (j : Nat) : Nat :=
  laneOf s (if dataBigEndian s = left then pa.toNat + j else pa.toNat - j)

/-- Which byte of a register of `w` bytes it belongs to, counted from the least significant. -/
def partByte (w : Nat) (left : Bool) (j : Nat) : Nat := if left then w - 1 - j else j

/-- Which byte of the part it is, counted by addresses from the first one. -/
def partIndex (s : State) (va : Word) (w : Nat) (left : Bool) (j : Nat) : Nat :=
  if dataBigEndian s = left then j else partCount s va w left - 1 - j

theorem partCount_eq (s : State) (va : Word) (w : Nat) (left : Bool) :
    partCount s va w left = if dataBigEndian s = left then w - va.toNat % w else va.toNat % w + 1 := by
  simp [partCount, goesUp]

theorem partFirst_toNat (hw : w = 4 ∨ w = 8) (hm : pa.toNat % 4096 = va.toNat % 4096) :
    (partFirst s va pa w left).toNat = if dataBigEndian s = left then pa.toNat else pa.toNat - va.toNat % w := by
  have := pa.isLt
  simp only [partFirst, goesUp, beq_iff_eq]
  split
  · rfl
  · simp only [BitVec.toNat_sub, BitVec.toNat_ofNat]
    rcases hw with rfl | rfl <;> omega

/-- A part lies in the doubleword of its address. -/
theorem partFirst_within (hw : w = 4 ∨ w = 8) (hm : pa.toNat % 4096 = va.toNat % 4096) :
    (partFirst s va pa w left).toNat / 8 = pa.toNat / 8
      ∧ (partFirst s va pa w left).toNat % 8 + partCount s va w left ≤ 8 := by
  rw [partFirst_toNat hw hm, partCount_eq]
  split <;> rcases hw with rfl | rfl <;> omega

theorem partIndex_lt (hj : j < partCount s va w left) : partIndex s va w left j < partCount s va w left := by
  unfold partIndex
  split <;> omega

theorem partIndex_partIndex (hj : j < partCount s va w left) : partIndex s va w left (partIndex s va w left j) = j := by
  unfold partIndex
  split <;> omega

theorem laneOf_partFirst (hw : w = 4 ∨ w = 8) (hm : pa.toNat % 4096 = va.toNat % 4096)
    (hj : j < partCount s va w left) :
    laneOf s ((partFirst s va pa w left).toNat + partIndex s va w left j) = partLane s pa left j := by
  unfold partLane partIndex
  rw [partFirst_toNat hw hm]
  rw [partCount_eq] at hj ⊢
  congr 1
  split
  · rfl
  · rename_i h
    rw [if_neg h] at hj
    rcases hw with rfl | rfl <;> omega

theorem byteIndex_partIndex (hj : j < partCount s va w left) :
    byteIndex s (partCount s va w left) (partIndex s va w left j) = partByte (partCount s va w left) left j := by
  unfold byteIndex partIndex partByte
  cases left <;> grind

theorem partByte_lt (left : Bool) (hj : j < w) : partByte w left j < w := by
  unfold partByte
  split <;> omega

/-- A merged byte by its number from the address: a byte of the part as long as there is one, else the old byte. -/
theorem mergedByte_partByte (left : Bool) {m : Nat} (hj : j < w) (hm : m ≤ w) (x old : Word) :
    (if left then
        (if w - m ≤ partByte w left j then byteAt x (partByte w left j - (w - m)) else byteAt old (partByte w left j))
      else (if partByte w left j < m then byteAt x (partByte w left j) else byteAt old (partByte w left j)))
      = if j < m then byteAt x (partByte m left j) else byteAt old (partByte w left j) := by
  cases left with
  | false => rfl
  | true =>
    have hcond : w - m ≤ w - 1 - j ↔ j < m := by omega
    have hbyte : w - 1 - j - (w - m) = m - 1 - j := by omega
    simp only [partByte, if_true, hcond, hbyte]

end Part

/-! The partial-word instructions (R550 to R557). -/

section Partial

variable {s : State} {base rt : RegNum} {offset : BitVec 16} {w : Nat} {pa : PAddr} {left : Bool} {i : Instr}

/-- `v` is the old value with a part of `n` bytes merged in: the byte at the address is the uppermost or the lowest one, as
`left` says. -/
def MergedPart (s : State) (pa : PAddr) (old : Word) (w n : Nat) (left : Bool) (v : Word) : Prop :=
  ∀ j, j < w → byteAt v (partByte w left j)
    = if j < n then seenByte s (partLane s pa left j) else byteAt old (partByte w left j)

/-- The instruction completes: it stores `n` bytes of `v` as a part, its uppermost or its lowest one at the address, as `left`
says, and does nothing else. -/
def StoresPart (s : State) (o : Out) (pa : PAddr) (v : Word) (w n : Nat) (left : Bool) : Prop :=
  ∃ t, o = .next t
    ∧ (∀ j, j < n → seenByte t (partLane s pa left j) = byteAt v (partByte w left j))
    ∧ (∀ x, (∀ j, j < n → x ≠ partLane s pa left j) → seenByte t x = seenByte s x)
    ∧ MovesOn s t ∧ (∀ r, gprRead t r = gprRead s r)
    ∧ t = { s with wbuf := t.wbuf, codeStores := t.codeStores, pc := t.pc, delay := t.delay }

/-- A partial load at an uncached address merges what loads see at its part. -/
theorem merges_uncached (hw : w = 4 ∨ w = 8) {extend : Word → Word} (hi : exec i s
      = loadPart s base rt offset (partOf left) w fun n v old => extend (mergePart left w n v old))
    (hc : holdsCopy s.dcache pa = false) (hl : s.lateError = none)
    (hf : readFails s (busAddress s (pa.toNat / 8 * 8)) 8 = false) :
    let va := gprRead s base + offset.signExtend 64
    Machine.translate s va .load = .ok pa 2 →
    ∃ v, MergedPart s pa (gprRead s rt) w (partCount s va w left) left v ∧ WritesGpr (waited s) (exec i s) rt (extend v) := by
  intro va ht
  have hmod := translate_mod ht
  obtain ⟨hsame, hfits⟩ := partFirst_within (s := s) (left := left) hw hmod
  obtain ⟨hpos, hcount⟩ := partCount_bounds s va hw left
  obtain ⟨x, hx, hbytes, -⟩ := physRead_uncached hpos hfits (by rwa [holdsCopy_congr hsame]) hl (by rwa [hsame])
  obtain ⟨v, hv, hmerge⟩ := merges_of hw hi ht x _ hx
  refine ⟨v, fun j hj => ?_, hv⟩
  rw [hmerge _ (partByte_lt left hj), mergedByte_partByte left hj hcount]
  refine ite_congr rfl (fun hjm => ?_) fun _ => rfl
  rw [← byteIndex_partIndex hjm, ← laneOf_partFirst hw hmod hjm]
  exact hbytes _ (partIndex_lt hjm)

/-- A partial store at an uncached address puts its part into the write buffer. -/
theorem storesPart_uncached (hw : w = 4 ∨ w = 8) {lower : Nat → Word} (hl : LowerPart left w (gprRead s rt) lower)
    (hi : exec i s = storePart s base offset (partOf left) w lower) (hm : Memory.wf s.mem = true)
    (hc : holdsCopy s.dcache pa = false) :
    let va := gprRead s base + offset.signExtend 64
    Machine.translate s va .store = .ok pa 2 →
    StoresPart s (exec i s) pa (gprRead s rt) w (partCount s va w left) left := by
  intro va ht
  have hmod := translate_mod ht
  obtain ⟨hsame, hfits⟩ := partFirst_within (s := s) (left := left) hw hmod
  obtain ⟨-, hcount⟩ := partCount_bounds s va hw left
  have hends := parts_of hw hl hi ht _ _ (fun j hj => hl _ j hcount hj)
    (physWrite_uncached (by rwa [holdsCopy_congr hsame]) (lower (partCount s va w left)))
  obtain ⟨t, ho, ⟨hin, hout, -⟩, hgpr, hmoves, hrest⟩ := stores_of_doesNothing hm hfits hends
  refine ⟨t, ho, fun j hj => ?_, fun x hx => hout x fun k hk => ?_, hmoves, hgpr, hrest⟩
  · rw [← laneOf_partFirst hw hmod hj, hin _ (partIndex_lt hj), byteIndex_partIndex hj]
    refine (hl _ _ hcount (partByte_lt left hj)).trans ?_
    unfold partByte
    congr 1
    split <;> omega
  · rw [← partIndex_partIndex hk, laneOf_partFirst hw hmod (partIndex_lt hk)]
    exact hx _ (partIndex_lt hk)

end Partial

/-- Settles O29: each partial load reads its part of the doubleword and merges it. -/
theorem uncachedPartialLoads : Obligations.UncachedPartialLoads := by
  intro s base rt offset pa va be old t n lane leftMerged rightMerged ht hc hl hf
  have merges : ∀ {w left i} {extend : Word → Word}, w = 4 ∨ w = 8 → exec i s
      = loadPart s base rt offset (partOf left) w (fun n v old => extend (mergePart left w n v old)) →
      ∃ v, MergedPart s pa old w (n w left) left v ∧ WritesGpr t (exec i s) rt (extend v) := by
    intro w left i extend hw hi
    have h := merges_uncached hw hi hc hl hf ht
    rw [partCount_eq] at h
    exact h
  exact ⟨merges (.inl rfl) (exec_lwl s base rt offset), merges (.inl rfl) (exec_lwr s base rt offset),
    fun hx => merges (extend := id) (left := true) (.inr rfl) (need64_of hx),
    fun hx => merges (extend := id) (left := false) (.inr rfl) (need64_of hx)⟩

/-- Settles O31: each partial store writes its part of the doubleword. -/
theorem uncachedPartialStores : Obligations.UncachedPartialStores := by
  intro s base rt offset pa va be v n lane puts hm ht hc
  have parts : ∀ {w left lower i}, w = 4 ∨ w = 8 → LowerPart left w v lower →
      exec i s = storePart s base offset (partOf left) w lower → puts (exec i s) w left := by
    intro w left lower i hw hl hi
    have h := storesPart_uncached hw hl hi hm hc ht
    rw [partCount_eq] at h
    exact h
  exact ⟨parts (.inl rfl) (lowerPart_left32 v) rfl, parts (.inl rfl) (lowerPart_right 4 v) rfl, fun hx =>
    ⟨parts (.inr rfl) (lowerPart_left64 v) (need64_of hx), parts (.inr rfl) (lowerPart_right 8 v) (need64_of hx)⟩⟩

end Sys2Proof.Proofs.UncachedAccess
end

section
/-! SYSCALL, BREAK and the traps (45_trap.md R590 to R604): a conditional trap ends as `trapIf` does, on a test that compares the
numbers two registers, or a register and the extended immediate, stand for. -/

namespace Sys2Proof.Proofs.Trap

open Sys2Proof.Machine Sys2Proof.Laws Sys2Proof.Claims
open IntArith (decode_of_encode_eq)

/-! The conditions, on whole registers. -/

section Conditions

variable (a b : Word)

theorem not_slt_iff : (!a.slt b) = true ↔ b.toInt ≤ a.toInt := by
  rw [Bool.not_eq_true', ← Bool.not_eq_true, BitVec.slt_iff_toInt_lt, not_lt]

theorem not_ult_iff : (!a.ult b) = true ↔ b.toNat ≤ a.toNat := by
  rw [Bool.not_eq_true', ← Bool.not_eq_true, BitVec.ult_iff_lt, BitVec.not_lt, BitVec.le_def]

end Conditions

/-- The two ends of a conditional trap, by what its test says (R590). -/
theorem traps_trapIf (s : State) {c : Bool} {p : Prop} (hc : c = true ↔ p) :
    (p → Raises s (trapIf s c) 13) ∧ (¬ p → DoesNothing s (trapIf s c)) := by
  refine ⟨fun h => ?_, fun h => ?_⟩
  · rw [trapIf, if_pos (hc.2 h)]
    exact raises_plain (e := .tr) rfl s
  · rw [trapIf, if_neg (mt hc.1 h)]
    exact doesNothing_done s

/-- Settles O39: SYSCALL and BREAK are the entry of their exception, and each conditional trap has its own test; the words are
those of the encoder. -/
theorem trapsSystemCallsAndBreaks : Obligations.TrapsSystemCallsAndBreaks := by
  intro s rs rt code code' imm
  exact ⟨raises_plain (e := .sys) rfl s, raises_plain (e := .bp) rfl s,
    traps_trapIf s (not_slt_iff ..), traps_trapIf s (not_ult_iff ..), traps_trapIf s BitVec.slt_iff_toInt_lt,
    traps_trapIf s BitVec.ult_iff_lt, traps_trapIf s beq_iff_eq, traps_trapIf s bne_iff_ne,
    traps_trapIf s (not_slt_iff ..), traps_trapIf s (not_ult_iff ..), traps_trapIf s BitVec.slt_iff_toInt_lt,
    traps_trapIf s BitVec.ult_iff_lt, traps_trapIf s beq_iff_eq, traps_trapIf s bne_iff_ne,
    decode_of_encode_eq rfl (code20_split ..).symm, decode_of_encode_eq rfl (code20_split ..).symm,
    decode_of_encode_eq rfl (code10_split ..).symm, decode_of_encode_eq rfl (code10_split ..).symm,
    decode_of_encode_eq rfl (code10_split ..).symm, decode_of_encode_eq rfl (code10_split ..).symm,
    decode_of_encode_eq rfl (code10_split ..).symm, decode_of_encode_eq rfl (code10_split ..).symm,
    decode_of_encode_eq rfl (imm_split ..).symm, decode_of_encode_eq rfl (imm_split ..).symm,
    decode_of_encode_eq rfl (imm_split ..).symm, decode_of_encode_eq rfl (imm_split ..).symm,
    decode_of_encode_eq rfl (imm_split ..).symm, decode_of_encode_eq rfl (imm_split ..).symm⟩

end Sys2Proof.Proofs.Trap
end

section
/-! The test of coprocessor 0 comes before everything else (46_cp0.md R610; 60_exceptions.md R811). -/

namespace Sys2Proof.Proofs.Cp0Privilege

open Sys2Proof.Machine Sys2Proof.Laws Sys2Proof.Claims

theorem cp0Usable_eq_false {s : State} (hm : currentMode s ≠ .kernel) (hcu : s.cp0.status.cu0 = false) :
    cp0Usable s = false := by
  simp [cp0Usable, hm, hcu]

theorem raisesCpu_needCp0 {s : State} (h : cp0Usable s = false) (k : Out) : RaisesCpu s (needCp0 s k) 0 := by
  rw [needCp0, h, if_neg Bool.false_ne_true]
  exact raisesCpu_raise 0 s

/-- Settles O42: the meaning of each of the twelve begins with the test. -/
theorem cp0InstructionsArePrivileged : Obligations.Cp0InstructionsArePrivileged := by
  intro s rt rd base sel code op offset hm hcu
  have hu := cp0Usable_eq_false hm hcu
  simp only [List.forall_mem_cons, List.not_mem_nil, false_imp_iff, implies_true, and_true]
  and_intros
  all_goals exact raisesCpu_needCp0 hu _

end Sys2Proof.Proofs.Cp0Privilege
end

section
/-! Sleep (60_exceptions.md R860, R861): WAIT and a Status with RP = 1 enter it the same way (46_cp0.md R615, R627), and an active
pin ends it. -/

namespace Sys2Proof.Proofs.Sleep

open Sys2Proof.Machine Sys2Proof.Laws Sys2Proof.Claims MoveToCp0

/-! The two ends of an instruction that asks for sleep. `after` is the state it has made so far, given the one it ends in. -/

/-- The processor sleeps with an empty write buffer, behind the instruction, or at it in a delay slot. -/
def Sleeps (s : State) (o : Out) (after : State → State) : Prop :=
  ∃ t, o = .next t ∧ t.sleeping = true ∧ t.wbuf = [] ∧ (∀ lane, readByte t.mem lane = seenByte s lane)
    ∧ (if s.delay.isSome then t.pc = s.pc ∧ t.delay = s.delay else t.pc = s.pc + 4 ∧ t.delay = none)
    ∧ t = { after t with sleeping := true, wbuf := [], mem := t.mem, pc := t.pc, delay := t.delay }

/-- A pin is active: RP is cleared, the write buffer is empty, and execution goes on. -/
def GoesOn (s : State) (o : Out) (after : State → State) : Prop :=
  ∃ t, o = .next t ∧ t.cp0.status.rp = false ∧ t.wbuf = [] ∧ (∀ lane, readByte t.mem lane = seenByte s lane) ∧ MovesOn s t
    ∧ t = { after t with wbuf := [], mem := t.mem, pc := t.pc, delay := t.delay }

section Enter

variable {s : State}

theorem enterSleep_of_pins (hp : s.intPins ≠ 0) :
    enterSleep s = setStatus (advance (drainAll s)) { s.cp0.status with rp := false } :=
  if_pos (bne_iff_ne.2 hp)

theorem enterSleep_of_no_pins (hp : s.intPins = 0) :
    enterSleep s = { (if s.delay.isSome then drainAll s else advance (drainAll s)) with sleeping := true } := by
  simp [enterSleep, hp]

theorem sleeps_enterSleep (hp : s.intPins = 0) : Sleeps s (.next (enterSleep s)) fun _ => s := by
  rw [enterSleep_of_no_pins hp]
  cases hd : s.delay with
  | none =>
    rw [Option.isSome_none, if_neg Bool.false_ne_true, advance_eq]
    refine ⟨_, rfl, rfl, rfl, fun _ => rfl, ?_, rfl⟩
    simp [hd, drainAll]
  | some a =>
    rw [Option.isSome_some, if_pos rfl]
    refine ⟨_, rfl, rfl, rfl, fun _ => rfl, ?_, rfl⟩
    simp [hd, drainAll]

theorem goesOn_enterSleep (hp : s.intPins ≠ 0) : GoesOn s (.next (enterSleep s)) fun _ =>
    { s with cp0 := { s.cp0 with status := { s.cp0.status with rp := false } } } := by
  rw [enterSleep_of_pins hp, advance_eq]
  exact ⟨_, rfl, rfl, rfl, fun _ => rfl, ⟨rfl, rfl⟩, rfl⟩

end Enter

/-! A write of Status. -/

/-- The state after a write of Status, the FPU registers as in `t` where FR changes (10_state.md R48). -/
def statusMoved (s : State) (v : Word) (rp : Bool) (t : State) : State :=
  if v.getLsbD 26 = s.cp0.status.fr then { s with cp0 := statusWritten s.cp0 v rp }
  else { s with cp0 := statusWritten s.cp0 v rp, fpr := t.fpr, fprFormat := t.fprFormat, draws := t.draws }

section FreeFprs

variable (s : State) (c : Cp0) (x : Vector Word 32) (y : Vector FprFormat 32) (n : Nat)

theorem sleeps_freeFprs (hp : s.intPins = 0) :
    Sleeps s (.next (enterSleep { s with cp0 := c, fpr := x, fprFormat := y, draws := n })) fun t =>
      { s with cp0 := c, fpr := t.fpr, fprFormat := t.fprFormat, draws := t.draws } := by
  obtain ⟨t, ht, hs, hw, hm, hd, he⟩ :=
    sleeps_enterSleep (s := { s with cp0 := c, fpr := x, fprFormat := y, draws := n }) hp
  exact ⟨t, ht, hs, hw, hm, hd, by rw [he]⟩

theorem goesOn_freeFprs (hp : s.intPins ≠ 0) :
    GoesOn s (.next (enterSleep { s with cp0 := c, fpr := x, fprFormat := y, draws := n })) fun t =>
      { s with cp0 := { c with status := { c.status with rp := false } }, fpr := t.fpr, fprFormat := t.fprFormat
               draws := t.draws } := by
  obtain ⟨t, ht, hs, hw, hm, hd, he⟩ :=
    goesOn_enterSleep (s := { s with cp0 := c, fpr := x, fprFormat := y, draws := n }) hp
  exact ⟨t, ht, hs, hw, hm, hd, by rw [he]⟩

end FreeFprs

section Status

variable {s : State} {v : Word} (hv : v.getLsbD 27 = true)
include hv

theorem writeCp0_status_sleeps : writeCp0 s 12 0 v = .next (enterSleep (cp0Write s .status v)) := by
  have hk : changesK0InKseg0 s .status v = false := changesK0InKseg0_of_ne (by decide)
  have hrp : (cp0Write s .status v).cp0.status.rp = true := by
    rw [cp0Write_status]
    split <;> exact hv
  unfold writeCp0
  rw [show cp0Name 12 0 = .status from rfl]
  simp [hk, hrp]

theorem sleeps_writeCp0_status (hp : s.intPins = 0) : Sleeps s (writeCp0 s 12 0 v) (statusMoved s v true) := by
  rw [writeCp0_status_sleeps hv, cp0Write_status, hv]
  unfold statusMoved
  split
  · exact sleeps_enterSleep (s := { s with cp0 := statusWritten s.cp0 v true }) hp
  · exact sleeps_freeFprs s (statusWritten s.cp0 v true) _ _ _ hp

theorem goesOn_writeCp0_status (hp : s.intPins ≠ 0) : GoesOn s (writeCp0 s 12 0 v) (statusMoved s v false) := by
  rw [writeCp0_status_sleeps hv, cp0Write_status, hv]
  unfold statusMoved
  split
  · exact goesOn_enterSleep (s := { s with cp0 := statusWritten s.cp0 v true }) hp
  · exact goesOn_freeFprs s (statusWritten s.cp0 v true) _ _ _ hp

end Status

/-! The step of a processor that sleeps. -/

/-- The state in which the sleep has ended. -/
def awoken (s : State) : State :=
  { s with sleeping := false, cp0 := { s.cp0 with status := { s.cp0.status with rp := false } } }

section Step

variable {s : State} (hr : s.resetRequest = none) (hn : s.nmiPending = false)
include hr hn

theorem step_asleep (hs : s.sleeping = true) (hp : s.intPins = 0) : step s = .next (boundary s) := by
  have ha : nextAction s = .over (.next s) := by simp [nextAction, hr, hn, hs, hp]
  unfold step runStep
  rw [ha]
  rfl

theorem nextAction_awake (hs : s.sleeping = false) : nextAction s = awakeAction s := by
  simp [nextAction, hr, hn, hs]

theorem nextAction_wakes (hs : s.sleeping = true) (hp : s.intPins ≠ 0) : nextAction s = awakeAction (wake s) := by
  simp only [nextAction, hr, hn, hs, beq_false_of_ne hp, Bool.and_false, Bool.false_eq_true, if_false, if_true]

/-- The step that ends a sleep is the one of the state `wake` answers. -/
theorem step_wakes {t : State} (hs : s.sleeping = true) (hp : s.intPins ≠ 0) (hw : wake s = t) (ht : t.sleeping = false)
    (htr : t.resetRequest = s.resetRequest) (htn : t.nmiPending = s.nmiPending) : step s = step t := by
  have he : nextAction s = nextAction t := by
    rw [nextAction_wakes hr hn hs hp, nextAction_awake (htr.trans hr) (htn.trans hn) ht, hw]
  unfold step runStep
  rw [he]

end Step

/-- Neither sleep nor RP makes an interrupt due. -/
theorem interruptDue_awoken (s : State) : interruptDue (awoken s) = interruptDue s := rfl

theorem wake_stays {s : State} (h : s.delay = none ∨ interruptDue s = true) : wake s = awoken s := by
  have hc : ((awoken s).delay.isSome && !interruptDue (awoken s)) = false := by
    rw [interruptDue_awoken]
    rcases h with h | h <;> simp [awoken, h]
  change (if ((awoken s).delay.isSome && !interruptDue (awoken s)) = true then _ else awoken s) = _
  rw [hc, if_neg Bool.false_ne_true]

theorem wake_leaves_slot {s : State} {target : Word} (hd : s.delay = some target) (hi : interruptDue s = false) :
    wake s = { awoken s with pc := target, delay := none } := by
  have hda : (awoken s).delay = some target := hd
  change (if ((awoken s).delay.isSome && !interruptDue (awoken s)) = true then advance (awoken s) else _) = _
  rw [interruptDue_awoken, hi, hda, Option.isSome_some, Bool.not_false, Bool.and_self, if_pos rfl, advance_eq, hda]

/-- Settles O45: both instructions end in `enterSleep`, and a step of the sleeping processor begins with `wake`. -/
theorem sleepUntilAPinWakes : Obligations.SleepUntilAPinWakes := by
  intro s code rt v sleeps goesOn both written
  have exec_wait (hc : cp0Usable s = true) : exec (.wait code) s = .next (enterSleep s) := needCp0_of hc
  refine ⟨fun hc hp => ?_, fun hc hp => ?_, fun hc hv => ⟨fun hp => ?_, fun hp => ?_⟩,
    fun hs hr _ hn => ⟨step_asleep hr hn hs, fun hp => ⟨fun h => ?_, fun target hd hi => ?_⟩⟩⟩
  · rw [exec_wait hc]
    exact sleeps_enterSleep hp
  · rw [exec_wait hc]
    exact goesOn_enterSleep hp
  · exact both_of_writeCp0 hc (p := fun o => Sleeps s o _) (sleeps_writeCp0_status hv hp)
  · exact both_of_writeCp0 hc (p := fun o => GoesOn s o _) (goesOn_writeCp0_status hv hp)
  · exact step_wakes hr hn hs hp (wake_stays h) rfl rfl rfl
  · exact step_wakes hr hn hs hp (wake_leaves_slot hd hi) rfl rfl rfl

end Sys2Proof.Proofs.Sleep
end

section
/-! The CACHE instruction (46_cp0.md R630 to R647): its operations on an indexed line, on the ways that hold an address, and its
fills. -/

namespace Sys2Proof.Proofs.CacheOps

open Sys2Proof.Machine Sys2Proof.Laws Sys2Proof.Claims CacheMiss CacheHit Fetch

/-! What the operations do to a cache and to the state. -/

/-- Cache `e` is cache `c` with `f` done to one line. -/
structure LineChanged (c e : Cache) (w l : Nat) (f : CacheLine → CacheLine) : Prop where
  line : getLine e w l = f (getLine c w l)
  others : OtherLines c e w l
  ws : e.ws = c.ws

/-- The instruction completes with `f` done to a line of the instruction cache. -/
def ChangesInstLine (s : State) (o : Out) (w l : Nat) (f : CacheLine → CacheLine) : Prop :=
  ∃ u, o = .next u ∧ MovesOn s u ∧ getLine u.icache w l = f (getLine s.icache w l) ∧ OtherLines s.icache u.icache w l
    ∧ u.icache.ws = s.icache.ws
    ∧ u = { s with icache := u.icache, codeStores := u.codeStores, pc := u.pc, delay := u.delay }

/-- The instruction completes with `f` done to a line of the data cache and these writes in the write buffer. -/
def ChangesDataLine (s : State) (o : Out) (w l : Nat) (f : CacheLine → CacheLine) (written : List BusWrite) : Prop :=
  ∃ u, o = .next u ∧ MovesOn s u ∧ getLine u.dcache w l = f (getLine s.dcache w l) ∧ OtherLines s.dcache u.dcache w l
    ∧ u.dcache.ws = s.dcache.ws ∧ u.wbuf = s.wbuf ++ written
    ∧ u = { s with dcache := u.dcache, wbuf := u.wbuf, pc := u.pc, delay := u.delay }

/-- The same for one of the ways that hold an address; that there are several is noted (log 11). -/
def ChangesInstHit (s : State) (o : Out) (ways : List Nat) (l : Nat) (f : CacheLine → CacheLine) : Prop :=
  ∃ u, ∃ w ∈ ways, o = .next u ∧ MovesOn s u ∧ getLine u.icache w l = f (getLine s.icache w l)
    ∧ OtherLines s.icache u.icache w l ∧ u.icache.ws = s.icache.ws
    ∧ u = { s with icache := u.icache, codeStores := u.codeStores, draws := if ways.length = 1 then s.draws else u.draws,
                   pc := u.pc, delay := u.delay, cp0 := { s.cp0 with errCtl := { s.cp0.errCtl with
                     imh := s.cp0.errCtl.imh || decide (1 < ways.length) } } }

/-- The same of the data cache, with the writes the line asks for in the write buffer. -/
def ChangesDataHit (s : State) (o : Out) (ways : List Nat) (l : Nat) (f : CacheLine → CacheLine)
    (written : CacheLine → List BusWrite) : Prop :=
  ∃ u, ∃ w ∈ ways, o = .next u ∧ MovesOn s u ∧ getLine u.dcache w l = f (getLine s.dcache w l)
    ∧ OtherLines s.dcache u.dcache w l ∧ u.dcache.ws = s.dcache.ws ∧ u.wbuf = s.wbuf ++ written (getLine s.dcache w l)
    ∧ u = { s with dcache := u.dcache, wbuf := u.wbuf, draws := if ways.length = 1 then s.draws else u.draws,
                   pc := u.pc, delay := u.delay, cp0 := { s.cp0 with errCtl := { s.cp0.errCtl with
                     dmh := s.cp0.errCtl.dmh || decide (1 < ways.length) } } }

/-- The instruction completes and changes nothing but what a fill changes. -/
def KeepsRest (s u : State) : Prop := MovesOn s u ∧ (∀ r, gprRead u r = gprRead s r) ∧ u = { s with
  icache := u.icache, dcache := u.dcache, mem := u.mem, wbuf := u.wbuf, draws := u.draws, pc := u.pc, delay := u.delay,
  cp0 := { s.cp0 with errCtl := { s.cp0.errCtl with wse := u.cp0.errCtl.wse } } }

/-- A line that a fill at `pa` has brought in, locked or not. -/
def Fresh (x : CacheLine) (pa : PAddr) (l : Bool) : Prop := x.v = true ∧ x.tag = tagOf pa ∧ x.l = l

/-- The instruction completes with memory's line in an unlocked way of the instruction cache, locked or not. -/
def FillsInst (s : State) (o : Out) (pa : PAddr) (l : Bool) : Prop := ∃ u w, o = .next u ∧ KeepsRest s u
  ∧ w ∈ unlockedWays s.icache pa ∧ u.dcache = s.dcache ∧ u.mem = (waited s).mem ∧ u.wbuf = (waited s).wbuf
  ∧ Fresh (getLine u.icache w (lineOf pa)) pa l ∧ OtherLines s.icache u.icache w (lineOf pa)
  ∧ WaySelectUsed s u s.icache u.icache (lineOf pa)
  ∧ ∀ i : Fin 32, (getLine u.icache w (lineOf pa)).data[i]
      = readByte u.mem (lineKey s (tagOf pa) (lineOf pa) + (if s.latches.bigEndian then i.val else i.val ^^^ 4))

/-- The instruction completes with memory's line, locked, in an unlocked way of the data cache, and the victim in memory. -/
def FillsData (s : State) (o : Out) (pa : PAddr) : Prop := ∃ u w, o = .next u ∧ KeepsRest s u
  ∧ w ∈ unlockedWays s.dcache pa ∧ u.icache = s.icache ∧ VictimWritten s u pa w (seenByte s)
  ∧ Fresh (getLine u.dcache w (lineOf pa)) pa true ∧ (getLine u.dcache w (lineOf pa)).dirty = false
  ∧ OtherLines s.dcache u.dcache w (lineOf pa) ∧ WaySelectUsed s u s.dcache u.dcache (lineOf pa)
  ∧ ∀ i : Fin 32, (getLine u.dcache w (lineOf pa)).data[i] = seenByte u (lineKey s (tagOf pa) (lineOf pa) + i.val)

/-! The changes of one line. -/

section Line

variable {c : Cache} {w l : Nat} {f : CacheLine → CacheLine}

theorem getLine_setLine_same (hc : cacheWf c = true) (x : CacheLine) : getLine (setLine c w l x) w l = x :=
  (getLine_setLine hc).trans (if_pos rfl)

theorem lineChanged_setLine (hc : cacheWf c = true) (hl : l < 128) : LineChanged c (setLine c w l (f (getLine c w l))) w l f :=
  ⟨getLine_setLine_same hc _, otherLines_setLine hc w hl _, rfl⟩

theorem lineChanged_id (c : Cache) (w l : Nat) : LineChanged c c w l id := ⟨rfl, fun _ _ _ _ _ => rfl, rfl⟩

/-- The record of the tags software has initialised is no part of a line. -/
theorem lineChanged_markTag {e : Cache} (h : LineChanged c e w l f) (w' l' : Nat) : LineChanged c (markTag e w' l') w l f :=
  ⟨h.line, h.others, h.ws⟩

theorem otherLines_trans {d e : Cache} (h : OtherLines c d w l) (h' : OtherLines d e w l) : OtherLines c e w l :=
  fun w' l' hw hl hne => (h' w' l' hw hl hne).trans (h w' l' hw hl hne)

end Line

section Ends

variable {s : State} {c : Cache} {w l n : Nat} {f : CacheLine → CacheLine} {ways : List Nat} {b : List BusWrite}

theorem changesInstLine_done (h : LineChanged s.icache c w l f) : ChangesInstLine s (done { s with icache := c }) w l f :=
  ⟨_, congrArg Host.Outcome.next (advance_eq _), ⟨rfl, rfl⟩, h.line, h.others, h.ws, rfl⟩

theorem changesDataLine_done (h : LineChanged s.dcache c w l f) {written : List BusWrite} (hb : b = s.wbuf ++ written) :
    ChangesDataLine s (done { s with dcache := c, wbuf := b }) w l f written :=
  ⟨_, congrArg Host.Outcome.next (advance_eq _), ⟨rfl, rfl⟩, h.line, h.others, h.ws, hb, rfl⟩

/-- The count of free values after a hit: one was used if the way had to be chosen. -/
theorem draws_eq_ite (hn : ways.length = 1 → n = s.draws) : (if ways.length = 1 then s.draws else n) = n := by
  split
  next h => exact (hn h).symm
  next => rfl

theorem changesInstHit_done (h : LineChanged s.icache c w l f) (hw : w ∈ ways) (hn : ways.length = 1 → n = s.draws)
    (k : List (Nat × CodeLine)) : ChangesInstHit s (done { s with
      icache := c, codeStores := k, draws := n
      cp0 := { s.cp0 with errCtl := { s.cp0.errCtl with imh := s.cp0.errCtl.imh || decide (1 < ways.length) } } }) ways l f := by
  refine ⟨_, w, hw, congrArg Host.Outcome.next (advance_eq _), ⟨rfl, rfl⟩, h.line, h.others, h.ws, ?_⟩
  dsimp only
  rw [draws_eq_ite hn]

theorem changesDataHit_done (h : LineChanged s.dcache c w l f) (hw : w ∈ ways) (hn : ways.length = 1 → n = s.draws)
    {written : CacheLine → List BusWrite} (hb : b = s.wbuf ++ written (getLine s.dcache w l)) :
    ChangesDataHit s (done { s with
      dcache := c, wbuf := b, draws := n
      cp0 := { s.cp0 with errCtl := { s.cp0.errCtl with dmh := s.cp0.errCtl.dmh || decide (1 < ways.length) } } })
      ways l f written := by
  refine ⟨_, w, hw, congrArg Host.Outcome.next (advance_eq _), ⟨rfl, rfl⟩, h.line, h.others, h.ws, hb, ?_⟩
  dsimp only
  rw [draws_eq_ite hn]

end Ends

/-! The instruction by its code. -/

section Code

variable {s : State} (hu : cp0Usable s = true) (base : RegNum) (offset : BitVec 16)
include hu

theorem exec_standard (hw : s.cp0.errCtl.wst = false) (op : BitVec 5) {d : Side} (hd : cacheSide op = some d) :
    exec (.cache base op offset) s = finish (cacheStandard s d (op.extractLsb' 2 3) (baseOffset s base offset)) := by
  change execCache base op offset s = _
  rw [execCache, needCp0_of hu, hd, hw]
  rfl

theorem exec_diagnostic (hw : s.cp0.errCtl.wst = true) (op : BitVec 5) {d : Side} (hd : cacheSide op = some d) :
    exec (.cache base op offset) s = finish (cacheDiagnostic s d (op.extractLsb' 2 3) (baseOffset s base offset)) := by
  change execCache base op offset s = _
  rw [execCache, needCp0_of hu, hd, hw]
  rfl

/-- Selectors 2 and 3 name no cache (R646 a). -/
theorem exec_noCache {op : BitVec 5} (h : op.getLsbD 1 = true) : DoesNothing s (exec (.cache base op offset) s) := by
  have hd : cacheSide op = none := by
    revert op
    decide
  change DoesNothing s (execCache base op offset s)
  rw [execCache, needCp0_of hu, hd]
  exact doesNothing_done s

end Code

/-! The operations on an indexed line. -/

section Index

variable {s : State} (ea : Word)

theorem indexLine_lt : indexLine ea < 128 := by
  unfold indexLine
  omega

/-- The writes that bring a line to memory (R633). -/
def lineOut (s : State) (x : CacheLine) (l : Nat) : List BusWrite := [{ key := lineKey s x.tag l, bytes := x.data.toList }]

theorem wbuf_writeBack_ite (s : State) (x : CacheLine) (l : Nat) (c : Bool) :
    (if c then writeBack s x l else s) = { s with wbuf := s.wbuf ++ if c then lineOut s x l else [] } := by
  cases c
  · simp
  · rfl

/-- The line with TagLo's tag and bits and the doubleword of DataLo in it (R645). -/
def taggedData (t : BitVec 26) (v : Word) (dw : Nat) (x : CacheLine) : CacheLine :=
  { taggedLine t x with data := Vector.ofFn fun i =>
      if 8 * dw ≤ i.val ∧ i.val < 8 * dw + 8 then v.extractLsb' (8 * (7 - (i.val - 8 * dw))) 8 else x.data[i] }

theorem patchLine_taggedLine (t : BitVec 26) (v : Word) (dw : Nat) (x : CacheLine) :
    patchLine (taggedLine t x) (8 * dw) (splitBytes 8 v) = taggedData t v dw x := by
  have hdata : (patchLine (taggedLine t x) (8 * dw) (splitBytes 8 v)).data = (taggedData t v dw x).data := by
    refine Vector.ext fun i hi => ?_
    have h := patchLine_data (taggedLine t x) (8 * dw) 8 v ⟨i, hi⟩
    simpa [taggedData, taggedLine] using h
  exact congrArg (fun y => { taggedLine t x with data := y }) hdata

/-- What Index Store Tag makes of the line, without the doubleword of DataLo and with it. -/
def storedTag (s : State) (ea : Word) (data : Bool) : CacheLine → CacheLine :=
  if data then taggedData s.cp0.tagLo s.cp0.dataLo (indexDword ea) else taggedLine s.cp0.tagLo

theorem indexStoreTag_eq (s : State) (d : Side) (ea : Word) (data : Bool) : indexStoreTag s d ea data =
    setCache s d (markTag (setLine (getCache s d) (indexWay ea) (indexLine ea)
      (storedTag s ea data (getLine (getCache s d) (indexWay ea) (indexLine ea)))) (indexWay ea) (indexLine ea)) := by
  cases data
  · rfl
  · change setCache s d (markTag (setLine _ _ _ (patchLine _ _ _)) _ _) = _
    rw [patchLine_taggedLine]
    rfl

theorem changesInstLine_indexStoreTag (hc : cacheWf s.icache = true) (data : Bool) :
    ChangesInstLine s (done (indexStoreTag s .inst ea data)) (indexWay ea) (indexLine ea) (storedTag s ea data) := by
  rw [indexStoreTag_eq]
  exact changesInstLine_done (lineChanged_markTag (lineChanged_setLine hc (indexLine_lt ea)) _ _)

theorem changesDataLine_indexStoreTag (hc : cacheWf s.dcache = true) (data : Bool) :
    ChangesDataLine s (done (indexStoreTag s .data ea data)) (indexWay ea) (indexLine ea) (storedTag s ea data) [] := by
  rw [indexStoreTag_eq]
  exact changesDataLine_done (lineChanged_markTag (lineChanged_setLine hc (indexLine_lt ea)) _ _) (List.append_nil _).symm

theorem changesInstLine_indexInvalidate (hc : cacheWf s.icache = true) :
    ChangesInstLine s (done (indexInvalidate s .inst ea)) (indexWay ea) (indexLine ea) invalidated :=
  changesInstLine_done (lineChanged_markTag (lineChanged_setLine hc (indexLine_lt ea)) _ _)

theorem changesDataLine_indexInvalidate (hc : cacheWf s.dcache = true) : let old := getLine s.dcache (indexWay ea) (indexLine ea)
    ChangesDataLine s (done (indexInvalidate s .data ea)) (indexWay ea) (indexLine ea) invalidated
      (if old.v && old.dirty then lineOut s old (indexLine ea) else []) := by
  unfold indexInvalidate
  dsimp only
  rw [beq_self_eq_true, Bool.true_and, wbuf_writeBack_ite]
  exact changesDataLine_done (lineChanged_markTag (lineChanged_setLine hc (indexLine_lt ea)) _ _) rfl

/-- Index Load Tag: TagLo has the line's tag, V and L, DataLo its doubleword (R634). -/
theorem indexLoadTag_done (d : Side) : let x := getLine (getCache s d) (indexWay ea) (indexLine ea)
    ∃ u, done (indexLoadTag s d ea) = .next u ∧ MovesOn s u
      ∧ u.cp0.tagLo = BitVec.ofBool x.l ++ BitVec.ofBool x.v ++ x.tag
      ∧ (∀ k : Fin 8, ∀ i : Fin 32, i.val = 8 * indexDword ea + k.val →
          u.cp0.dataLo.extractLsb' (8 * (7 - k.val)) 8 = x.data[i])
      ∧ u = { s with cp0 := { s.cp0 with tagLo := u.cp0.tagLo, dataLo := u.cp0.dataLo }, pc := u.pc, delay := u.delay } := by
  refine ⟨_, congrArg Host.Outcome.next (advance_eq _), ⟨rfl, rfl⟩, rfl, fun k i hi => ?_, rfl⟩
  have hdw : indexDword ea < 4 := by
    unfold indexDword
    omega
  have h := joinBytes_lineBytes_byte (getLine (getCache s d) (indexWay ea) (indexLine ea)) (n := 8) (by omega)
    (by omega : 8 * indexDword ea + 8 ≤ 32) i (by omega) (by omega)
  rwa [show i.val - 8 * indexDword ea = k.val by omega] at h

end Index

/-! The operations on Way Select words (R642 to R644). -/

section WaySelect

/-- A register that takes the bits of a mask from one word and the others from another. -/
theorem getLsbD_masked {n : Nat} (known free mask : BitVec n) {i : Nat} (hm : mask.getLsbD i = true) :
    ((known &&& mask) ||| (free &&& ~~~mask)).getLsbD i = known.getLsbD i := by
  rw [BitVec.getLsbD_or, BitVec.getLsbD_and, BitVec.getLsbD_and, BitVec.getLsbD_not, hm]
  simp

/-- The bits of the Way Select word in TagLo. -/
theorem getLsbD_wsMask : ∀ i, i < 6 → (0x3F : BitVec 26).getLsbD i = true := by decide

theorem extractLsb'_masked {known free mask : BitVec 26} {ws : BitVec 6} (hm : ∀ i, i < 6 → mask.getLsbD i = true)
    (hk : ∀ i, i < 6 → known.getLsbD i = ws.getLsbD i) :
    ((known &&& mask) ||| (free &&& ~~~mask)).extractLsb' 0 6 = ws := by
  apply BitVec.eq_of_getLsbD_eq
  intro i hi
  rw [BitVec.getLsbD_extractLsb', Nat.zero_add, getLsbD_masked _ _ _ (hm i hi), hk i hi]
  simp [hi]

theorem getLsbD_setWidth_ws (ws : BitVec 6) {i : Nat} (hi : i < 26) : (ws.setWidth 26).getLsbD i = ws.getLsbD i := by
  simp [hi]

/-- Four Dirty bits at bit `k` of TagLo are beside the Way Select word. -/
theorem getLsbD_shifted (x : BitVec 4) {k i : Nat} (h6 : 6 ≤ k) (hi : i < 6) : (x.setWidth 26 <<< k).getLsbD i = false := by
  rw [BitVec.getLsbD_shiftLeft, decide_eq_true (show i < k by omega)]
  simp

theorem getLsbD_shifted_add (x : BitVec 4) {k w : Nat} (h22 : k ≤ 22) (hw : w < 4) :
    (x.setWidth 26 <<< k).getLsbD (k + w) = x.getLsbD w := by
  rw [BitVec.getLsbD_shiftLeft, Nat.add_sub_cancel_left]
  simp [show k + w < 26 by omega, show w < 26 by omega]

/-- The Dirty bits of four ways as one word. -/
theorem getLsbD_four (b3 b2 b1 b0 : Bool) : let x := BitVec.ofBool b3 ++ BitVec.ofBool b2 ++ BitVec.ofBool b1 ++ BitVec.ofBool b0
    x.getLsbD 0 = b0 ∧ x.getLsbD 1 = b1 ∧ x.getLsbD 2 = b2 ∧ x.getLsbD 3 = b3 := by
  revert b3 b2 b1 b0
  decide

variable {s : State} (ea : Word)

theorem indexLoadWs_inst_done : ∃ u, done (indexLoadWs s .inst ea) = .next u ∧ MovesOn s u
    ∧ u.cp0.tagLo.extractLsb' 0 6 = storeGet 0 s.icache.ws (indexLine ea)
    ∧ u = { s with cp0 := { s.cp0 with tagLo := u.cp0.tagLo }, draws := u.draws, pc := u.pc, delay := u.delay } := by
  refine ⟨_, congrArg Host.Outcome.next (advance_eq _), ⟨rfl, rfl⟩, ?_, rfl⟩
  exact extractLsb'_masked getLsbD_wsMask fun i hi => getLsbD_setWidth_ws _ (by omega)

theorem indexLoadWs_data_done (h6 : 6 ≤ s.conf.tagLoDirtyLsb) (h22 : s.conf.tagLoDirtyLsb ≤ 22) :
    ∃ u, done (indexLoadWs s .data ea) = .next u ∧ MovesOn s u
      ∧ u.cp0.tagLo.extractLsb' 0 6 = storeGet 0 s.dcache.ws (indexLine ea)
      ∧ (∀ w, w < 4 → u.cp0.tagLo.getLsbD (s.conf.tagLoDirtyLsb + w) = (getLine s.dcache w (indexLine ea)).dirty)
      ∧ u = { s with cp0 := { s.cp0 with tagLo := u.cp0.tagLo }, draws := u.draws, pc := u.pc, delay := u.delay } := by
  refine ⟨_, congrArg Host.Outcome.next (advance_eq _), ⟨rfl, rfl⟩, ?_, fun w hw => ?_, rfl⟩
  · refine extractLsb'_masked (fun i hi => ?_) fun i hi => ?_
    · rw [BitVec.getLsbD_or, getLsbD_wsMask i hi, Bool.true_or]
    · rw [BitVec.getLsbD_or, getLsbD_setWidth_ws _ (by omega), getLsbD_shifted _ h6 hi, Bool.or_false]
      rfl
  · refine (getLsbD_masked _ _ _ ?_).trans ?_
    · have hf : ∀ w, w < 4 → (0xF : BitVec 4).getLsbD w = true := by decide
      rw [BitVec.getLsbD_or, show (0xF : BitVec 26) = (0xF : BitVec 4).setWidth 26 from rfl, getLsbD_shifted_add _ h22 hw, hf w hw,
        Bool.or_true]
    · rw [BitVec.getLsbD_or, getLsbD_setWidth_ws _ (by omega), getLsbD_shifted_add _ h22 hw,
        BitVec.getLsbD_of_ge _ _ (by omega : 6 ≤ s.conf.tagLoDirtyLsb + w), Bool.false_or]
      obtain ⟨h0, h1, h2, h3⟩ := getLsbD_four (getLine s.dcache 3 (indexLine ea)).dirty
        (getLine s.dcache 2 (indexLine ea)).dirty (getLine s.dcache 1 (indexLine ea)).dirty
        (getLine s.dcache 0 (indexLine ea)).dirty
      interval_cases w
      · exact h0
      · exact h1
      · exact h2
      · exact h3

theorem indexStoreWs_inst_done (hws : storeWf 0 s.icache.ws = true) (hbr : storeWf 0 s.brRam = true) :
    ∃ u, done (indexStoreWs s .inst ea) = .next u ∧ MovesOn s u ∧ u.icache.lines = s.icache.lines
      ∧ (∀ l, storeGet 0 u.icache.ws l
          = if l = indexLine ea then s.cp0.tagLo.extractLsb' 0 6 else storeGet 0 s.icache.ws l)
      ∧ (∀ a, storeGet 0 u.brRam a = if a = indexBrRam ea then s.cp0.tagLo.extractLsb' 6 20 else storeGet 0 s.brRam a)
      ∧ u = { s with icache := u.icache, brRam := u.brRam, pc := u.pc, delay := u.delay } :=
  ⟨_, congrArg Host.Outcome.next (advance_eq _), ⟨rfl, rfl⟩, rfl, fun _ => storeGet_set hws, fun _ => storeGet_set hbr, rfl⟩

theorem cacheWf_setDirty {c : Cache} (hc : cacheWf c = true) (w l : Nat) (b : Bool) : cacheWf (setDirty c w l b) = true :=
  cacheWf_setLine hc

theorem getLine_setDirty {c : Cache} (hc : cacheWf c = true) {w l w' l' : Nat} (hl : l < 128) (hl' : l' < 128) (b : Bool) :
    getLine (setDirty c w l b) w' l' = if w' = w ∧ l' = l then { getLine c w' l' with dirty := b } else getLine c w' l' := by
  refine (getLine_setLine hc).trans ?_
  by_cases h : w' = w ∧ l' = l
  · obtain ⟨rfl, rfl⟩ := h
    rw [if_pos rfl, if_pos ⟨rfl, rfl⟩]
  · rw [if_neg h, if_neg (by omega)]

/-- The Dirty bits of the four ways of a line set to four bits. -/
def setDirties (c : Cache) (l : Nat) (b : Nat → Bool) : Cache :=
  setDirty (setDirty (setDirty (setDirty c 0 l (b 0)) 1 l (b 1)) 2 l (b 2)) 3 l (b 3)

theorem getLine_setDirties {c : Cache} (hc : cacheWf c = true) {w l l' : Nat} (hw : w < 4) (hl : l < 128) (hl' : l' < 128)
    (b : Nat → Bool) : getLine (setDirties c l b) w l'
      = if l' = l then { getLine c w l' with dirty := b w } else getLine c w l' := by
  have h0 := cacheWf_setDirty hc 0 l (b 0)
  have h1 := cacheWf_setDirty h0 1 l (b 1)
  have h2 := cacheWf_setDirty h1 2 l (b 2)
  unfold setDirties
  rw [getLine_setDirty h2 hl hl', getLine_setDirty h1 hl hl', getLine_setDirty h0 hl hl', getLine_setDirty hc hl hl']
  interval_cases w <;> simp

theorem indexStoreWs_data_done (hc : cacheWf s.dcache = true) : ∃ u, done (indexStoreWs s .data ea) = .next u ∧ MovesOn s u
    ∧ (∀ l, storeGet 0 u.dcache.ws l
        = if l = indexLine ea then s.cp0.tagLo.extractLsb' 0 6 else storeGet 0 s.dcache.ws l)
    ∧ (∀ w l, w < 4 → l < 128 → getLine u.dcache w l = if l = indexLine ea
        then { getLine s.dcache w l with dirty := s.cp0.tagLo.getLsbD (s.conf.tagLoDirtyLsb + w) } else getLine s.dcache w l)
    ∧ u = { s with dcache := u.dcache, pc := u.pc, delay := u.delay } := by
  have hws : storeWf 0 s.dcache.ws = true := (Bool.and_eq_true _ _ ▸ hc).2
  refine ⟨_, congrArg Host.Outcome.next (advance_eq _), ⟨rfl, rfl⟩, fun _ => storeGet_set hws, fun w l hw hl => ?_, rfl⟩
  exact getLine_setDirties (Invariant.cacheWf_setWs hc (indexLine ea) (s.cp0.tagLo.extractLsb' 0 6)) hw (indexLine_lt ea) hl
    fun w => s.cp0.tagLo.getLsbD (s.conf.tagLoDirtyLsb + w)

end WaySelect

/-! The operations at an address. -/

section Address

variable {s : State} {ea : Word} {pa : PAddr}

theorem cacheTranslate_cached {cca : BitVec 3} (ht : Machine.translate s ea .load = .ok pa cca)
    (hcca : cca = 0 ∨ cca = 1 ∨ cca = 3) : cacheTranslate s ea = .ok pa s := by
  unfold cacheTranslate
  rw [ht]
  rcases hcca with rfl | rfl | rfl <;> rfl

theorem cacheTranslate_uncached (ht : Machine.translate s ea .load = .ok pa 2) :
    cacheTranslate s ea = .stop .cacheOpUncached := by
  unfold cacheTranslate
  rw [ht]
  rfl

theorem hitAt_uncached (ht : Machine.translate s ea .load = .ok pa 2) (d : Side) (store invalidate : Bool) :
    hitAt s d ea store invalidate = .stop .cacheOpUncached := by
  unfold hitAt
  rw [cacheTranslate_uncached ht, bind_of_stop]

theorem fillAt_uncached (ht : Machine.translate s ea .load = .ok pa 2) (d : Side) (lock : Bool) :
    fillAt s d ea lock = .stop .cacheOpUncached := by
  unfold fillAt
  rw [cacheTranslate_uncached ht, bind_of_stop]

/-! Which way holds the address. -/

/-- The state in which one of the ways that hold an address is taken: that there are several is noted (R117, log 11). -/
def noted (s : State) (d : Side) (ways : List Nat) (n : Nat) : State :=
  let e := s.cp0.errCtl
  let several := decide (1 < ways.length)
  { s with draws := n, cp0 := { s.cp0 with errCtl := match d with
      | .inst => { e with imh := e.imh || several }
      | .data => { e with dmh := e.dmh || several } } }

theorem findWay_none {d : Side} (h : hitWays (getCache s d) pa = []) : findWay s d pa = none := by
  unfold findWay
  rw [h]

theorem findWay_some {d : Side} {ways : List Nat} (hw : hitWays (getCache s d) pa = ways) (h : ways ≠ []) :
    ∃ w ∈ ways, ∃ n, (ways.length = 1 → n = s.draws) ∧ findWay s d pa = some (w, noted s d ways n) := by
  obtain ⟨w, hmem, n, he⟩ := hitWay_mem (s := s) (d := d) h
  have hf : findWay s d pa = some (hitWay s d ways) := by
    unfold findWay
    rw [hw]
    split
    next => exact absurd rfl h
    next => rfl
  rw [hf, he]
  by_cases hl : 1 < ways.length
  · refine ⟨w, hmem, n, fun h1 => by omega, ?_⟩
    rw [if_pos hl]
    unfold noted
    rw [decide_eq_true hl]
    cases d <;> simp only [Bool.or_true] <;> rfl
  · refine ⟨w, hmem, s.draws, fun _ => rfl, ?_⟩
    rw [if_neg hl]
    unfold noted
    rw [decide_eq_false hl]
    cases d <;> simp only [Bool.or_false]

/-! The hit operations. -/

theorem hitAt_none (ht : cacheTranslate s ea = .ok pa s) {d : Side} (hh : hitWays (getCache s d) pa = [])
    (store invalidate : Bool) : hitAt s d ea store invalidate = .ok () (if d == .inst then noteInvalidate s pa else s) := by
  have hf : findWay (if d == .inst then noteInvalidate s pa else s) d pa = none := findWay_none (by cases d <;> exact hh)
  unfold hitAt
  rw [ht, bind_of_ok]
  simp only [hf]

/-- What a hit operation does to the line (R637, R639, R640). -/
def hitLine (store invalidate : Bool) (x : CacheLine) : CacheLine :=
  if invalidate then invalidated x else if store then { x with dirty := false } else x

theorem hitOp_data (s : State) (pa : PAddr) (w : Nat) (store invalidate : Bool) :
    let x := getLine s.dcache w (lineOf pa)
    hitOp s .data pa w store invalidate =
      { s with dcache := setLine s.dcache w (lineOf pa) (hitLine store invalidate x)
               wbuf := s.wbuf ++ if store && x.dirty then lineOut s x (lineOf pa) else [] } := by
  unfold hitOp
  dsimp only
  rw [wbuf_writeBack_ite]
  rfl

theorem changesInstHit_hitAt (ht : cacheTranslate s ea = .ok pa s) (hc : cacheWf s.icache = true)
    (hh : hitWays s.icache pa ≠ []) : ChangesInstHit s (finish (hitAt s .inst ea false true)) (hitWays s.icache pa) (lineOf pa)
      invalidated := by
  obtain ⟨w, hw, n, hn, hf⟩ := findWay_some (s := noteInvalidate s pa) (d := .inst) rfl hh
  have he : hitAt s .inst ea false true
      = .ok () (hitOp (noted (noteInvalidate s pa) .inst (hitWays s.icache pa) n) .inst pa w false true) := by
    unfold hitAt
    rw [ht, bind_of_ok]
    simp only [beq_self_eq_true, if_true, hf]
    rfl
  rw [he]
  exact changesInstHit_done (lineChanged_setLine (f := invalidated) hc (lineOf_lt pa)) hw hn _

theorem changesDataHit_hitAt (ht : cacheTranslate s ea = .ok pa s) (hc : cacheWf s.dcache = true)
    (hh : hitWays s.dcache pa ≠ []) (store invalidate : Bool) :
    ChangesDataHit s (finish (hitAt s .data ea store invalidate)) (hitWays s.dcache pa) (lineOf pa) (hitLine store invalidate)
      fun x => if store && x.dirty then lineOut s x (lineOf pa) else [] := by
  obtain ⟨w, hw, n, hn, hf⟩ := findWay_some (s := s) (d := .data) rfl hh
  have he : hitAt s .data ea store invalidate
      = .ok () (hitOp (noted s .data (hitWays s.dcache pa) n) .data pa w store invalidate) := by
    unfold hitAt
    rw [ht, bind_of_ok]
    simp only [show (Side.data == Side.inst) = false from rfl, Bool.false_eq_true, if_false, hf]
    rfl
  rw [he, hitOp_data]
  exact changesDataHit_done (lineChanged_setLine hc (lineOf_lt pa)) hw hn rfl

/-! The fills, and the lines they lock (R638, R641). -/

/-- What Fetch And Lock does to a line. -/
def locked (x : CacheLine) : CacheLine := { x with l := true }

theorem fillAt_hit (ht : cacheTranslate s ea = .ok pa s) {d : Side} (hr : cacheReady (getCache s d) = true)
    (hh : hitWays (getCache s d) pa ≠ []) (lock : Bool) : ∃ w ∈ hitWays (getCache s d) pa, ∃ n,
      ((hitWays (getCache s d) pa).length = 1 → n = s.draws) ∧ fillAt s d ea lock = .ok () (if lock
        then lockLine (noted s d (hitWays (getCache s d) pa) n) d pa w else noted s d (hitWays (getCache s d) pa) n) := by
  obtain ⟨w, hw, n, hn, hf⟩ := findWay_some (s := s) (d := d) rfl hh
  refine ⟨w, hw, n, hn, ?_⟩
  unfold fillAt
  rw [ht, bind_of_ok]
  simp only [hr, Bool.not_true, Bool.false_eq_true, if_false, hf]

theorem fillAt_miss (ht : cacheTranslate s ea = .ok pa s) {d : Side} (hr : cacheReady (getCache s d) = true)
    (hh : hitWays (getCache s d) pa = []) (hl : s.lateError = none) (lock : Bool) : fillAt s d ea lock =
      (fillLine s d pa).bind fun w t => .ok () (if lock then lockLine t d pa w else t) := by
  unfold fillAt needBus
  rw [ht, bind_of_ok]
  simp only [hr, Bool.not_true, Bool.false_eq_true, if_false, findWay_none hh, hl, Option.isSome_none]

theorem changesInstHit_fillAt (ht : cacheTranslate s ea = .ok pa s) (hr : cacheReady s.icache = true)
    (hh : hitWays s.icache pa ≠ []) :
    ChangesInstHit s (finish (fillAt s .inst ea false)) (hitWays s.icache pa) (lineOf pa) id := by
  obtain ⟨w, hw, n, hn, he⟩ := fillAt_hit (d := .inst) ht hr hh false
  rw [he]
  exact changesInstHit_done (lineChanged_id _ w _) hw hn s.codeStores

theorem changesInstHit_fillAt_lock (ht : cacheTranslate s ea = .ok pa s) (hc : cacheWf s.icache = true)
    (hr : cacheReady s.icache = true) (hh : hitWays s.icache pa ≠ []) :
    ChangesInstHit s (finish (fillAt s .inst ea true)) (hitWays s.icache pa) (lineOf pa) locked := by
  obtain ⟨w, hw, n, hn, he⟩ := fillAt_hit (d := .inst) ht hr hh true
  rw [he]
  exact changesInstHit_done (lineChanged_setLine (f := locked) hc (lineOf_lt pa)) hw hn s.codeStores

theorem changesDataHit_fillAt_lock (ht : cacheTranslate s ea = .ok pa s) (hc : cacheWf s.dcache = true)
    (hr : cacheReady s.dcache = true) (hh : hitWays s.dcache pa ≠ []) :
    ChangesDataHit s (finish (fillAt s .data ea true)) (hitWays s.dcache pa) (lineOf pa) locked fun _ => [] := by
  obtain ⟨w, hw, n, hn, he⟩ := fillAt_hit (d := .data) ht hr hh true
  rw [he]
  exact changesDataHit_done (written := fun _ => []) (lineChanged_setLine (f := locked) hc (lineOf_lt pa)) hw hn
    (List.append_nil _).symm

/-! The misses. -/

section Miss

variable (ht : cacheTranslate s ea = .ok pa s) (hl : s.lateError = none)
  (hf : readFails s (lineKey s (tagOf pa) (lineOf pa)) 32 = false)
include ht hl hf

theorem fillAt_locked {d : Side} (hr : cacheReady (getCache s d) = true) (hh : hitWays (getCache s d) pa = [])
    (hu : unlockedWays (getCache s d) pa = []) (lock : Bool) : fillAt s d ea lock = .stop .allWaysLocked := by
  have hs : fillLine s d pa = .stop .allWaysLocked := by simp [fillLine, hf, hu]
  rw [fillAt_miss ht hr hh hl, hs, bind_of_stop]

omit ht hl hf in
/-- A filled way of the instruction cache, locked or not. -/
theorem fillsInst_done {w n : Nat} (hw : w ∈ unlockedWays s.icache pa) (x : BitVec 6) {c : Cache} {l : Bool}
    (hline : getLine c w (lineOf pa) = { instLine s pa with l := l }) (ho : OtherLines s.icache c w (lineOf pa))
    (hws : c.ws = storeSet 0 s.icache.ws (lineOf pa) x) :
    FillsInst s (done { afterInstFill s pa w x n with icache := c }) pa l := by
  obtain ⟨m, b, hm⟩ := waitForWrites_frame s
  rw [waitForWrites_eq] at hm
  have hdata : ∀ i : Fin 32, (getLine c w (lineOf pa)).data[i] = readByte m
      (lineKey s (tagOf pa) (lineOf pa) + (if s.latches.bigEndian then i.val else i.val ^^^ 4)) := by
    intro i
    simp only [hline, instLine, hm, Fin.getElem_fin, Vector.getElem_ofFn]
  unfold FillsInst afterInstFill
  rw [hm]
  exact ⟨_, w, congrArg Host.Outcome.next (advance_eq _), ⟨⟨rfl, rfl⟩, fun _ => rfl, rfl⟩, hw, rfl, rfl, rfl,
    by rw [hline]; exact ⟨rfl, rfl, rfl⟩, ho, waySelectUsed_of hws rfl, hdata⟩

theorem fillsInst_fillAt (hc : cacheWf s.icache = true) (hr : cacheReady s.icache = true) (hh : hitWays s.icache pa = [])
    (hu : unlockedWays s.icache pa ≠ []) (lock : Bool) : FillsInst s (finish (fillAt s .inst ea lock)) pa lock := by
  obtain ⟨w, hw, x, n, he⟩ := fillLine_inst hf hu
  have hline := getLine_afterInstFill (s := s) (pa := pa) hc w x n
  have ho := otherLines_afterInstFill (s := s) (pa := pa) hc w x n
  have hwf : cacheWf (afterInstFill s pa w x n).icache = true :=
    Invariant.cacheWf_setWs (cacheWf_setLine hc) (lineOf pa) x
  rw [fillAt_miss (d := .inst) ht hr hh hl, he, bind_of_ok]
  cases lock
  · exact fillsInst_done hw x hline ho rfl
  · refine fillsInst_done (c := setLine (afterInstFill s pa w x n).icache w (lineOf pa)
      (locked (getLine (afterInstFill s pa w x n).icache w (lineOf pa)))) hw x ?_ ?_ rfl
    · rw [getLine_setLine_same hwf, hline]
      rfl
    · exact otherLines_trans ho (otherLines_setLine hwf w (lineOf_lt pa) _)

omit ht hl hf in
theorem fills_frame {t : State} {w : Nat} (h : Fills s t pa w) : ∃ c m b n e, t = { s with
    dcache := c, mem := m, wbuf := b, draws := n, cp0 := { s.cp0 with errCtl := { s.cp0.errCtl with wse := e } } } :=
  ⟨_, _, _, _, _, h.frame⟩

theorem fillsData_fillAt_lock (hm : Memory.wf s.mem = true) (hc : cacheWf s.dcache = true) (hr : cacheReady s.dcache = true)
    (hh : hitWays s.dcache pa = []) (hu : unlockedWays s.dcache pa ≠ []) :
    FillsData s (finish (fillAt s .data ea true)) pa := by
  obtain ⟨t, w, he, hfill⟩ := fillLine_fills hm hc hf hu
  rw [fillAt_miss (d := .data) ht hr hh hl, he, bind_of_ok]
  obtain ⟨c, m, b, n, e, rfl⟩ := fills_frame hfill
  have hline := getLine_setLine_same (w := w) (l := lineOf pa) hfill.wf (locked (getLine c w (lineOf pa)))
  refine ⟨_, w, congrArg Host.Outcome.next (advance_eq _), ⟨⟨rfl, rfl⟩, fun _ => rfl, rfl⟩, hfill.way, rfl,
    victimWritten_congr hfill.victim rfl rfl, ?_, (congrArg CacheLine.dirty hline).trans hfill.clean,
    otherLines_trans hfill.others (otherLines_setLine hfill.wf w (lineOf_lt pa) _), waySelectUsed_congr hfill.waySelect rfl rfl,
    fun i => ?_⟩
  · exact hline ▸ ⟨hfill.valid, hfill.tag, rfl⟩
  · exact (congrArg (fun x : CacheLine => x.data[i]) hline).trans ((hfill.data i).trans (seenByte_congr rfl rfl _).symm)

end Miss

end Address

/-- Settles O46: each operation code is one operation of the model, on the cache its selector names. -/
theorem cacheOperations : Obligations.CacheOperations := by
  intro s base offset hu hcan ea way line dw t k op store storeData clear lock out inst data instHit dataHit loads keepsRest fresh
    fillsInst fillsData old
  obtain ⟨hm, hi, hd, hbr, -⟩ := Invariant.canonical_iff.1 hcan
  refine ⟨fun hw => ?_, fun hw => ?_, fun k hk => exec_noCache hu base offset hk⟩
  · have std {o : BitVec 5} {d : Side} {c : BitVec 3} (hside : cacheSide o = some d) (hcode : o.extractLsb' 2 3 = c) :
        op o = finish (cacheStandard s d c ea) := hcode ▸ exec_standard hu base offset hw o hside
    have h16 : op 16 = finish (hitAt s .inst ea false true) := std rfl rfl
    have h17 : op 17 = finish (hitAt s .data ea false true) := std rfl rfl
    have h20 : op 20 = finish (fillAt s .inst ea false) := std (d := .inst) rfl rfl
    have h21 : op 21 = finish (hitAt s .data ea true true) := std (d := .data) rfl rfl
    have h25 : op 25 = finish (hitAt s .data ea true false) := std (d := .data) rfl rfl
    have h28 : op 28 = finish (fillAt s .inst ea true) := std rfl rfl
    have h29 : op 29 = finish (fillAt s .data ea true) := std rfl rfl
    refine ⟨?_, ?_, ?_, ?_, ?_, ?_, ?_, ?_, ?_, fun pa ht => ?_, fun pa cca ht hcca => ?_⟩
    · rw [std (o := 8) rfl rfl]
      exact changesInstLine_indexStoreTag ea hi false
    · rw [std (o := 9) rfl rfl]
      exact changesDataLine_indexStoreTag ea hd false
    · rw [std (o := 4) rfl rfl]
      exact indexLoadTag_done ea .inst
    · rw [std (o := 5) rfl rfl]
      exact indexLoadTag_done ea .data
    · rw [std (o := 0) rfl rfl]
      exact changesInstLine_indexInvalidate ea hi
    · rw [std (o := 1) rfl rfl]
      exact changesDataLine_indexInvalidate ea hd
    · rw [std (o := 12) rfl rfl]
      exact doesNothing_done s
    · rw [std (o := 13) rfl rfl]
      exact doesNothing_done s
    · rw [std (o := 24) rfl rfl]
      exact doesNothing_done s
    · simp only [List.forall_mem_cons, List.not_mem_nil, false_imp_iff, implies_true, and_true]
      rw [h16, h17, h20, h21, h25, h28, h29]
      simp only [hitAt_uncached ht, fillAt_uncached ht, finish, and_self]
    · have htr := cacheTranslate_cached ht hcca
      rw [h16, h17, h20, h21, h25, h28, h29]
      refine ⟨fun hh => ?_, fun hh => ?_, fun hh => ⟨changesInstHit_hitAt htr hi hh, fun hr =>
          ⟨changesInstHit_fillAt htr hr hh, changesInstHit_fillAt_lock htr hi hr hh⟩⟩,
        fun hh => ⟨changesDataHit_hitAt htr hd hh false true, changesDataHit_hitAt htr hd hh true true,
          changesDataHit_hitAt htr hd hh true false, fun hr => changesDataHit_fillAt_lock htr hd hr hh⟩,
        fun hl hf => ⟨fun hr hh => ?_, fun hr hh => ?_⟩⟩
      · rw [hitAt_none (d := .inst) htr hh]
        exact ⟨_, congrArg Host.Outcome.next (advance_eq _), ⟨rfl, rfl⟩, sameMemory_of rfl rfl rfl rfl, rfl⟩
      · rw [hitAt_none (d := .data) htr hh, hitAt_none (d := .data) htr hh, hitAt_none (d := .data) htr hh]
        exact ⟨doesNothing_done s, doesNothing_done s, doesNothing_done s⟩
      · split
        next hul => exact ⟨congrArg finish (fillAt_locked (d := .inst) htr hl hf hr hh hul false),
          congrArg finish (fillAt_locked (d := .inst) htr hl hf hr hh hul true)⟩
        next hul => exact ⟨fillsInst_fillAt htr hl hf hi hr hh hul false, fillsInst_fillAt htr hl hf hi hr hh hul true⟩
      · split
        next hul => exact congrArg finish (fillAt_locked (d := .data) htr hl hf hr hh hul true)
        next hul => exact fillsData_fillAt_lock htr hl hf hm hd hr hh hul
  · have diag {o : BitVec 5} {d : Side} {c : BitVec 3} (hside : cacheSide o = some d) (hcode : o.extractLsb' 2 3 = c) :
        op o = finish (cacheDiagnostic s d c ea) := hcode ▸ exec_diagnostic hu base offset hw o hside
    refine ⟨?_, fun h6 h22 => ?_, ?_, ?_, ?_, ?_, ?_⟩
    · rw [diag (o := 4) rfl rfl]
      exact indexLoadWs_inst_done ea
    · rw [diag (o := 5) rfl rfl]
      exact indexLoadWs_data_done ea h6 h22
    · rw [diag (o := 8) rfl rfl]
      exact indexStoreWs_inst_done ea (Bool.and_eq_true _ _ ▸ hi).2 hbr
    · rw [diag (o := 9) rfl rfl]
      exact indexStoreWs_data_done ea hd
    · rw [diag (o := 12) rfl rfl]
      exact changesInstLine_indexStoreTag ea hi true
    · rw [diag (o := 13) rfl rfl]
      exact changesDataLine_indexStoreTag ea hd true
    · simp only [List.forall_mem_cons, List.not_mem_nil, false_imp_iff, implies_true, and_true]
      and_intros
      all_goals exact diag rfl rfl

end Sys2Proof.Proofs.CacheOps
end

section
/-! What an instruction of User mode can do to the privileged state (60_exceptions.md R800, R810, R820, R840 to R842; 46_cp0.md
R610). Every operation such an instruction is made of leaves the privileged state alone, or raises an exception that is no
interrupt; what would change it stands behind the test of coprocessor 0. -/

namespace Sys2Proof.Proofs.UserMode

open Sys2Proof.Machine Sys2Proof.Laws Sys2Proof.Claims Sys2Proof.Proofs.Invariant

/-- The privileged part of the state: the TLB, the instruction cache, the Branch Prediction RAM, the mode latches, the pins, the
parameters and the CP0 registers, the flags of ErrCtl that accesses of the data cache set apart. -/
structure Privileged where
  tlb : Vector TlbEntry 48
  icache : Cache
  brRam : List (Nat × BitVec 20)
  latches : Latches
  intPins : BitVec 6
  conf : Params
  cp0 : Cp0

/-- The privileged part of a state. -/
def privileged (s : State) : Privileged where
  tlb := s.tlb
  icache := s.icache
  brRam := s.brRam
  latches := s.latches
  intPins := s.intPins
  conf := s.conf
  cp0 := { s.cp0 with errCtl := { s.cp0.errCtl with imh := false, dmh := false, wse := false } }

/-- The privileged part of a state is `p`, or it was when an exception other than an interrupt was entered. -/
def Allowed (p : Privileged) (t : State) : Prop :=
  privileged t = p ∨ ∃ e u, e ≠ .int ∧ privileged u = p ∧ t = takeException e u

/-- The operation leaves the privileged part as `p`; the exceptions it raises are no interrupts. -/
def Keeps {α : Type} (p : Privileged) : Res α → Prop
  | .ok _ t => privileged t = p
  | .trap e t => e ≠ .int ∧ privileged t = p
  | .busError t => privileged t = p
  | .stop _ => True

/-! What leaves the privileged part alone. -/

section Operations

variable {s : State}

@[simp] theorem privileged_spend (n : Nat) : privileged (spend n s) = privileged s := rfl
@[simp] theorem privileged_advance : privileged (advance s) = privileged s := by rw [advance_eq]; rfl
@[simp] theorem privileged_branch (c : Bool) (a : Word) : privileged (branch c a s) = privileged s := rfl
@[simp] theorem privileged_branchLikely (c : Bool) (a : Word) : privileged (branchLikely c a s) = privileged s := by
  cases c <;> rfl
@[simp] theorem privileged_setFpuCause (c : BitVec 6) : privileged (setFpuCause s c) = privileged s := rfl

@[simp] theorem privileged_gprWrite (r : RegNum) (v : Word) : privileged (gprWrite s r v) = privileged s := by
  unfold gprWrite
  split <;> rfl

@[simp] theorem privileged_setFpr32 (i : RegNum) (w : HalfWord) (f : FprFormat) :
    privileged (setFpr32 s i w f) = privileged s := by
  unfold setFpr32
  split <;> rfl

@[simp] theorem privileged_setFpr64 (i : RegNum) (d : Word) (f : FprFormat) :
    privileged (setFpr64 s i d f) = privileged s := by
  unfold setFpr64
  split <;> rfl

@[simp] theorem privileged_setFp (f : Fmt) (i : RegNum) (v : Word) : privileged (setFp s f i v) = privileged s := by
  cases f <;> simp [setFp]

@[simp] theorem privileged_freeDest (d : Dest) : privileged (freeDest d s) = privileged s := by
  cases d with
  | gpr r => simp [freeDest]
  | fpr r wide => cases wide <;> simp [freeDest]
  | none => rfl

@[simp] theorem privileged_drainAll : privileged (drainAll s) = privileged s := rfl
@[simp] theorem privileged_enqueue (w : BusWrite) : privileged (enqueue s w) = privileged s := rfl
@[simp] theorem privileged_noteSync : privileged (noteSync s) = privileged s := rfl
@[simp] theorem privileged_noteStore (pa : PAddr) (k n : Nat) : privileged (noteStore s pa k n) = privileged s := rfl
@[simp] theorem privileged_storeOut (pa : PAddr) (k : Nat) (bs : List Byte) :
    privileged (storeOut s pa k bs) = privileged s := rfl
@[simp] theorem privileged_writeBack (x : CacheLine) (l : Nat) : privileged (writeBack s x l) = privileged s := rfl
@[simp] theorem privileged_conditionalFlag (rt : RegNum) (flag : Bool) :
    privileged (conditionalFlag rt flag s) = privileged s := privileged_gprWrite rt _

@[simp] theorem privileged_waitForWrites : privileged (waitForWrites s) = privileged s := by
  unfold waitForWrites
  split <;> rfl

/-! The data cache, whose accesses touch ErrCtl only in the flags set apart. -/

@[simp] theorem privileged_setCache_data (c : Cache) : privileged (setCache s .data c) = privileged s := rfl
@[simp] theorem privileged_noteMultiHit (d : Side) : privileged (noteMultiHit s d) = privileged s := by cases d <;> rfl
@[simp] theorem privileged_touchWs_data (l : Nat) : privileged (touchWs s .data l) = privileged s := rfl
@[simp] theorem privileged_writeLine (pa : PAddr) (w off : Nat) (bs : List Byte) (dirty : Bool) :
    privileged (writeLine s pa w off bs dirty) = privileged s := rfl

@[simp] theorem privileged_hitWay (d : Side) (ways : List Nat) : privileged (hitWay s d ways).2 = privileged s := by
  unfold hitWay
  split <;> simp

end Operations

/-! Answers and outcomes. -/

section Answers

variable {p : Privileged} {s : State}

@[simp] theorem keeps_ok {α : Type} (a : α) : Keeps p (.ok a s) ↔ privileged s = p := Iff.rfl
@[simp] theorem keeps_busError {α : Type} : Keeps p (.busError s : Res α) ↔ privileged s = p := Iff.rfl
@[simp] theorem keeps_stop {α : Type} (x : Fault) : Keeps p (.stop x : Res α) := trivial
@[simp] theorem keeps_trap {α : Type} (e : Exc) : Keeps p (.trap e s : Res α) ↔ e ≠ .int ∧ privileged s = p := Iff.rfl

@[simp] theorem keeps_ite {α : Type} {c : Prop} [Decidable c] {a b : Res α} :
    Keeps p (if c then a else b) ↔ (c → Keeps p a) ∧ (¬ c → Keeps p b) := by
  by_cases hc : c <;> simp [hc]

theorem keeps_bind {α β : Type} {r : Res α} {f : α → State → Res β} (hr : Keeps p r)
    (hf : ∀ a t, privileged t = p → Keeps p (f a t)) : Keeps p (r.bind f) := by
  cases r with
  | ok a t => exact hf a t hr
  | trap e t => exact hr
  | busError t => exact hr
  | stop x => trivial

theorem at_ne_int {e : Exc} (va : Word) (h : e ≠ .int) : e.at va ≠ .int := by
  cases e <;> simp_all [Exc.at]

theorem keeps_reporting {α : Type} {r : Res α} (va : Word) (hr : Keeps p r) : Keeps p (r.reporting va) := by
  cases r with
  | trap e t => exact ⟨at_ne_int va hr.1, hr.2⟩
  | ok a t => exact hr
  | busError t => exact hr
  | stop x => trivial

theorem allowed_of_kept (h : privileged s = p) : Allowed p s := .inl h

theorem allowed_takeException {e : Exc} (he : e ≠ .int) (h : privileged s = p) : Allowed p (takeException e s) :=
  .inr ⟨e, s, he, h, rfl⟩

theorem allowed_advance (h : privileged s = p) : Allowed p (advance s) := .inl (by simpa using h)

theorem allowed_lateBusError (d : Dest) (h : privileged s = p) : Allowed p (lateBusError d s) := by
  unfold lateBusError
  split
  · exact allowed_takeException (by decide) h
  · exact .inl (privileged_advance.trans h)

end Answers

/-! Translations, and what reads and writes memory. -/

section Memory

variable {p : Privileged} {s : State}

theorem pageAccess_ne_int (e : TlbEntry) (va : Word) (k : Access) : pageAccess e va k ≠ .trap .int := by
  unfold pageAccess
  generalize (if va.getLsbD (selectBit e.mask) then e.odd else e.even) = page
  dsimp only
  split
  · simp
  · split <;> simp

theorem tlbLookup_ne_int (s : State) (va : Word) (k : Access) : tlbLookup s va k ≠ .trap .int := by
  unfold tlbLookup
  split
  · simp
  split
  · simp
  split
  · simp
  · exact pageAccess_ne_int _ va k
  · simp

theorem translate_ne_int (s : State) (va : Word) (k : Access) : Machine.translate s va k ≠ .trap .int := by
  unfold Machine.translate
  dsimp only
  split
  · simp
  split
  · simp
  · simp
  · simp
  · split
    · simp
    · exact tlbLookup_ne_int s va k
  · exact tlbLookup_ne_int s va k

theorem translate_keeps (h : privileged s = p) (u : State) (va : Word) (k : Access) :
    Keeps p ((Machine.translate u va k).toRes s) := by
  have hne := translate_ne_int u va k
  cases ht : Machine.translate u va k with
  | ok pa cca => exact h
  | trap e => exact ⟨fun he => hne (by rw [ht, he]), h⟩
  | stop f => trivial

theorem checkAligned_keeps (h : privileged s = p) (va : Word) (n : Nat) (k : Access) : Keeps p (checkAligned s va n k) := by
  simp [checkAligned, h]

theorem needBus_keeps {α : Type} (h : privileged s = p) {k : Res α} (hk : Keeps p k) : Keeps p (needBus s k) := by
  simp [needBus, h, hk]

theorem fillLine_keeps (h : privileged s = p) (pa : PAddr) : Keeps p (fillLine s .data pa) := by
  unfold fillLine
  dsimp only
  split
  · simp [h]
  split
  · trivial
  · split <;> simp [h]

theorem lookupOrFill_keeps (h : privileged s = p) (pa : PAddr) : Keeps p (lookupOrFill s .data pa) := by
  unfold lookupOrFill
  split
  · trivial
  split
  · exact needBus_keeps h (fillLine_keeps h pa)
  · simp [h]

theorem physRead_keeps (h : privileged s = p) (pa : PAddr) (n : Nat) (cca : BitVec 3) : Keeps p (physRead s pa n cca) := by
  unfold physRead
  dsimp only
  split
  · trivial
  split
  · split
    · trivial
    · exact needBus_keeps h (by simp [h])
  · exact keeps_bind (lookupOrFill_keeps h pa) fun _ _ ht => ht

theorem writeThrough_keeps (h : privileged s = p) (pa : PAddr) (key : Nat) (bs : List Byte) (allocate : Bool) :
    Keeps p (writeThrough s pa key bs allocate) := by
  have hf : Keeps p (fillLine (drainAll (storeOut s pa key bs)) .data pa) := fillLine_keeps (by simp [h]) pa
  unfold writeThrough
  split
  · trivial
  dsimp only
  split
  · split
    · refine needBus_keeps h ?_
      split
      · simp [h]
      · exact keeps_bind hf fun _ _ ht => ht
    · simp [h]
  · simp [h]

theorem physWrite_keeps (h : privileged s = p) (pa : PAddr) (n : Nat) (v : Word) (cca : BitVec 3) :
    Keeps p (physWrite s pa n v cca) := by
  unfold physWrite
  dsimp only
  split
  · trivial
  split
  · simp [h]
  split
  · exact keeps_bind (lookupOrFill_keeps h pa) fun _ _ ht => by simp [ht]
  · exact writeThrough_keeps h pa _ _ _

theorem memRead_keeps (h : privileged s = p) (va : Word) (n : Nat) : Keeps p (memRead s va n) :=
  keeps_bind (checkAligned_keeps h va n .load) fun _ t ht =>
    keeps_bind (translate_keeps ht t va .load) fun _ _ hu => physRead_keeps hu _ _ _

theorem memWrite_keeps (h : privileged s = p) (va : Word) (n : Nat) (v : Word) : Keeps p (memWrite s va n v) :=
  keeps_bind (checkAligned_keeps h va n .store) fun _ t ht =>
    keeps_bind (translate_keeps ht t va .store) fun _ _ hu => physWrite_keeps hu _ _ _ _

theorem memReadPart_keeps (h : privileged s = p) (va addr : Word) (n : Nat) : Keeps p (memReadPart s va addr n) :=
  keeps_bind (translate_keeps h s va .load) fun _ _ ht => physRead_keeps ht _ _ _

theorem memWritePart_keeps (h : privileged s = p) (va addr : Word) (n : Nat) (v : Word) :
    Keeps p (memWritePart s va addr n v) :=
  keeps_bind (translate_keeps h s va .store) fun _ _ ht => physWrite_keeps ht _ _ _ _

theorem loadInto_allowed {d : Dest} {r : Res Word} {write : Word → State → State} (hr : Keeps p r)
    (hw : ∀ v t, privileged (write v t) = privileged t) : OutAll (Allowed p) (loadInto d r write) := by
  cases r with
  | ok v t => exact allowed_advance ((hw v t).trans hr)
  | trap e t => exact allowed_takeException hr.1 hr.2
  | busError t => exact allowed_lateBusError d ((privileged_freeDest d).trans hr)
  | stop x => trivial

theorem finish_allowed {r : Res Unit} (hr : Keeps p r) : OutAll (Allowed p) (finish r) := by
  cases r with
  | ok a t => exact allowed_advance hr
  | trap e t => exact allowed_takeException hr.1 hr.2
  | busError t => exact allowed_lateBusError _ hr
  | stop x => trivial

end Memory

/-! The tests an instruction begins with, and the ways it ends. -/

section Ends

/-- The outcome changes nothing privileged of `s`, or is the entry of an exception. -/
def Confined (s : State) (o : Out) : Prop := OutAll (Allowed (privileged s)) o

variable {s t : State} {k : Out}

theorem confined_next (h : privileged t = privileged s) : Confined s (.next t) := .inl h
theorem confined_done (h : privileged t = privileged s) : Confined s (done t) := allowed_advance h
theorem confined_raise {e : Exc} (he : e ≠ .int) (h : privileged t = privileged s) : Confined s (raise e t) :=
  allowed_takeException he h
theorem confined_fault (x : Fault) : Confined s (.fault x) := trivial
theorem confined_refused (x : Refusal) : Confined s (.refused x) := trivial

theorem confined_ite {c : Prop} [Decidable c] {a b : Out} (ha : Confined s a) (hb : Confined s b) :
    Confined s (if c then a else b) := by
  split
  · exact ha
  · exact hb

theorem needCu1_confined (hk : Confined s k) : Confined s (needCu1 s k) := confined_ite hk (confined_raise (by decide) rfl)

theorem need64_confined (hk : Confined s k) : Confined s (need64 s k) := confined_ite hk (confined_raise (by decide) rfl)

/-- Behind the test of coprocessor 0 nothing happens in User mode with CU0 = 0: CpU is raised (46_cp0.md R610). -/
theorem needCp0_confined (hu : cp0Usable s = false) : Confined s (needCp0 s k) := by
  rw [needCp0, hu]
  exact confined_raise (by decide) rfl

theorem signalFpe_confined (h : privileged t = privileged s) (c : BitVec 6) : Confined s (signalFpe c t) :=
  confined_raise (by decide) h

theorem need64Arith_confined (hk : Confined s k) : Confined s (need64Arith s k) :=
  confined_ite hk (signalFpe_confined rfl _)

theorem need64Move_confined (hk : Confined s k) : Confined s (need64Move s k) :=
  confined_ite hk (confined_ite (confined_raise (by decide) rfl) (signalFpe_confined rfl _))

theorem needFpr_confined {i : RegNum} (hk : Confined s k) : Confined s (needFpr s i k) := confined_ite hk (confined_fault _)
theorem needLong_confined (hk : Confined s k) : Confined s (needLong s k) := confined_ite hk (confined_fault _)
theorem needNoSlot_confined (hk : Confined s k) : Confined s (needNoSlot t k) := confined_ite (confined_fault _) hk

theorem fpPre_confined {l : List RegNum} (hk : Confined s k) : Confined s (fpPre s l k) :=
  needCu1_confined (confined_ite hk (confined_fault _))

theorem fpPre64_confined {l : List RegNum} (hk : Confined s k) : Confined s (fpPre64 s l k) :=
  needCu1_confined (need64Arith_confined (confined_ite hk (confined_fault _)))

theorem doneGpr_confined (h : privileged t = privileged s) (rd : RegNum) (v : Word) : Confined s (doneGpr t rd v) :=
  confined_done ((privileged_gprWrite rd v).trans h)

theorem doneWord_confined (h : privileged t = privileged s) (l : List RegNum) (rd : RegNum) (v : Word) :
    Confined s (doneWord t l rd v) :=
  confined_ite (doneGpr_confined ((privileged_spend 1).trans h) rd _) (doneGpr_confined h rd v)

theorem doneHiLoFree_confined : Confined s (doneHiLoFree s) := confined_done rfl

theorem doneHiLo32_confined (l : List RegNum) (x y : HalfWord) : Confined s (doneHiLo32 s l x y) :=
  confined_ite doneHiLoFree_confined (confined_done rfl)

theorem overflow_confined {c : Prop} [Decidable c] (hk : Confined s k) : Confined s (if c then raise .ov s else k) :=
  confined_ite (confined_raise (by decide) rfl) hk

theorem takeBranch_confined (c : Bool) (offset : BitVec 16) : Confined s (takeBranch s c offset) :=
  needNoSlot_confined (confined_next rfl)

theorem takeLikely_confined (c : Bool) (offset : BitVec 16) : Confined s (takeLikely s c offset) :=
  needNoSlot_confined (confined_next (privileged_branchLikely c _))

theorem withLink_confined {rs : RegNum} {k : State → Out} (hk : ∀ t, privileged t = privileged s → Confined s (k t)) :
    Confined s (withLink s rs k) :=
  confined_ite (confined_fault _) (hk _ (privileged_gprWrite 31 _))

theorem trapIf_confined (c : Bool) : Confined s (trapIf s c) :=
  confined_ite (confined_raise (by decide) rfl) (confined_done rfl)

end Ends

/-! Loads and stores. -/

section LoadStore

variable {s : State}

theorem loadGpr_confined (base rt : RegNum) (offset : BitVec 16) (n : Nat) (extend : Word → Word) :
    Confined s (loadGpr s base rt offset n extend) :=
  loadInto_allowed (memRead_keeps rfl _ _) fun _ _ => privileged_gprWrite _ _

theorem storeGpr_confined (base rt : RegNum) (offset : BitVec 16) (n : Nat) : Confined s (storeGpr s base rt offset n) :=
  finish_allowed (memWrite_keeps rfl _ _ _)

theorem loadLinked_confined (base rt : RegNum) (offset : BitVec 16) (n : Nat) (extend : Word → Word) :
    Confined s (loadLinked s base rt offset n extend) :=
  loadInto_allowed (keeps_bind (memRead_keeps rfl _ _) fun _ _ h => h) fun _ _ => privileged_gprWrite _ _

theorem storeConditional_confined (base rt : RegNum) (offset : BitVec 16) (n : Nat) :
    Confined s (storeConditional s base rt offset n) := by
  unfold storeConditional
  dsimp only
  have ht : Keeps (privileged s) ((checkAligned s (baseOffset s base offset) n .store).bind fun _ s0 =>
      (Machine.translate s0 (baseOffset s base offset) .store).toRes s0) :=
    keeps_bind (checkAligned_keeps rfl _ _ _) fun _ t ht => translate_keeps ht t _ _
  split
  · rename_i pa cca s1 he
    have h1 : privileged s1 = privileged s := by rw [he] at ht; exact ht
    have hw := physWrite_keeps h1 pa n (gprRead s1 rt) cca
    split
    · split
      · rename_i he2; rw [he2] at hw; exact confined_done ((privileged_conditionalFlag rt true).trans hw)
      · rename_i he2; rw [he2] at hw; exact confined_raise hw.1 hw.2
      · exact allowed_lateBusError _ h1
      · trivial
    · exact confined_done ((privileged_conditionalFlag rt false).trans h1)
  · rename_i he; rw [he] at ht; exact confined_raise ht.1 ht.2
  · rename_i he; rw [he] at ht; exact allowed_lateBusError _ ht
  · trivial

theorem loadPart_confined (base rt : RegNum) (offset : BitVec 16) (part : Bool → Word → Nat → Word × Nat) (w : Nat)
    (merge : Nat → Word → Word → Word) : Confined s (loadPart s base rt offset part w merge) :=
  loadInto_allowed (memReadPart_keeps rfl _ _ _) fun _ _ => privileged_gprWrite _ _

theorem storePart_confined (base : RegNum) (offset : BitVec 16) (part : Bool → Word → Nat → Word × Nat) (w : Nat)
    (lower : Nat → Word) : Confined s (storePart s base offset part w lower) :=
  finish_allowed (memWritePart_keeps rfl _ _ _ _)

theorem loadFpr32_confined (va : Word) (ft : RegNum) : Confined s (loadFpr32 s va ft) :=
  loadInto_allowed (memRead_keeps rfl _ _) fun _ _ => privileged_setFpr32 _ _ _

theorem loadFpr64_confined {r : Res Word} (hr : Keeps (privileged s) r) (ft : RegNum) : Confined s (loadFpr64 s r ft) :=
  needFpr_confined (loadInto_allowed hr fun _ _ => privileged_setFpr64 _ _ _)

theorem storeFpr32_confined (va : Word) (ft : RegNum) : Confined s (storeFpr32 s va ft) :=
  finish_allowed (memWrite_keeps rfl _ _ _)

theorem storeFpr64_confined (va : Word) (ft : RegNum) : Confined s (storeFpr64 s va ft) :=
  needFpr_confined (finish_allowed (memWrite_keeps rfl _ _ _))

end LoadStore

/-! The FPU. -/

section Fpu

variable {s : State}

theorem fpComplete_confined (e : FpEnd) {write : State → Word → State}
    (hw : ∀ t v, privileged (write t v) = privileged t) : Confined s (fpComplete e write s) := by
  cases e with
  | trap c => exact signalFpe_confined (privileged_spend 3) c
  | write v c => exact confined_done ((hw _ v).trans rfl)

theorem fpBinary_confined (f : Fmt) (op : Word → Word → FpResult) (ft fs fd : RegNum) :
    Confined s (fpBinary f op ft fs fd s) := fpPre_confined (fpComplete_confined _ fun _ _ => privileged_setFp _ _ _)

theorem fpUnary_confined (f : Fmt) (op : Word → FpResult) (fs fd : RegNum) : Confined s (fpUnary f op fs fd s) :=
  fpPre_confined (fpComplete_confined _ fun _ _ => privileged_setFp _ _ _)

theorem fpRecip_confined (f : Fmt) (fs fd : RegNum) : Confined s (fpRecip f fs fd s) :=
  fpPre64_confined (fpComplete_confined _ fun _ _ => privileged_setFp _ _ _)

theorem fpMulAdd_confined (f : Fmt) (op : Word → Word → FpResult) (neg : Bool) (fr ft fs fd : RegNum) :
    Confined s (fpMulAdd f op neg fr ft fs fd s) :=
  fpPre64_confined (fpComplete_confined _ fun _ _ => privileged_setFp _ _ _)

theorem fpToFp_confined (src dst : Fmt) (fs fd : RegNum) : Confined s (fpToFp src dst fs fd s) :=
  fpPre_confined (fpComplete_confined _ fun _ _ => privileged_setFp _ _ _)

theorem wordToFp_confined (dst : Fmt) (fs fd : RegNum) : Confined s (wordToFp dst fs fd s) :=
  fpPre_confined (fpComplete_confined _ fun _ _ => privileged_setFp _ _ _)

theorem longToFp_confined (dst : Fmt) (fs fd : RegNum) : Confined s (longToFp dst fs fd s) :=
  needCu1_confined (need64Arith_confined (needLong_confined (fpComplete_confined _ fun _ _ => privileged_setFp _ _ _)))

theorem fpToWord_confined (src : Fmt) (mode : BitVec 2) (fs fd : RegNum) : Confined s (fpToWord src mode fs fd s) :=
  fpPre_confined (fpComplete_confined _ fun _ _ => privileged_setFpr32 _ _ _)

theorem fpToLong_confined (src : Fmt) (mode : BitVec 2) (fs fd : RegNum) : Confined s (fpToLong src mode fs fd s) :=
  needCu1_confined (need64Arith_confined (needLong_confined
    (fpComplete_confined _ fun _ _ => privileged_setFpr64 _ _ _)))

theorem fpCompare_confined (f : Fmt) (cond : BitVec 4) (ft fs : RegNum) (cc : BitVec 3) :
    Confined s (fpCompare f cond ft fs cc s) := by
  refine fpPre_confined ?_
  split
  · exact signalFpe_confined (privileged_spend 3) _
  · exact confined_done rfl

theorem moveFp_confined (f : Fmt) (fs fd : RegNum) : Confined s (fpPre s [fs, fd] (done (moveFp s f fs fd))) :=
  fpPre_confined (confined_done ((privileged_setFp f fd _).trans rfl))

theorem moveFpIf_confined (f : Fmt) (fs fd : RegNum) (c : Bool) : Confined s (moveFpIf s f fs fd c) :=
  confined_ite (moveFp_confined f fs fd) (needCu1_confined (confined_done rfl))

theorem execCfc1_confined (rt fs : RegNum) : Confined s (execCfc1 rt fs s) := by
  refine needCu1_confined ?_
  split
  · exact confined_done (privileged_gprWrite rt _)
  · trivial

theorem execCtc1_confined (rt fs : RegNum) : Confined s (execCtc1 rt fs s) := by
  refine needCu1_confined ?_
  split
  · exact confined_ite (confined_raise (by decide) rfl) (confined_done rfl)
  · trivial

end Fpu

/-- Every instruction, by its form: with coprocessor 0 unusable it changes nothing privileged, or enters an exception. -/
theorem exec_confined {s : State} (hu : cp0Usable s = false) (i : Instr) : Confined s (exec i s) := by
  cases i <;> dsimp only [exec]
  -- results in a general register, or in HI and LO
  case slt | slti | sltiu | sltu | and | andi | or | ori | xor | xori | nor | lui | mfhi | mflo =>
    exact doneGpr_confined rfl _ _
  case addiu | addu | subu | clo | clz | sll | srl | sra | sllv | srlv | srav => exact doneWord_confined rfl _ _ _
  case add | addi | sub => exact overflow_confined (doneWord_confined rfl _ _ _)
  case daddiu | daddu | dsubu | dclo | dclz | dsll | dsrl | dsra | dsllv | dsrlv | dsrav | dsll32 | dsrl32 | dsra32 =>
    exact need64_confined (doneGpr_confined rfl _ _)
  case dadd | daddi | dsub => exact need64_confined (overflow_confined (doneGpr_confined rfl _ _))
  case mul => exact doneWord_confined rfl _ _ _
  case mult | multu | madd | maddu | msub | msubu => exact doneHiLo32_confined _ _ _
  case dmult | dmultu => exact need64_confined (confined_done rfl)
  case div | divu => exact confined_ite doneHiLoFree_confined (doneHiLo32_confined _ _ _)
  case ddiv | ddivu => exact need64_confined (confined_ite doneHiLoFree_confined (confined_done rfl))
  case mthi | mtlo => exact confined_done rfl
  case movn | movz => exact confined_ite (doneGpr_confined rfl _ _) (confined_done rfl)
  case movt => exact needCu1_confined (confined_ite (doneGpr_confined rfl _ _) (confined_done rfl))
  case movf => exact needCu1_confined (confined_ite (confined_done rfl) (doneGpr_confined rfl _ _))
  -- jumps and branches
  case j | jr => exact needNoSlot_confined (confined_next rfl)
  case jal => exact needNoSlot_confined (confined_next (privileged_gprWrite _ _))
  case jalr => exact needNoSlot_confined (confined_ite (confined_fault _) (confined_next (privileged_gprWrite _ _)))
  case beq | bne | blez | bgtz | bltz | bgez => exact takeBranch_confined _ _
  case beql | bnel | blezl | bgtzl | bltzl | bgezl => exact takeLikely_confined _ _
  case bltzal | bgezal => exact withLink_confined fun t ht => needNoSlot_confined (confined_next ht)
  case bltzall | bgezall =>
    exact withLink_confined fun t ht => needNoSlot_confined (confined_next ((privileged_branchLikely _ _).trans ht))
  case bc1t | bc1f => exact needCu1_confined (takeBranch_confined _ _)
  case bc1tl | bc1fl => exact needCu1_confined (takeLikely_confined _ _)
  -- loads, stores and what goes with them
  case lb | lbu | lh | lhu | lw => exact loadGpr_confined _ _ _ _ _
  case lwu | ld => exact need64_confined (loadGpr_confined _ _ _ _ _)
  case lwl | lwr => exact loadPart_confined _ _ _ _ _ _
  case ldl | ldr => exact need64_confined (loadPart_confined _ _ _ _ _ _)
  case swl | swr => exact storePart_confined _ _ _ _ _
  case sdl | sdr => exact need64_confined (storePart_confined _ _ _ _ _)
  case sb | sh | sw => exact storeGpr_confined _ _ _ _
  case sd => exact need64_confined (storeGpr_confined _ _ _ _)
  case ll => exact loadLinked_confined _ _ _ _ _
  case lld => exact need64_confined (loadLinked_confined _ _ _ _ _)
  case sc => exact storeConditional_confined _ _ _ _
  case scd => exact need64_confined (storeConditional_confined _ _ _ _)
  case pref | nop | ssnop | sync => exact confined_done rfl
  case prefx => exact needCu1_confined (confined_done rfl)
  case lwc1 => exact needCu1_confined (loadFpr32_confined _ _)
  case lwxc1 => exact needCu1_confined (need64Move_confined (loadFpr32_confined _ _))
  case ldc1 | ldxc1 => exact needCu1_confined (need64Move_confined (loadFpr64_confined (memRead_keeps rfl _ _) _))
  case luxc1 =>
    exact needCu1_confined (need64Move_confined (loadFpr64_confined (keeps_reporting _ (memRead_keeps rfl _ _)) _))
  case swc1 => exact needCu1_confined (storeFpr32_confined _ _)
  case swxc1 => exact needCu1_confined (need64Move_confined (storeFpr32_confined _ _))
  case sdc1 | sdxc1 => exact needCu1_confined (need64Move_confined (storeFpr64_confined _ _))
  case suxc1 =>
    exact needCu1_confined (need64Move_confined (needFpr_confined
      (finish_allowed (keeps_reporting _ (memWrite_keeps rfl _ _ _)))))
  -- traps and coprocessor 0
  case syscall | breakpoint => exact confined_raise (by decide) rfl
  case tge | tgeu | tlt | tltu | teq | tne | tgei | tgeiu | tlti | tltiu | teqi | tnei => exact trapIf_confined _
  case mfc0 | dmfc0 | mtc0 | dmtc0 | wait | cache | tlbr | tlbwi | tlbwr | tlbp | eret | deret => exact needCp0_confined hu
  case sdbbp => trivial
  -- the FPU
  case addS | addD | subS | subD | mulS | mulD | divS | divD => exact fpBinary_confined _ _ _ _ _
  case absS | absD | negS | negD | sqrtS | sqrtD => exact fpUnary_confined _ _ _ _
  case recipS | recipD => exact fpRecip_confined _ _ _
  case maddS | maddD | msubS | msubD | nmaddS | nmaddD | nmsubS | nmsubD => exact fpMulAdd_confined _ _ _ _ _ _ _
  case cvtSD | cvtDS => exact fpToFp_confined _ _ _ _
  case cvtSW | cvtDW => exact wordToFp_confined _ _ _
  case cvtSL | cvtDL => exact longToFp_confined _ _ _
  case cvtWS | cvtWD | roundWS | roundWD | truncWS | truncWD | ceilWS | ceilWD | floorWS | floorWD =>
    exact fpToWord_confined _ _ _ _
  case cvtLS | cvtLD | roundLS | roundLD | truncLS | truncLD | ceilLS | ceilLD | floorLS | floorLD =>
    exact fpToLong_confined _ _ _ _
  case cFS | cFD | cUnS | cUnD | cEqS | cEqD | cUeqS | cUeqD | cOltS | cOltD | cUltS | cUltD | cOleS | cOleD | cUleS | cUleD
      | cSfS | cSfD | cNgleS | cNgleD | cSeqS | cSeqD | cNglS | cNglD | cLtS | cLtD | cNgeS | cNgeD | cLeS | cLeD | cNgtS
      | cNgtD => exact fpCompare_confined _ _ _ _ _
  case movS | movD => exact moveFp_confined _ _ _
  case movtS | movtD | movfS | movfD | movnS | movnD | movzS | movzD => exact moveFpIf_confined _ _ _ _
  case mtc1 => exact needCu1_confined (confined_done (privileged_setFpr32 _ _ _))
  case mfc1 => exact needCu1_confined (confined_done (privileged_gprWrite _ _))
  case dmtc1 => exact needCu1_confined (need64Move_confined (needFpr_confined (confined_done (privileged_setFpr64 _ _ _))))
  case dmfc1 => exact needCu1_confined (need64Move_confined (needFpr_confined (confined_done (privileged_gprWrite _ _))))
  case cfc1 => exact execCfc1_confined _ _
  case ctc1 => exact execCtc1_confined _ _

/-! What the claim asks of the two outcomes. -/

section Claim

variable {s t u : State}

theorem cp0Usable_user (hk : s.cp0.status.ksu = 2) (hx : s.cp0.status.exl = false) (he : s.cp0.status.erl = false)
    (hc : s.cp0.status.cu0 = false) : cp0Usable s = false := by
  simp [cp0Usable, currentMode, hk, hx, he, hc]

/-- The parts of an unchanged privileged state; of ErrCtl the flags set apart may differ. -/
theorem parts_of_privileged_eq (h : privileged t = privileged s) :
    t.tlb = s.tlb ∧ t.icache = s.icache ∧ t.brRam = s.brRam ∧ t.latches = s.latches ∧ t.intPins = s.intPins
      ∧ t.conf = s.conf
      ∧ t.cp0 = { s.cp0 with errCtl := { s.cp0.errCtl with
          imh := t.cp0.errCtl.imh, dmh := t.cp0.errCtl.dmh, wse := t.cp0.errCtl.wse } } := by
  obtain ⟨htlb, hi, hb, hl, hp, hc, hcp⟩ := Privileged.mk.inj h
  exact ⟨htlb, hi, hb, hl, hp, hc, congrArg (fun c : Cp0 => { c with errCtl := { c.errCtl with
    imh := t.cp0.errCtl.imh, dmh := t.cp0.errCtl.dmh, wse := t.cp0.errCtl.wse } }) hcp⟩

/-- Entered from EXL = 0, an exception that is no interrupt goes to one of three vectors (60_exceptions.md R820, R822, R823). -/
theorem vectorOffset_cases {e : Exc} (he : e ≠ .int) (hx : u.cp0.status.exl = false) :
    vectorOffset u e = 0 ∨ vectorOffset u e = 0x080 ∨ vectorOffset u e = 0x180 := by
  unfold vectorOffset
  rw [if_neg (by simp [hx])]
  cases e
  case int => exact absurd rfl he
  case tlbRefill store va =>
    dsimp only
    split
    · exact .inr (.inl rfl)
    · exact .inl rfl
  all_goals exact .inr (.inr rfl)

theorem takeException_pc_cases {e : Exc} (he : e ≠ .int) (hx : u.cp0.status.exl = false) :
    (takeException e u).pc = vectors u ∨ (takeException e u).pc = vectors u + 0x080
      ∨ (takeException e u).pc = vectors u + 0x180 := by
  have hpc : (takeException e u).pc = vectors u + vectorOffset u e := rfl
  rw [hpc]
  obtain ho | ho | ho := vectorOffset_cases he hx <;> rw [ho] <;> simp

/-- Whatever address an entry records, these registers stay (60_exceptions.md R820, R824). -/
theorem takeException_keeps_cp0 (e : Exc) (u : State) :
    (takeException e u).cp0.random = u.cp0.random ∧ (takeException e u).cp0.wired = u.cp0.wired
      ∧ (takeException e u).cp0.config0 = u.cp0.config0 ∧ (takeException e u).cp0.compare = u.cp0.compare
      ∧ (takeException e u).cp0.errorEpc = u.cp0.errorEpc := by
  cases e <;> exact ⟨rfl, rfl, rfl, rfl, rfl⟩

end Claim

/-- Settles O60: `exec_confined` says which of the two ways the instruction ended, and each gives the parts of the claim. -/
theorem userModeGainsNoPrivilege : Obligations.UserModeGainsNoPrivilege := by
  intro i s t hk hx hr hc ht
  have h := exec_confined (cp0Usable_user hk hx hr hc) i
  rw [ht] at h
  obtain hkept | ⟨e, u, he, hu, rfl⟩ := h
  · obtain ⟨htlb, hi, hb, hl, hp, hconf, hcp⟩ := parts_of_privileged_eq hkept
    exact ⟨htlb, hi, hb, hl, hp, hconf, .inl hcp⟩
  · obtain ⟨htlb, hi, hb, hl, hp, hconf, hcp⟩ := parts_of_privileged_eq hu
    have hstatus : u.cp0.status = s.cp0.status := by rw [hcp]
    have hvectors : vectors u = vectors s := by simp only [vectors, hstatus]
    refine ⟨htlb, hi, hb, hl, hp, hconf, .inr ⟨?_, rfl, ?_, ?_⟩⟩
    · rw [← hstatus]
      cases e <;> rfl
    · rw [← hvectors]
      exact takeException_pc_cases he (hstatus ▸ hx)
    · obtain ⟨hrandom, hwired, hconfig, hcompare, herror⟩ := takeException_keeps_cp0 e u
      rw [hrandom, hwired, hconfig, hcompare, herror, hcp]
      exact ⟨rfl, rfl, rfl, rfl, rfl⟩

end Sys2Proof.Proofs.UserMode
end

section
/-! The reset and the values it leaves (70_reset_and_hazards.md R881 to R885; 60_exceptions.md R817, R821). -/

namespace Sys2Proof.Proofs.Reset

open Sys2Proof.Machine Sys2Proof.Laws Sys2Proof.Claims

/-- Settles O1: State.reset is written out in the model, field by field. -/
theorem resetValues : Obligations.ResetValues := by
  refine ⟨rfl, rfl, rfl, rfl, rfl, rfl, rfl, rfl, rfl, rfl, rfl, rfl, rfl, rfl, fun i => ?_, rfl, rfl⟩
  simp [State.reset, TlbEntry.reset]

section Requests

variable {s : State} {k : ResetKind}

/-- A requested reset comes before everything else (60_exceptions.md R817). -/
theorem step_of_resetRequest (h : s.resetRequest = some k) : step s = .next (boundary (takeReset k s)) := by
  have ha : nextAction s = .over (.next (takeReset k s)) := by simp [nextAction, h]
  simp [step, runStep, ha, atBoundary]

/-- A warm reset keeps the hidden valid bits of the TLB, a cold one clears them (R882, R883). -/
theorem takeReset_valid (k : ResetKind) (s : State) (i : Fin 48) :
    (takeReset k s).tlb[i].valid = (k == .warm && s.tlb[i].valid) := by simp [takeReset]

theorem gprRead_takeReset_zero (k : ResetKind) (s : State) : gprRead (takeReset k s) 0 = 0 := by
  simp [gprRead]

end Requests

/-- Settles O2: the step is the reset, whose fields are read off its definition. -/
theorem coldResetOnRequest : Obligations.ColdResetOnRequest := by
  intro s m h
  refine ⟨takeReset (.cold m) s, step_of_resetRequest h, rfl, rfl, rfl, rfl, rfl, rfl, rfl, rfl, rfl, rfl, rfl, rfl, rfl, rfl,
    rfl, rfl, fun i => ?_, rfl, rfl, rfl, gprRead_takeReset_zero _ _⟩
  rw [takeReset_valid]
  rfl

/-- Settles O3: as O2, with the restart address saved and the latches and valid bits kept. -/
theorem warmResetOnRequest : Obligations.WarmResetOnRequest := by
  intro s h
  refine ⟨takeReset .warm s, step_of_resetRequest h, rfl, rfl, rfl, rfl, rfl, rfl, rfl, rfl, rfl, rfl, rfl, rfl, rfl, rfl, rfl,
    rfl, rfl, fun i => ?_, rfl, rfl, rfl, gprRead_takeReset_zero _ _⟩
  rw [takeReset_valid]
  rfl

end Sys2Proof.Proofs.Reset
end

section
/-! The FPU loads and stores at an uncached address (48_fpu_load_store_move.md R725 to R734; 20_memory.md R210, R214, R252). -/

namespace Sys2Proof.Proofs.UncachedFp

open Sys2Proof.Machine Sys2Proof.Laws Sys2Proof.Claims Sys2Proof.Proofs.CachedAccess

/-! A read that waits for the buffered writes leaves the FPU, the pc and the pending target as they are. -/

section Waited

variable {s t : State}

theorem waited_frame (s : State) : ∃ m w, waited s = { s with mem := m, wbuf := w } :=
  CacheMiss.waitForWrites_frame s

theorem fpr32Is_of_waited {tag : FprFormat} {r : RegNum} {v : HalfWord} (h : Fpr32Is (waited s) t tag r v) :
    Fpr32Is s t tag r v := by
  obtain ⟨m, w, hw⟩ := waited_frame s
  rwa [hw] at h

theorem fpr64Is_of_waited {tag : FprFormat} {r : RegNum} {v : Word} (h : Fpr64Is (waited s) t tag r v) :
    Fpr64Is s t tag r v := by
  obtain ⟨m, w, hw⟩ := waited_frame s
  rwa [hw] at h

theorem fcsr_waited (s : State) : (waited s).fcsr = s.fcsr := by
  obtain ⟨m, w, hw⟩ := waited_frame s
  rw [hw]

theorem movesOn_of_waited (h : MovesOn (waited s) t) : MovesOn s t := by
  obtain ⟨m, w, hw⟩ := waited_frame s
  rwa [hw] at h

end Waited

section Access

variable {s : State} {r : RegNum} {va : Word} {pa : PAddr} {v : Word} {i : Instr}

/-- What an uncached load reads at the physical address. -/
theorem physRead_of_uncachedLoad {n : Nat} (hn : n = 1 ∨ n = 2 ∨ n = 4 ∨ n = 8) (h : UncachedLoad s va n pa)
    (hv : Holds s pa n v) : physRead s pa n 2 = .ok v (waited s) := by
  rw [← memRead_translated h.1.1 h.1.2.1]
  exact memRead_uncached hn h hv

theorem loads32_uncached (hi : exec i s = loadFpr32 s va r) (h : UncachedLoad s va 4 pa) (hv : Holds s pa 4 v) :
    ∃ t, exec i s = .next t ∧ Fpr32Is s t .raw r (v.extractLsb' 0 32) ∧ t.fcsr = s.fcsr ∧ MovesOn s t
      ∧ FpKeeps (waited s) t := by
  obtain ⟨t, he, hr, hf, hm, hk⟩ := loadsFpr32_of hi h.1.1 h.1.2.1 v _ (physRead_of_uncachedLoad (by decide) h hv)
  exact ⟨t, he, fpr32Is_of_waited hr, hf.trans (fcsr_waited s), movesOn_of_waited hm, hk⟩

theorem loads64_uncached {report : Res Word → Res Word} (hf : ∀ x t, report (.ok x t) = .ok x t)
    (hi : exec i s = loadFpr64 s (report (memRead s va 8)) r) (h : UncachedLoad s va 8 pa) (hv : Holds s pa 8 v)
    (hr : fprNumberOk s r = true) :
    ∃ t, exec i s = .next t ∧ Fpr64Is s t .raw r v ∧ t.fcsr = s.fcsr ∧ MovesOn s t ∧ FpKeeps (waited s) t := by
  obtain ⟨t, he, hr, hc, hm, hk⟩ := loadsFpr64_of hf hr hi h.1.1 h.1.2.1 v _ (physRead_of_uncachedLoad (by decide) h hv)
  exact ⟨t, he, fpr64Is_of_waited hr, hc.trans (fcsr_waited s), movesOn_of_waited hm, hk⟩

theorem stores_uncached {n : Nat} (hn : n = 1 ∨ n = 2 ∨ n = 4 ∨ n = 8) {report : Res Unit → Res Unit}
    (hf : ∀ a t, report (.ok a t) = .ok a t) (hi : exec i s = finish (report (memWrite s va n v)))
    (hm : Memory.wf s.mem = true) (h : Uncached s va n .store pa) : Stores s (exec i s) pa n v :=
  UncachedAccess.stores_of_doesNothing hm (uncached_fits hn h)
    (stores_of hf hi h.1 h.2.1 _ (UncachedAccess.physWrite_uncached h.2.2 v))

end Access

/-- Settles O55: every load and store is the read or write of its bytes, once the tests before it have passed. -/
theorem uncachedFpLoadsAndStores : Obligations.UncachedFpLoadsAndStores := by
  intro s base index r offset pa v hcu va vx down keeps loads32 loads64 stores32 stores64
  have keep : ∀ {α : Type} (a : α) (t : State), id (Res.ok a t) = .ok a t := fun _ _ => rfl
  have report : ∀ {α : Type} (a : Word) (x : α) (t : State), (Res.ok x t).reporting a = .ok x t := fun _ _ _ => rfl
  refine ⟨loads32_uncached (needCu1_of hcu), stores_uncached (by decide) keep (needCu1_of hcu), fun hx => ?_⟩
  have behind : ∀ k : Out, needCu1 s (need64Move s k) = k := fun k => by rw [needCu1_of hcu, need64Move_of hx]
  have behindFpr : fprNumberOk s r = true → ∀ k : Out, needCu1 s (need64Move s (needFpr s r k)) = k :=
    fun hr k => by rw [behind, needFpr_of hr]
  exact ⟨loads32_uncached (behind _), loads64_uncached keep (behind _), loads64_uncached keep (behind _),
    loads64_uncached (report (luxc1Reported vx)) (behind _), stores_uncached (by decide) keep (behind _),
    fun hm hu hr => stores_uncached (by decide) keep (behindFpr hr _) hm hu,
    fun hm hu hr => stores_uncached (by decide) keep (behindFpr hr _) hm hu,
    fun hm hu hr => stores_uncached (by decide) (report vx) (behindFpr hr _) hm hu⟩

end Sys2Proof.Proofs.UncachedFp
end

section
/-! Translation through the TLB and the exceptions of a page that cannot be used (20_memory.md R230 to R232; 10_state.md R78;
60_exceptions.md R804, R805, R807, R816, R820, R823, R824). -/

namespace Sys2Proof.Proofs.TlbMiss

open Sys2Proof.Machine Sys2Proof.Laws Sys2Proof.Claims

/-! What the entry of a TLB exception records. -/

section Entry

variable (store : Bool) (va : Word) (s : State)

theorem tlbErrorEntered_refill : TlbErrorEntered s (if store then 3 else 2)
    (if s.cp0.status.exl then 0x180 else if addressing64 s va then 0x080 else 0x000) va
    (takeException (.tlbRefill store va) s) :=
  ⟨entered_takeException (e := .tlbRefill store va) (by simp) s, rfl, rfl, rfl, rfl, rfl, rfl, rfl⟩

theorem tlbErrorEntered_invalid :
    TlbErrorEntered s (if store then 3 else 2) 0x180 va (takeException (.tlbInvalid store va) s) := by
  have ho : vectorOffset s (.tlbInvalid store va) = 0x180 := by unfold vectorOffset; split <;> rfl
  exact ⟨ho ▸ entered_takeException (e := .tlbInvalid store va) (by simp) s, rfl, rfl, rfl, rfl, rfl, rfl, rfl⟩

theorem tlbErrorEntered_mod : TlbErrorEntered s 1 0x180 va (takeException (.mod va) s) := by
  have ho : vectorOffset s (.mod va) = 0x180 := by unfold vectorOffset; split <;> rfl
  exact ⟨ho ▸ entered_takeException (e := .mod va) (by simp) s, rfl, rfl, rfl, rfl, rfl, rfl, rfl⟩

end Entry

/-! The lookup by the number of entries that match. -/

section Lookup

/-- The address lies in a mapped segment that the mode may use (R229). -/
def Mapped (s : State) (a : Word) : Prop :=
  segmentAccessible s (segmentOf a) = true ∧ (segmentOf a = .useg ∨ segmentOf a = .xuseg ∨ segmentOf a = .xsseg
    ∨ segmentOf a = .xkseg ∨ segmentOf a = .csseg ∨ segmentOf a = .ckseg3)

/-- Entry `i` is the one that matches. -/
def OneHit (s : State) (a : Word) (i : Fin 48) : Prop := Hits s s.tlb[i] a ∧ ∀ j : Fin 48, j ≠ i → ¬ Hits s s.tlb[j] a

/-- Two entries match at least. -/
def TwoHits (s : State) (a : Word) : Prop := ∃ i j : Fin 48, i ≠ j ∧ Hits s s.tlb[i] a ∧ Hits s s.tlb[j] a

variable {s : State} {a : Word} {k : Access} {i : Fin 48}

theorem translate_mapped (he : s.cp0.status.erl = false) (h : Mapped s a) : Machine.translate s a k = tlbLookup s a k := by
  obtain ⟨hacc, hseg⟩ := h
  unfold Machine.translate
  simp only [hacc, Bool.not_true, Bool.false_eq_true, if_false]
  obtain h | h | h | h | h | h := hseg <;> simp [h, he]

/-- The test the lookup makes of an entry. -/
theorem matches_eq_false {e : TlbEntry} (h : ¬ Hits s e a) :
    e.matches (a.extractLsb' 62 2) (a.extractLsb' 13 27) s.cp0.entryHi.asid = false := by
  rw [← Bool.not_eq_true, Tlb.matches_iff]
  exact h

theorem matches_eq_true {e : TlbEntry} (h : Hits s e a) :
    e.matches (a.extractLsb' 62 2) (a.extractLsb' 13 27) s.cp0.entryHi.asid = true :=
  (Tlb.matches_iff _ _ _ _).2 h

variable (ht : s.cp0.config0.tr = false) (hm : illegalMaskPresent s = false)
include ht hm

theorem tlbLookup_of_noHit (h : ∀ i : Fin 48, ¬ Hits s s.tlb[i] a) :
    tlbLookup s a k = .trap (.tlbRefill k.isStore a) := by
  have hl : tlbMatches s (a.extractLsb' 62 2) (a.extractLsb' 13 27) = [] :=
    Tlb.filter_eq_nil fun j => matches_eq_false (h j)
  simp [tlbLookup, ht, hm, hl]

theorem tlbLookup_of_twoHits (h : TwoHits s a) : tlbLookup s a k = .trap .mcheck := by
  obtain ⟨i, j, hij, hi, hj⟩ := h
  obtain ⟨x, y, l, hl⟩ : ∃ x y l, tlbMatches s (a.extractLsb' 62 2) (a.extractLsb' 13 27) = x :: y :: l :=
    Tlb.filter_of_two hij (matches_eq_true hi) (matches_eq_true hj)
  simp [tlbLookup, ht, hm, hl]

theorem tlbLookup_of_oneHit (h : OneHit s a i) : tlbLookup s a k = pageAccess s.tlb[i] a k := by
  have hl : tlbMatches s (a.extractLsb' 62 2) (a.extractLsb' 13 27) = [i] :=
    Tlb.filter_eq_singleton (matches_eq_true h.1) fun j hj => matches_eq_false (h.2 j hj)
  simp [tlbLookup, ht, hm, hl]

end Lookup

/-! The page of the matching entry, by its size 4^n times 4 KB. -/

section Page

/-- The mask of the pages of size `n`. -/
def Sized (e : TlbEntry) (n : Nat) : Prop := n < 7 ∧ e.mask = BitVec.ofNat 12 (4 ^ n - 1)

/-- The page of the entry that holds the address. -/
def pageOf (e : TlbEntry) (n : Nat) (a : Word) : TlbPage := if a.getLsbD (12 + 2 * n) then e.odd else e.even

variable {e : TlbEntry} {n : Nat} {a : Word} {k : Access}

theorem selectBit_of_sized (h : Sized e n) : selectBit e.mask = 12 + 2 * n := by
  obtain ⟨hn, hm⟩ := h
  rw [hm]
  interval_cases n <;> rfl

/-- The mask covers the page-number bits below the page size. -/
theorem mask_getLsbD (h : Sized e n) {j : Nat} (hj : j < 24) : (e.mask.setWidth 24).getLsbD j = decide (j < 2 * n) := by
  obtain ⟨hn, hm⟩ := h
  rw [hm, BitVec.getLsbD_setWidth, BitVec.getLsbD_ofNat, show (4 : Nat) ^ n = 2 ^ (2 * n) by rw [pow_mul]; norm_num,
    Nat.testBit_two_pow_sub_one]
  by_cases h2 : j < 2 * n
  · simp [hj, h2, show j < 12 by omega]
  · simp [h2]

theorem pageAccess_eq (h : Sized e n) : pageAccess e a k =
    if !(pageOf e n a).v then .trap (.tlbInvalid k.isStore a)
    else if k.isStore && !(pageOf e n a).d then .trap (.mod a)
    else .ok (pageAddress e.mask (pageOf e n a).pfn a) (pageOf e n a).c := by
  unfold pageAccess
  rw [selectBit_of_sized h]
  rfl

theorem pageAccess_invalid (h : Sized e n) (hv : (pageOf e n a).v = false) :
    pageAccess e a k = .trap (.tlbInvalid k.isStore a) := by
  rw [pageAccess_eq h, if_pos (by simp [hv])]

theorem pageAccess_modified (h : Sized e n) (hv : (pageOf e n a).v = true) (hd : (pageOf e n a).d = false) :
    pageAccess e a .store = .trap (.mod a) := by
  rw [pageAccess_eq h, if_neg (by simp [hv]), if_pos (by simp [hd, Access.isStore])]

theorem pageAccess_ok (h : Sized e n) (hv : (pageOf e n a).v = true) (hd : k = .store → (pageOf e n a).d = true) :
    pageAccess e a k = .ok (pageAddress e.mask (pageOf e n a).pfn a) (pageOf e n a).c := by
  rw [pageAccess_eq h, if_neg (by simp [hv]), if_neg]
  cases k <;> simp_all [Access.isStore]

/-- Below the page size the address, above it the page frame (R231). -/
theorem pageAddress_getLsbD (h : Sized e n) (pfn : BitVec 24) {j : Nat} (hj : j < 36) :
    (pageAddress e.mask pfn a).getLsbD j = if j < 12 + 2 * n then a.getLsbD j else pfn.getLsbD (j - 12) := by
  have hn := h.1
  unfold pageAddress
  rw [selectBit_of_sized h, BitVec.getLsbD_or, BitVec.getLsbD_append, BitVec.getLsbD_setWidth,
    CachedAccess.getLsbD_lowMask _ _ _ (by omega), BitVec.getLsbD_and, BitVec.getLsbD_not]
  by_cases h12 : j < 12
  · simp [h12, hj, show j < 12 + 2 * n by omega]
  · rw [mask_getLsbD h (by omega)]
    by_cases h2 : j < 12 + 2 * n
    · simp [h12, hj, h2, show j - 12 < 2 * n by omega]
    · simp [h12, hj, h2, show j - 12 < 24 by omega, show ¬ j - 12 < 2 * n by omega]

end Page

/-! The accesses whose translation raises an exception. -/

section Access

variable {s : State} {va : Word} {e : Exc} {n : Nat}

theorem memRead_trapped (ha : va.toNat % n = 0) (ht : Machine.translate s va .load = .trap e) :
    memRead s va n = .trap e s := by
  simp [memRead, checkAligned, ha, ht, Translation.toRes]

theorem memWrite_trapped (ha : va.toNat % n = 0) (ht : Machine.translate s va .store = .trap e) (v : Word) :
    memWrite s va n v = .trap e s := by
  simp [memWrite, checkAligned, ha, ht, Translation.toRes]

theorem fetchWord_trapped (ha : va.toNat % 4 = 0) (ht : Machine.translate s va .fetch = .trap e) :
    fetchWord s va = .trap e s := by
  simp [fetchWord, Fetch.low2_eq_zero ha, ht, Translation.toRes]

variable {base rt : RegNum} {offset : BitVec 16} (ha : (gprRead s base + offset.signExtend 64).toNat % 4 = 0)
include ha

theorem lw_trapped (ht : Machine.translate s (gprRead s base + offset.signExtend 64) .load = .trap e) :
    exec (.lw base rt offset) s = .next (takeException e s) := by
  change loadInto (.gpr rt) (memRead s (gprRead s base + offset.signExtend 64) 4) _ = _
  rw [memRead_trapped ha ht]
  rfl

theorem sw_trapped (ht : Machine.translate s (gprRead s base + offset.signExtend 64) .store = .trap e) :
    exec (.sw base rt offset) s = .next (takeException e s) := by
  change finish (memWrite s (gprRead s base + offset.signExtend 64) 4 (gprRead s rt)) = _
  rw [memWrite_trapped ha ht]
  rfl

end Access

/-- Settles O34: the number of matching entries and the bits of the page say what the lookup answers; a load, a store and a fetch
enter the exception it names. -/
theorem tlbMissesRecordTheAddress : Obligations.TlbMissesRecordTheAddress := by
  intro s base rt offset x va load store mapped noHit oneHit twoHits refill sized page enters checks fetchEnters ht he hm
  have mcheck : McheckEntered s (takeException .mcheck s) := Tlb.mcheckEntered s s.tlb s.draws
  have none : ∀ {a : Word} {k : Access}, mapped a → noHit a →
      Machine.translate s a k = .trap (.tlbRefill k.isStore a) :=
    fun hmap h => (translate_mapped he hmap).trans (tlbLookup_of_noHit ht hm h)
  have several : ∀ {a : Word} {k : Access}, mapped a → twoHits a → Machine.translate s a k = .trap .mcheck :=
    fun hmap h => (translate_mapped he hmap).trans (tlbLookup_of_twoHits ht hm h)
  have one : ∀ {a : Word} {k : Access} {i : Fin 48}, mapped a → oneHit a i →
      Machine.translate s a k = pageAccess s.tlb[i] a k :=
    fun hmap h => (translate_mapped he hmap).trans (tlbLookup_of_oneHit ht hm h)
  refine ⟨fun ha hmap => ⟨fun h => ?_, fun h => ?_, fun i n h hn => ⟨fun hv => ?_, fun hv hd => ?_⟩⟩,
    fun hready ha hmap => ⟨fun h => ?_, fun h => ?_, fun i n h hn hv => ?_⟩, fun hmap k i n h hn hv hd => ?_⟩
  · exact ⟨⟨_, lw_trapped ha (none hmap h), tlbErrorEntered_refill false va s⟩,
      ⟨_, sw_trapped ha (none hmap h), tlbErrorEntered_refill true va s⟩⟩
  · exact ⟨⟨_, lw_trapped ha (several hmap h), mcheck, rfl⟩, ⟨_, sw_trapped ha (several hmap h), mcheck, rfl⟩⟩
  · have hpage : ∀ {k : Access}, Machine.translate s va k = .trap (.tlbInvalid k.isStore va) :=
      (one hmap h).trans (pageAccess_invalid hn hv)
    exact ⟨⟨_, lw_trapped ha hpage, tlbErrorEntered_invalid false va s⟩,
      ⟨_, sw_trapped ha hpage, tlbErrorEntered_invalid true va s⟩⟩
  · exact ⟨_, sw_trapped ha ((one hmap h).trans (pageAccess_modified hn hv hd)), tlbErrorEntered_mod va s⟩
  · exact ⟨_, Fetch.step_of_fetch_trap hready (fetchWord_trapped ha (none hmap h)), tlbErrorEntered_refill false _ s⟩
  · exact ⟨_, Fetch.step_of_fetch_trap hready (fetchWord_trapped ha (several hmap h)), mcheck, rfl⟩
  · exact ⟨_, Fetch.step_of_fetch_trap hready (fetchWord_trapped ha ((one hmap h).trans (pageAccess_invalid hn hv))),
      tlbErrorEntered_invalid false _ s⟩
  · exact ⟨_, (one hmap h).trans (pageAccess_ok hn hv hd), fun j hj => pageAddress_getLsbD hn _ hj⟩

end Sys2Proof.Proofs.TlbMiss
end

section
/-! What comes before an instruction, and a data access that the bus answers with an error (60_exceptions.md R803, R808, R817,
R821, R830 to R835; 20_memory.md R259). -/

namespace Sys2Proof.Proofs.Events

open Sys2Proof.Machine Sys2Proof.Laws Sys2Proof.Claims Sys2Proof.Proofs.CachedAccess

/-! The steps that execute no instruction. -/

section Pending

variable {s : State}

theorem step_of_over {t : State} (h : nextAction s = .over (.next t)) : step s = .next (boundary t) := by
  unfold step runStep
  rw [h]
  rfl

variable (hr : s.resetRequest = none)
include hr

theorem step_of_nmi (h : s.nmiPending = true) : step s = .next (boundary (takeNmi s)) :=
  step_of_over (by simp [nextAction, hr, h])

variable (hn : s.nmiPending = false) (hs : s.sleeping = false)
include hn hs

theorem step_of_interrupt (h : interruptDue s = true) (hf : fetchMeetsMultiple s = false) :
    step s = .next (boundary (takeException .int s)) :=
  step_of_over (by rw [Sleep.nextAction_awake hr hn hs, awakeAction, if_pos (by simp [h, hf])]; rfl)

theorem step_of_lateError (h : interruptDue s = false) (hd : lateErrorDue s = true) :
    step s = .next (boundary (takeException .dbe s)) :=
  step_of_over (by rw [Sleep.nextAction_awake hr hn hs, awakeAction, if_neg (by simp [h]), if_pos hd]; rfl)

end Pending

section Interrupts

variable {s : State}

theorem interruptDue_iff : interruptDue s = true ↔ s.intHeld = false ∧ s.cp0.status.ie = true ∧ s.cp0.status.exl = false
    ∧ s.cp0.status.erl = false ∧ causeIp s &&& s.cp0.status.im ≠ 0 := by
  simp [interruptDue, and_assoc]

/-- The entry of an interrupt, with its own vector where Cause.IV asks for it (60_exceptions.md R822, R831). -/
theorem entered_int (hx : s.cp0.status.exl = false) :
    Entered s 0 (if s.cp0.cause.iv then 0x200 else 0x180) (takeException .int s) ∧ KeepsAddresses s (takeException .int s) := by
  have ho : vectorOffset s .int = if s.cp0.cause.iv then 0x200 else 0x180 := by
    unfold vectorOffset
    rw [if_neg (by simp [hx])]
  exact ⟨ho ▸ entered_takeException (e := .int) (by simp) s, rfl⟩

theorem causeIp_getLsbD (s : State) (k : Nat) : (causeIp s).getLsbD k =
    if k < 2 then s.cp0.cause.ip.getLsbD k
    else if k < 7 then s.intPins.getLsbD (k - 2)
    else (decide (k = 7) && (s.intPins.getLsbD 5 || (s.timerRequest && s.cp0.config0.te)
      || (s.cp0.perfCtl0.ie && s.cp0.perfCnt0.getLsbD 31) || (s.cp0.perfCtl1.ie && s.cp0.perfCnt1.getLsbD 31))) := by
  unfold causeIp
  simp only [BitVec.getLsbD_append, BitVec.getLsbD_extractLsb', BitVec.getLsbD_ofBool, Nat.zero_add]
  by_cases h2 : k < 2
  · simp [h2]
  by_cases h7 : k < 7
  · simp [h2, h7, show k - 2 < 5 by omega]
  · simp [h2, h7, show ¬ k - 2 < 5 by omega, show (k - 2 - 5 = 0) = (k = 7) by simp; omega]

end Interrupts

/-! The end of an instruction whose data access the bus answered with an error (R808). -/

/-- At once with Config0.ISD = 1, else recorded. -/
theorem busErrorNoted_lateBusError (dest : Dest) (b : State) : BusErrorNoted b dest (.next (lateBusError dest b)) := by
  refine ⟨_, rfl, ?_⟩
  unfold lateBusError
  split
  · exact ⟨(entered_plain (e := .dbe) rfl b).1, (entered_plain (e := .dbe) rfl b).2, rfl⟩
  · rw [advance_eq]
    exact ⟨⟨rfl, rfl⟩, ⟨_, rfl, Nat.le_of_lt_succ (Nat.mod_lt _ (Nat.succ_pos _)), rfl, rfl⟩, rfl⟩

theorem freed_gpr (s : State) (r : RegNum) : Freed s (.gpr r) (freeDest (.gpr r) s) := by
  have he : freeDest (.gpr r) s = gprWrite (spend 1 s) r (freeWord s 0) := rfl
  refine ⟨⟨freeWord s 0, Branch.gprIs_gprWrite (spend 1 s) r _⟩, ?_⟩
  rw [he]
  unfold gprWrite
  split <;> rfl

theorem freed_fpr32 (s : State) (r : RegNum) : Freed s (.fpr r false) (freeDest (.fpr r false) s) := by
  obtain ⟨x, y, n, hx⟩ := FpMove.setFpr32_frame (spend 1 s) r .raw (low32 (freeWord s 0))
  have he : freeDest (.fpr r false) s = setFpr32 (spend 1 s) r (low32 (freeWord s 0)) .raw := rfl
  refine ⟨⟨_, FpMove.fpr32Is_setFpr32 (spend 1 s) r .raw (low32 (freeWord s 0))⟩, ?_⟩
  rw [he, hx]
  rfl

theorem freed_fpr64 {s : State} {r : RegNum} (h : fprNumberOk s r = true) :
    Freed s (.fpr r true) (freeDest (.fpr r true) s) := by
  obtain ⟨x, y, n, hx⟩ := FpMove.setFpr64_frame (spend 1 s) r .raw (freeWord s 0)
  have he : freeDest (.fpr r true) s = setFpr64 (spend 1 s) r (freeWord s 0) .raw := rfl
  refine ⟨⟨_, FpMove.fpr64Is_setFpr64 (spend 1 s) .raw h (freeWord s 0)⟩, ?_⟩
  rw [he, hx]
  rfl

/-! The accesses. -/

section Access

variable {s : State} {pa : PAddr} {n : Nat} {cca : BitVec 3}

/-- Where the bus error of a cached access is not that of an uncached one, it is that of the fill. -/
theorem fillFails_of_busAnswersError (h : BusAnswersError s pa n cca) (hcca : cca ≠ 2) :
    cacheReady s.dcache = true ∧ hitWays s.dcache pa = [] ∧ readFails s (lineKey s (tagOf pa) (lineOf pa)) 32 = true := by
  obtain ⟨h, -⟩ | ⟨-, hr, hh, hf⟩ := h
  · exact absurd h hcca
  · exact ⟨hr, hh, hf⟩

variable (hl : s.lateError = none)
include hl

theorem lookupOrFill_busError (h : BusAnswersError s pa n cca) (hcca : cca ≠ 2) :
    lookupOrFill s .data pa = .busError (waited s) := by
  obtain ⟨hr, hh, hf⟩ := fillFails_of_busAnswersError h hcca
  rw [CacheMiss.lookupOrFill_miss hr hh hl, Fetch.fillLine_fails .data hf]

theorem physRead_busError (h0 : 0 < n) (hn : pa.toNat % 8 + n ≤ 8) (h : BusAnswersError s pa n cca) :
    physRead s pa n cca = .busError (waited s) := by
  have hall := h
  obtain ⟨rfl, hc, hf⟩ | ⟨hcca, hr, hh, hf⟩ := h
  · simp [physRead, needBus, hc, hl, drivenAddress_eq s pa h0 hn, hf, waitForWrites_eq]
  · have hne : cca ≠ 2 := by rintro rfl; simp at hcca
    rw [CacheMiss.physRead_cached hcca, lookupOrFill_busError hl hall hne]
    rfl

/-- A write-back store whose fill fails. -/
theorem physWrite_busError_back (h : BusAnswersError s pa n 3) (v : Word) :
    physWrite s pa n v 3 = .busError (waited s) := by
  rw [CacheMiss.physWrite_writeBack, lookupOrFill_busError hl h (by decide)]
  rfl

/-- A write-through store whose fill fails has drained the buffer, but for its own word (20_memory.md R241). -/
theorem physWrite_busError_through (h : BusAnswersError s pa n 1) (v : Word) :
    physWrite s pa n v 1 = .busError (drainAll s) := by
  obtain ⟨hr, hh, hf⟩ := fillFails_of_busAnswersError h (by decide)
  have hfill : ∀ k bs, fillLine (drainAll (storeOut s pa k bs)) .data pa
      = .busError (waited (drainAll (storeOut s pa k bs))) := fun _ _ => Fetch.fillLine_fails .data hf
  simp [physWrite, writeThrough, needBus, hr, hh, hl, hfill]

end Access

/-! The instructions. -/

section Loads

variable {s : State} {va : Word} {pa : PAddr} {n : Nat} {cca : BitVec 3} {i : Instr} {dest : Dest}

/-- What a load does whose read the bus answers with an error: any value in its destination, and the error noted. -/
def Frees (s : State) (dest : Dest) (i : Instr) : Prop :=
  ∃ b, Freed (waited s) dest b ∧ BusErrorNoted b dest (exec i s)

theorem frees_of_read {r : Res Word} {write : Word → State → State} (hi : exec i s = loadInto dest r write)
    (hr : r = .busError (waited s)) (hd : Freed (waited s) dest (freeDest dest (waited s))) : Frees s dest i := by
  refine ⟨_, hd, ?_⟩
  rw [hi, hr]
  exact busErrorNoted_lateBusError dest _

variable (hl : s.lateError = none)
include hl

theorem memRead_busError (hn : n = 1 ∨ n = 2 ∨ n = 4 ∨ n = 8) (ha : va.toNat % n = 0)
    (ht : Machine.translate s va .load = .ok pa cca) (h : BusAnswersError s pa n cca) :
    memRead s va n = .busError (waited s) := by
  have hfits := aligned_fits hn ha
  have hmod := translate_mod ht
  rw [memRead_translated ha ht, physRead_busError hl (by omega) (by omega) h]

/-- A load of an aligned datum; `f` leaves a bus error as it is. -/
theorem frees_of_load (hn : n = 1 ∨ n = 2 ∨ n = 4 ∨ n = 8) {f : Res Word → Res Word}
    (hf : ∀ t, f (.busError t) = .busError t) {write : Word → State → State}
    (hi : exec i s = loadInto dest (f (memRead s va n)) write) (hd : Freed (waited s) dest (freeDest dest (waited s))) :
    va.toNat % n = 0 → Machine.translate s va .load = .ok pa cca → BusAnswersError s pa n cca → Frees s dest i :=
  fun ha ht h => frees_of_read hi (by rw [memRead_busError hl hn ha ht h, hf]) hd

/-- A load that would set LLbit does not (44_load_store.md R566). -/
theorem frees_of_linked (hn : n = 1 ∨ n = 2 ∨ n = 4 ∨ n = 8) {base rt : RegNum} {offset : BitVec 16} {extend : Word → Word}
    (hi : exec i s = loadLinked s base rt offset n extend) :
    let va := gprRead s base + offset.signExtend 64
    va.toNat % n = 0 → Machine.translate s va .load = .ok pa cca → BusAnswersError s pa n cca → Frees s (.gpr rt) i :=
  frees_of_load (f := fun r => r.bind fun v u => .ok v { u with llbit := true }) hl hn (fun _ => rfl) hi (freed_gpr _ rt)

/-- A partial load. -/
theorem frees_of_part {base rt : RegNum} {offset : BitVec 16} {w : Nat} {left : Bool} (hw : w = 4 ∨ w = 8)
    {merge : Nat → Word → Word → Word} (hi : exec i s = loadPart s base rt offset (partOf left) w merge) :
    let va := gprRead s base + offset.signExtend 64
    Machine.translate s va .load = .ok pa cca →
      BusAnswersError s (partFirst s va pa w left) (partCount s va w left) cca → Frees s (.gpr rt) i := by
  intro va ht h
  have hfirst := withinDoubleword_partOf (s := s) hw (translate_mod ht) left
  have hcount : (partOf left (dataBigEndian s) va w).2 = partCount s va w left := by rw [partOf_eq]
  obtain ⟨-, hfits⟩ := UncachedAccess.partFirst_within (s := s) (left := left) hw (translate_mod ht)
  have hread : memReadPart s va (partOf left (dataBigEndian s) va w).1 (partOf left (dataBigEndian s) va w).2
      = .busError (waited s) := by
    rw [memReadPart_translated ht, hfirst, hcount, physRead_busError hl (partCount_bounds s va hw left).1 hfits h]
  exact frees_of_read hi hread (freed_gpr _ rt)

end Loads

section Stores

variable {s : State} {va : Word} {pa : PAddr} {n : Nat} {cca : BitVec 3} {i : Instr}

/-- What a store does whose fill the bus answers with an error: nothing but the wait for the writes before it, and the error
noted. -/
def Drops (s : State) (cca : BitVec 3) (p : PAddr) (n : Nat) (i : Instr) : Prop :=
  (cca = 3 → BusAnswersError s p n cca → BusErrorNoted (waited s) .none (exec i s))
    ∧ (cca = 1 → BusAnswersError s p n cca → BusErrorNoted (drainAll s) .none (exec i s))

variable (hl : s.lateError = none)
include hl

theorem drops_of_write {r : Res Unit} {v : Word} {f : Res Unit → Res Unit} (hf : ∀ t, f (.busError t) = .busError t)
    (hi : exec i s = finish (f r)) (hr : r = physWrite s pa n v cca) : Drops s cca pa n i := by
  refine ⟨?_, ?_⟩
  · rintro rfl h
    rw [hi, hr, physWrite_busError_back hl h, hf]
    exact busErrorNoted_lateBusError .none _
  · rintro rfl h
    rw [hi, hr, physWrite_busError_through hl h, hf]
    exact busErrorNoted_lateBusError .none _

/-- A store of an aligned datum. -/
theorem drops_of_store {v : Word} {f : Res Unit → Res Unit} (hf : ∀ t, f (.busError t) = .busError t)
    (hi : exec i s = finish (f (memWrite s va n v))) :
    va.toNat % n = 0 → Machine.translate s va .store = .ok pa cca → Drops s cca pa n i :=
  fun ha ht => drops_of_write hl hf hi (memWrite_translated ha ht v)

/-- A partial store. -/
theorem drops_of_part {base : RegNum} {offset : BitVec 16} {w : Nat} {left : Bool} (hw : w = 4 ∨ w = 8) {lower : Nat → Word}
    (hi : exec i s = storePart s base offset (partOf left) w lower) :
    let va := gprRead s base + offset.signExtend 64
    Machine.translate s va .store = .ok pa cca → Drops s cca (partFirst s va pa w left) (partCount s va w left) i := by
  intro va ht
  have hfirst := withinDoubleword_partOf (s := s) hw (translate_mod ht) left
  have hcount : (partOf left (dataBigEndian s) va w).2 = partCount s va w left := by rw [partOf_eq]
  have hwrite : memWritePart s va (partOf left (dataBigEndian s) va w).1 (partOf left (dataBigEndian s) va w).2
      (lower (partOf left (dataBigEndian s) va w).2)
      = physWrite s (partFirst s va pa w left) (partCount s va w left) (lower (partCount s va w left)) cca := by
    rw [memWritePart_translated ht, hfirst, hcount]
  exact drops_of_write (f := id) hl (fun _ => rfl) hi hwrite

/-- A store conditional whose fill fails changes nothing (44_load_store.md R568). -/
theorem dropped_of_conditional {base rt : RegNum} {offset : BitVec 16} (hi : exec i s = storeConditional s base rt offset n) :
    (gprRead s base + offset.signExtend 64).toNat % n = 0 →
    Machine.translate s (gprRead s base + offset.signExtend 64) .store = .ok pa cca → s.llbit = true →
    (cca = 1 ∨ cca = 3) → BusAnswersError s pa n cca → BusErrorNoted s .none (exec i s) := by
  intro ha ht hll hcca h
  obtain ⟨u, hu⟩ : ∃ u, physWrite s pa n (gprRead s rt) cca = .busError u := by
    rcases hcca with rfl | rfl
    · exact ⟨_, physWrite_busError_through hl h _⟩
    · exact ⟨_, physWrite_busError_back hl h _⟩
  rw [hi]
  unfold storeConditional checkAligned baseOffset sext16
  simp only [ha, ht, hll, hu, Translation.toRes, bind_of_ok, beq_self_eq_true, if_true]
  exact busErrorNoted_lateBusError .none s

end Stores

/-- Fill, and Fetch And Lock, of a line that memory answers with an error (46_cp0.md R638, R641). -/
theorem noted_of_fill {s : State} (hl : s.lateError = none) {i : Instr} {ea : Word} {pa : PAddr} {cca : BitVec 3} {d : Side}
    {lock : Bool} (hi : exec i s = finish (fillAt s d ea lock)) (ht : Machine.translate s ea .load = .ok pa cca)
    (hcca : cca = 0 ∨ cca = 1 ∨ cca = 3) (hf : readFails s (lineKey s (tagOf pa) (lineOf pa)) 32 = true)
    (hr : cacheReady (getCache s d) = true) (hh : hitWays (getCache s d) pa = []) :
    BusErrorNoted (waited s) .none (exec i s) := by
  rw [hi, CacheOps.fillAt_miss (CacheOps.cacheTranslate_cached ht hcca) hr hh hl, Fetch.fillLine_fails d hf]
  exact busErrorNoted_lateBusError .none _

/-- Settles O58: the order of the events is that of `nextAction`; every load and store whose access the bus answers with an error
ends in `lateBusError`. -/
theorem pendingEventsComeFirst : Obligations.PendingEventsComeFirst := by
  intro s hr
  refine ⟨fun hn => ?_, fun hn hs hh hf hie hx he hc => ?_, fun hn hs hi e he h0 => ?_, fun h => ?_, ?_, fun k hk => ?_,
    fun k hk => ?_, fun hl base index rt offset pa cca => ?_⟩
  · exact ⟨_, step_of_nmi hr hn, rfl, rfl, rfl, fun _ => rfl, sameMemory_of rfl rfl rfl rfl, rfl⟩
  · exact ⟨_, step_of_interrupt hr hn hs (interruptDue_iff.2 ⟨hh, hie, hx, he, hc⟩) hf, entered_int hx⟩
  · exact ⟨_, step_of_lateError hr hn hs hi (by simp [lateErrorDue, he, h0]), entered_plain (e := .dbe) rfl s⟩
  · rw [← Bool.not_eq_true, interruptDue_iff]
    rintro ⟨-, hie, hx, he, hc⟩
    rcases h with h | h | h | h <;> simp_all
  · rw [causeIp_getLsbD]
    rfl
  · rw [causeIp_getLsbD, if_neg (by omega), if_pos (by omega)]
    rfl
  · rw [causeIp_getLsbD, if_pos hk]
  · intro va vx down up count first frees load merge drops store part conditional
    have keep : ∀ {α : Type} (t : State), id (Res.busError t : Res α) = .busError t := fun _ => rfl
    have report : ∀ {α : Type} (a : Word) (t : State), (Res.busError t : Res α).reporting a = .busError t := fun _ _ => rfl
    have swl : exec (.swl base rt offset) s = storePart s base offset (partOf true) 4
        fun n => ((gprRead s rt).setWidth 32 >>> (32 - 8 * n)).setWidth 64 := rfl
    have swr : exec (.swr base rt offset) s = storePart s base offset (partOf false) 4 fun _ => gprRead s rt := rfl
    have free := freed_gpr (waited s) rt
    have free32 := freed_fpr32 (waited s) rt
    refine ⟨frees_of_load hl (by decide) keep rfl free, frees_of_load hl (by decide) keep rfl free,
      frees_of_load hl (by decide) keep rfl free, frees_of_load hl (by decide) keep rfl free,
      frees_of_load hl (by decide) keep rfl free, frees_of_linked hl (by decide) rfl,
      frees_of_part hl (.inl rfl) (exec_lwl s base rt offset), frees_of_part hl (.inl rfl) (exec_lwr s base rt offset),
      drops_of_store hl keep rfl, drops_of_store hl keep rfl, drops_of_store hl keep rfl,
      drops_of_part hl (.inl rfl) swl, drops_of_part hl (.inl rfl) swr,
      dropped_of_conditional hl rfl, fun hx => ?_, fun hcu => ?_, fun hu hw ht hcca hf => ?_⟩
    · exact ⟨frees_of_load hl (by decide) keep (need64_of hx) free, frees_of_load hl (by decide) keep (need64_of hx) free,
        frees_of_linked hl (by decide) (need64_of hx),
        frees_of_part (left := true) hl (.inr rfl) (need64_of hx), frees_of_part (left := false) hl (.inr rfl) (need64_of hx),
        drops_of_store hl keep (need64_of hx), drops_of_part (left := true) hl (.inr rfl) (need64_of hx),
        drops_of_part (left := false) hl (.inr rfl) (need64_of hx), dropped_of_conditional hl (need64_of hx)⟩
    · refine ⟨frees_of_load hl (by decide) keep (needCu1_of hcu) free32, drops_of_store hl keep (needCu1_of hcu), fun hx => ?_⟩
      have behind : ∀ k : Out, needCu1 s (need64Move s k) = k := fun k => by rw [needCu1_of hcu, need64Move_of hx]
      refine ⟨frees_of_load hl (by decide) keep (behind _) free32, drops_of_store hl keep (behind _), fun hok => ?_⟩
      have behindFpr : ∀ k : Out, needCu1 s (need64Move s (needFpr s rt k)) = k := fun k => by rw [behind, needFpr_of hok]
      have free64 : Freed (waited s) (.fpr rt true) (freeDest (.fpr rt true) (waited s)) := freed_fpr64 (by
        obtain ⟨m, b, hw⟩ := UncachedFp.waited_frame s
        rw [hw]
        exact hok)
      exact ⟨frees_of_load hl (by decide) keep (behindFpr _) free64, frees_of_load hl (by decide) keep (behindFpr _) free64,
        frees_of_load hl (by decide) (report (luxc1Reported vx)) (behindFpr _) free64,
        drops_of_store hl keep (behindFpr _), drops_of_store hl keep (behindFpr _),
        drops_of_store hl (report vx) (behindFpr _)⟩
    · refine ⟨fun hr hh => ?_, fun hr hh k hk => ?_⟩
      · exact noted_of_fill hl (d := .data) (lock := true) (CacheOps.exec_standard hu base offset hw 29 rfl) ht hcca hf hr hh
      · simp only [List.mem_cons, List.not_mem_nil, or_false] at hk
        rcases hk with rfl | rfl
        · exact noted_of_fill hl (d := .inst) (lock := false) (CacheOps.exec_standard hu base offset hw 20 rfl) ht hcca hf hr hh
        · exact noted_of_fill hl (d := .inst) (lock := true) (CacheOps.exec_standard hu base offset hw 28 rfl) ht hcca hf hr hh

end Sys2Proof.Proofs.Events
end

section
/-! The bit patterns of the FPU's formats and their classes (47_fpu_arithmetic.md R660, R661, R684, R685). -/

namespace Sys2Proof.Proofs.FpWords

open Sys2Proof.Machine Sys2Proof.Laws Sys2Proof.Claims

variable {f : Fmt} {v : Word} {sign : Bool} {m : Nat} {e : Int}

/-! The fields of a pattern. -/

section Assemble

variable {x y : Nat} (hx : x < 2 ^ f.expBits) (hy : y < 2 ^ f.frac)
include hx hy

theorem assemble_toNat : (assemble f sign x y).toNat
    = (if sign then 2 ^ (f.frac + f.expBits) else 0) + x * 2 ^ f.frac + y := by
  unfold assemble
  rw [BitVec.toNat_ofNat, Nat.mod_eq_of_lt]
  cases f <;> cases sign <;> simp only [Fmt.frac, Fmt.expBits] at hx hy ⊢ <;> norm_num <;> omega

theorem assemble_exponent : (assemble f sign x y).toNat / 2 ^ f.frac % 2 ^ f.expBits = x := by
  rw [assemble_toNat hx hy]
  cases f <;> cases sign <;> simp only [Fmt.frac, Fmt.expBits] at hx hy ⊢ <;> norm_num <;> omega

theorem assemble_fraction : (assemble f sign x y).toNat % 2 ^ f.frac = y := by
  rw [assemble_toNat hx hy]
  cases f <;> cases sign <;> simp only [Fmt.frac, Fmt.expBits] at hx hy ⊢ <;> norm_num <;> omega

theorem assemble_sign : (assemble f sign x y).getLsbD (f.frac + f.expBits) = sign := by
  rw [BitVec.getLsbD, Nat.testBit_eq_decide_div_mod_eq, assemble_toNat hx hy]
  cases f <;> cases sign <;> simp only [Fmt.frac, Fmt.expBits] at hx hy ⊢ <;> norm_num <;> omega

/-- The class of a pattern put together from a sign, an exponent and a fraction. -/
theorem classify_assemble : classify f (assemble f sign x y) =
    if x = 2 ^ f.expBits - 1 then (if y = 0 then .inf sign else .nan)
    else if x = 0 then (if y = 0 then .zero sign else .denormal)
    else .normal sign (2 ^ f.frac + y) ((x : Int) - f.bias - f.frac) := by
  simp only [classify, assemble_exponent hx hy, assemble_fraction hx hy, assemble_sign hx hy]

end Assemble

/-- Emax is half of what the exponent bits count to, less one (R660). -/
theorem two_pow_expBits (f : Fmt) : 2 ^ f.expBits = 2 * f.bias + 2 := by cases f <;> rfl

theorem bias_pos (f : Fmt) : 0 < f.bias := by cases f <;> decide

theorem classify_assemble_normal {x y : Nat} (h1 : 1 ≤ x) (h2 : x ≤ 2 * f.bias) (hy : y < 2 ^ f.frac) :
    classify f (assemble f sign x y) = .normal sign (2 ^ f.frac + y) ((x : Int) - f.bias - f.frac) := by
  have he := two_pow_expBits f
  rw [classify_assemble (by omega) hy, if_neg (by omega), if_neg (by omega)]

@[simp] theorem classify_zeroWord (f : Fmt) (sign : Bool) : classify f (zeroWord f sign) = .zero sign := by
  have he := two_pow_expBits f
  unfold zeroWord
  rw [classify_assemble (by omega) (Nat.two_pow_pos _), if_neg (by omega), if_pos rfl, if_pos rfl]

@[simp] theorem classify_infWord (f : Fmt) (sign : Bool) : classify f (infWord f sign) = .inf sign := by
  have he := two_pow_expBits f
  unfold infWord
  rw [classify_assemble (by omega) (Nat.two_pow_pos _), if_pos rfl, if_pos rfl]

theorem classify_maxFinWord (f : Fmt) (sign : Bool) :
    classify f (maxFinWord f sign) = .normal sign (2 ^ (f.frac + 1) - 1) (f.bias - f.frac) := by
  have he := two_pow_expBits f
  have hb := bias_pos f
  have hp := Nat.two_pow_pos f.frac
  unfold maxFinWord
  rw [classify_assemble_normal (by omega) (by omega) (by omega), he, Nat.pow_succ]
  congr 1 <;> omega

theorem classify_minNormWord (f : Fmt) (sign : Bool) :
    classify f (minNormWord f sign) = .normal sign (2 ^ f.frac) (f.emin - f.frac) := by
  have hb := bias_pos f
  unfold minNormWord
  rw [classify_assemble_normal (by omega) (by omega) (Nat.two_pow_pos _)]
  rfl

theorem classify_oneWord (f : Fmt) : classify f (oneWord f) = .normal false (2 ^ f.frac) (-(f.frac : Int)) := by
  have hb := bias_pos f
  unfold oneWord
  rw [classify_assemble_normal (by omega) (by omega) (Nat.two_pow_pos _)]
  congr 1
  omega

/-! A normal number. -/

theorem normal_mantissa (h : classify f v = .normal sign m e) : 2 ^ f.frac ≤ m ∧ m < 2 ^ (f.frac + 1) := by
  unfold classify at h
  dsimp only at h
  split at h
  · split at h <;> cases h
  split at h
  · split at h <;> cases h
  · cases h
    have := Nat.mod_lt v.toNat (Nat.two_pow_pos f.frac)
    rw [Nat.pow_succ]
    omega

/-! The sign bit. -/

/-- The number of the sign bit. -/
def signBit (f : Fmt) : Nat := f.frac + f.expBits

theorem signBit_lt (f : Fmt) : signBit f < 64 := by cases f <;> decide

theorem oneShift_getLsbD (f : Fmt) (k : Nat) :
    ((1 : Word) <<< signBit f).getLsbD k = decide (k = signBit f) := by
  have : ((1 : Word) <<< signBit f) = BitVec.twoPow 64 (signBit f) := by cases f <;> rfl
  rw [this, BitVec.getLsbD_twoPow]
  simp [signBit_lt f, eq_comm]

theorem flipSign_getLsbD (f : Fmt) (v : Word) (k : Nat) :
    (flipSign f v).getLsbD k = (decide (k = signBit f) != v.getLsbD k) := by
  change (v ^^^ ((1 : Word) <<< signBit f)).getLsbD k = _
  rw [BitVec.getLsbD_xor, oneShift_getLsbD f k]
  cases v.getLsbD k <;> cases decide (k = signBit f) <;> rfl

theorem clearSign_getLsbD (f : Fmt) (v : Word) {k : Nat} (hk : k < 64) :
    (clearSign f v).getLsbD k = (decide (k ≠ signBit f) && v.getLsbD k) := by
  change (v &&& ~~~((1 : Word) <<< signBit f)).getLsbD k = _
  rw [BitVec.getLsbD_and, BitVec.getLsbD_not, oneShift_getLsbD f k]
  simp [hk, Bool.and_comm]

/-- The bits below the sign, as a number, are its fraction and exponent. -/
theorem exponent_fraction_congr {a b : Word} (h : ∀ k, k < signBit f → a.getLsbD k = b.getLsbD k) :
    a.toNat / 2 ^ f.frac % 2 ^ f.expBits = b.toNat / 2 ^ f.frac % 2 ^ f.expBits
      ∧ a.toNat % 2 ^ f.frac = b.toNat % 2 ^ f.frac := by
  have hlow : a.toNat % 2 ^ signBit f = b.toNat % 2 ^ signBit f := by
    apply Nat.eq_of_testBit_eq
    intro k
    rw [Nat.testBit_mod_two_pow, Nat.testBit_mod_two_pow]
    by_cases hk : k < signBit f
    · simp only [hk, decide_true, Bool.true_and]
      exact h k hk
    · simp [hk]
  unfold signBit at hlow
  cases f <;> simp only [Fmt.frac, Fmt.expBits] at hlow ⊢ <;> norm_num at hlow ⊢ <;> omega

/-- A change of the sign bit alone changes the sign of the class alone. -/
theorem classify_flipSign (f : Fmt) (v : Word) : classify f (flipSign f v) =
    match classify f v with
    | .zero sign => .zero (!sign)
    | .normal sign m e => .normal (!sign) m e
    | .inf sign => .inf (!sign)
    | c => c := by
  have hsign : (flipSign f v).getLsbD (f.frac + f.expBits) = !v.getLsbD (f.frac + f.expBits) := by
    have h := flipSign_getLsbD f v (signBit f)
    rw [decide_eq_true rfl, Bool.true_bne] at h
    exact h
  obtain ⟨hexp, hfrac⟩ := exponent_fraction_congr (f := f) (a := flipSign f v) (b := v) fun k hk => by
    rw [flipSign_getLsbD f v k, decide_eq_false (Nat.ne_of_lt hk), Bool.false_bne]
  unfold classify
  dsimp only
  rw [hsign, hexp, hfrac]
  split
  · split <;> rfl
  split
  · split <;> rfl
  · rfl

end Sys2Proof.Proofs.FpWords
end

section
/-! An exact result is rounded once, or overflows or underflows (47_fpu_arithmetic.md R666 to R668, R672, R673); what a sum, a
product, a quotient and a root hand on to that is exact (R680 to R683, R686). -/

namespace Sys2Proof.Proofs.FpRound

open Sys2Proof.Machine Sys2Proof.Laws Sys2Proof.Claims Sys2Proof.Proofs.FpWords

/-! A magnitude divided by a power of two and rounded. The magnitude `q * 2^k + rem`, with something more below it where `sticky`
says so, is compared with what is kept, `q` or `q + 1` times 2^k. -/

section Shift

/-- What the rounding mode asks of the number `got * 1`, significand `m`, for an exact result from `low` to `high`, when numbers of
the format are `ulp` apart (the clauses of `CorrectlyRounded`). -/
def RoundedBy (rm : BitVec 2) (sign sticky : Bool) (m : Nat) (got low high ulp : Int) : Prop :=
  let up := high ≤ got ∧ got ≤ low + ulp ∧ (sticky = false → got < low + ulp)
  let down := got ≤ low ∧ high ≤ got + ulp ∧ (sticky = false → low < got + ulp)
  (rm = 0 → 2 * got ≤ 2 * low + ulp ∧ 2 * high ≤ 2 * got + ulp
      ∧ (sticky = false → (2 * got = 2 * low + ulp ∨ 2 * low = 2 * got + ulp) → m % 2 = 0))
    ∧ (rm = 1 → down) ∧ (rm = 2 → if sign then down else up) ∧ (rm = 3 → if sign then up else down)

variable {rm : BitVec 2} {sign sticky : Bool} {q rem k : Nat}

theorem roundsUp_nearest : roundsUp 0 sign q rem k sticky = true ↔
    2 ^ k < 2 * rem ∨ 2 * rem = 2 ^ k ∧ k ≠ 0 ∧ (sticky = true ∨ q % 2 = 1) := by
  simp [roundsUp, and_assoc]

theorem roundsUp_zero : roundsUp 1 sign q rem k sticky = false := by simp [roundsUp]

theorem roundsUp_up : roundsUp 2 sign q rem k sticky = true ↔ sign = false ∧ (rem ≠ 0 ∨ sticky = true) := by
  simp [roundsUp]

theorem roundsUp_down : roundsUp 3 sign q rem k sticky = true ↔ sign = true ∧ (rem ≠ 0 ∨ sticky = true) := by
  simp [roundsUp]

/-- What is kept, by the rounding, is the right neighbour; `ulp` may be twice 2^k where that is the last place of an even
significand. -/
theorem roundedBy_shift (hrem : rem < 2 ^ k) (hs : sticky = true → 2 ≤ k) {m ulp : Nat} (hulp : 2 ^ k ≤ ulp)
    (hm : m % 2 = 0 ∨ m = (if roundsUp rm sign q rem k sticky then q + 1 else q) ∧ ulp = 2 ^ k) :
    RoundedBy rm sign sticky m (((if roundsUp rm sign q rem k sticky then q + 1 else q) * 2 ^ k : Nat))
      ((q * 2 ^ k + rem : Nat)) ((q * 2 ^ k + rem + (if sticky then 1 else 0) : Nat)) ulp := by
  have heven : k ≠ 0 → 2 ^ k % 2 = 0 := fun h => by
    obtain ⟨j, rfl⟩ := Nat.exists_eq_succ_of_ne_zero h
    rw [Nat.pow_succ]
    omega
  have hone : k = 0 → 2 ^ k = 1 := fun h => by rw [h, Nat.pow_zero]
  generalize hr : roundsUp rm sign q rem k sticky = up at hm ⊢
  have hgot : (if up then q + 1 else q) * 2 ^ k = q * 2 ^ k + if up then 2 ^ k else 0 := by
    cases up
    · rfl
    · exact Nat.succ_mul _ _
  rw [hgot]
  unfold RoundedBy
  refine ⟨fun h => ?_, fun h => ?_, fun h => ?_, fun h => ?_⟩ <;> subst h
  · have h0 := hr ▸ roundsUp_nearest (sign := sign) (sticky := sticky) (q := q) (rem := rem) (k := k)
    generalize 2 ^ k = P at *
    generalize q * P = Q at *
    cases up <;> cases sticky <;> simp at h0 hm hs ⊢ <;> omega
  · rw [roundsUp_zero] at hr
    generalize 2 ^ k = P at *
    generalize q * P = Q at *
    subst hr
    cases sticky <;> simp <;> omega
  · have h0 := hr ▸ roundsUp_up (sign := sign) (sticky := sticky) (q := q) (rem := rem) (k := k)
    generalize 2 ^ k = P at *
    generalize q * P = Q at *
    cases up <;> cases sticky <;> cases sign <;> simp at h0 ⊢ <;> omega
  · have h0 := hr ▸ roundsUp_down (sign := sign) (sticky := sticky) (q := q) (rem := rem) (k := k)
    generalize 2 ^ k = P at *
    generalize q * P = Q at *
    cases up <;> cases sticky <;> cases sign <;> simp at h0 ⊢ <;> omega

end Shift

/-! The parts of the rounding of an exact result (R673). -/

section Parts

/-- The exponent of the leading bit. -/
def topExp (x : Exact) : Int := x.exp + (x.num.log2 : Int)

/-- How many bits below the precision of the format the magnitude lacks. -/
def widen (f : Fmt) (x : Exact) : Nat := f.precision - (x.num.log2 + 1)

/-- How many bits beyond the precision of the format it has. -/
def drop (f : Fmt) (x : Exact) : Nat := x.num.log2 + 1 - f.precision

/-- The bits that are kept. -/
def kept (f : Fmt) (x : Exact) : Nat := x.num * 2 ^ widen f x / 2 ^ drop f x

/-- The bits that are dropped. -/
def rest (f : Fmt) (x : Exact) : Nat := x.num * 2 ^ widen f x % 2 ^ drop f x

/-- The significand after rounding, before a carry out of it. -/
def rounded (rm : BitVec 2) (f : Fmt) (x : Exact) : Nat :=
  if roundsUp rm x.sign (kept f x) (rest f x) (drop f x) x.sticky then kept f x + 1 else kept f x

/-- The rounding carries out of the significand. -/
def carries (rm : BitVec 2) (f : Fmt) (x : Exact) : Bool := rounded rm f x == 2 ^ f.precision

/-- Something is lost. -/
def loses (f : Fmt) (x : Exact) : Bool := rest f x != 0 || x.sticky

theorem endFinish_eq (c : Fcsr) (f : Fmt) (x : Exact) : endFinish c f x =
    if topExp x < f.emin then endUnderflow c f x.sign
    else if (f.bias : Int) < (if carries c.rm f x then topExp x + 1 else topExp x) then endOverflow c f x.sign
    else
      let v := assemble f x.sign ((if carries c.rm f x then topExp x + 1 else topExp x) + f.bias).toNat
        ((if carries c.rm f x then 2 ^ (f.precision - 1) else rounded c.rm f x) - 2 ^ f.frac)
      if loses f x then endInexact c v else .write v 0 := rfl

variable {f : Fmt} {x : Exact} {rm : BitVec 2} (h0 : 0 < x.num)
include h0

/-- Exactly p bits are kept. -/
theorem kept_bounds : 2 ^ f.frac ≤ kept f x ∧ kept f x < 2 ^ (f.frac + 1) := by
  have hlo := Nat.log2_self_le (Nat.pos_iff_ne_zero.1 h0)
  have hhi := Nat.lt_log2_self (n := x.num)
  unfold kept
  rw [Nat.le_div_iff_mul_le (Nat.two_pow_pos _), Nat.div_lt_iff_lt_mul (Nat.two_pow_pos _), ← Nat.pow_add, ← Nat.pow_add]
  have hexp : f.frac + drop f x = x.num.log2 + widen f x := by
    unfold drop widen Fmt.precision
    omega
  have hexp' : f.frac + 1 + drop f x = x.num.log2 + 1 + widen f x := by omega
  rw [hexp, hexp', Nat.pow_add, Nat.pow_add]
  exact ⟨Nat.mul_le_mul_right _ hlo, Nat.mul_lt_mul_of_pos_right hhi (Nat.two_pow_pos _)⟩

/-- A result with more below it has at least two bits to drop, and none to add. -/
theorem drop_of_sticky (h : 2 ^ (f.frac + 2) ≤ x.num) : 2 ≤ drop f x ∧ widen f x = 0 := by
  have hlog : f.frac + 2 ≤ x.num.log2 := (Nat.le_log2 (Nat.pos_iff_ne_zero.1 h0)).2 h
  unfold drop widen Fmt.precision
  omega

omit h0 in
theorem rest_lt : rest f x < 2 ^ drop f x := Nat.mod_lt _ (Nat.two_pow_pos _)

omit h0 in
theorem kept_rest : kept f x * 2 ^ drop f x + rest f x = x.num * 2 ^ widen f x := Nat.div_add_mod' _ _

theorem rounded_bounds : 2 ^ f.frac ≤ rounded rm f x ∧ rounded rm f x ≤ 2 ^ (f.frac + 1) := by
  have h := kept_bounds (f := f) h0
  unfold rounded
  split <;> omega

omit h0 in
/-- Where nothing is lost what is kept is the exact result. -/
theorem rounded_exact (h : loses f x = false) : x.sticky = false ∧ rounded rm f x * 2 ^ drop f x = x.num * 2 ^ widen f x := by
  simp only [loses, Bool.or_eq_false_iff, bne_eq_false_iff_eq] at h
  obtain ⟨hrest, hs⟩ := h
  have hup : roundsUp rm x.sign (kept f x) 0 (drop f x) false = false := by
    have := Nat.two_pow_pos (drop f x)
    simp [roundsUp]
    omega
  refine ⟨hs, ?_⟩
  rw [← kept_rest, rounded, hrest, hs, hup]
  rfl

omit h0 in
theorem rounded_inexact (h : loses f x = true) :
    rounded rm f x * 2 ^ drop f x ≠ x.num * 2 ^ widen f x ∨ x.sticky = true := by
  simp only [loses, Bool.or_eq_true, bne_iff_ne] at h
  refine h.imp_left fun hrest => ?_
  have hlt := rest_lt (f := f) (x := x)
  rw [← kept_rest]
  unfold rounded
  split
  · rw [Nat.succ_mul]
    omega
  · omega

theorem carries_iff_kept : carries rm f x = true ↔
    roundsUp rm x.sign (kept f x) (rest f x) (drop f x) x.sticky = true ∧ kept f x + 1 = 2 ^ (f.frac + 1) := by
  have h := kept_bounds (f := f) h0
  unfold carries rounded Fmt.precision
  rw [beq_iff_eq]
  split <;> simp_all
  omega

/-- The greatest significand, times the last place, against what is kept of the result. -/
theorem kept_mul_cases : (kept f x + 1 = 2 ^ (f.frac + 1) ∧ kept f x * 2 ^ drop f x = (2 ^ (f.frac + 1) - 1) * 2 ^ drop f x)
    ∨ (kept f x + 1 ≠ 2 ^ (f.frac + 1) ∧ kept f x * 2 ^ drop f x + 2 ^ drop f x ≤ (2 ^ (f.frac + 1) - 1) * 2 ^ drop f x) := by
  have h := (kept_bounds (f := f) h0).2
  by_cases he : kept f x + 1 = 2 ^ (f.frac + 1)
  · exact .inl ⟨he, by rw [← he]; rfl⟩
  · refine .inr ⟨he, ?_⟩
    rw [← Nat.succ_mul]
    exact Nat.mul_le_mul_right _ (by omega)

/-- The rounding carries out of the significand exactly where the result rounds past the greatest significand. -/
theorem carries_iff (hs : x.sticky = true → 2 ^ (f.frac + 2) ≤ x.num) :
    carries rm f x = true ↔ RoundsPastMax f rm x := by
  have hk := kept_bounds (f := f) h0
  have hr := rest_lt (f := f) (x := x)
  have hN := kept_rest (f := f) (x := x)
  have hM : 2 ^ (f.frac + 1) = 2 * 2 ^ f.frac := by rw [Nat.pow_succ, Nat.mul_comm]
  have hdrop : x.num.log2 - f.frac = drop f x := by
    unfold drop Fmt.precision
    omega
  rw [carries_iff_kept h0]
  unfold RoundsPastMax
  dsimp only
  rw [hdrop, Nat.add_mul, Nat.mul_assoc, Nat.one_mul]
  rcases Nat.lt_or_ge x.num.log2 f.frac with hL | hL
  · -- fewer bits than the format has: nothing is dropped, and the result is far below the greatest number
    have hd : drop f x = 0 := by omega
    have hst : x.sticky = false := by
      by_contra h
      have := drop_of_sticky h0 (hs (by simpa using h))
      omega
    have hnum : x.num < 2 ^ f.frac := (Nat.log2_lt (Nat.pos_iff_ne_zero.1 h0)).1 hL
    have hrest : rest f x = 0 := by rw [hd] at hr; omega
    simp only [hd, hst, hrest, Nat.pow_zero, Nat.mul_one]
    have hno : roundsUp rm x.sign (kept f x) 0 0 false = false := by simp [roundsUp]
    simp only [hno, Bool.false_eq_true, false_and, and_false, or_false, false_iff]
    omega
  · have hw : widen f x = 0 := by
      unfold widen Fmt.precision
      omega
    rw [hw, Nat.pow_zero, Nat.mul_one] at hN
    have hcases := kept_mul_cases (f := f) h0
    have hone : drop f x = 0 → 2 ^ drop f x = 1 := fun h => by rw [h, Nat.pow_zero]
    have hmode : rm = 0 ∨ rm = 1 ∨ rm = 2 ∨ rm = 3 := by revert rm; decide
    generalize (2 ^ (f.frac + 1) - 1) * 2 ^ drop f x = X at *
    generalize kept f x * 2 ^ drop f x = K at *
    rcases hmode with rfl | rfl | rfl | rfl
    · rw [roundsUp_nearest]
      cases x.sticky <;> simp <;> omega
    · rw [roundsUp_zero]
      simp
    · rw [roundsUp_up]
      cases x.sticky <;> cases x.sign <;> simp <;> omega
    · rw [roundsUp_down]
      cases x.sticky <;> cases x.sign <;> simp <;> omega

end Parts

/-! The result that fits the format. -/

section Fits

variable {f : Fmt} {x : Exact} {rm : BitVec 2}

/-- The claim, from the numbers it compares. -/
theorem correctlyRounded_of {v : Word} {cause : BitVec 6} {m : Nat} {e : Int} {got low high ulp : Nat}
    (hclass : classify f v = .normal x.sign m e) (hm : 2 ^ f.frac ≤ m ∧ m < 2 ^ (f.frac + 1))
    (hgot : m * 2 ^ (e - min e x.exp).toNat = got) (hlow : x.num * 2 ^ (x.exp - min e x.exp).toNat = low)
    (hhigh : (if x.sticky then x.num + 1 else x.num) * 2 ^ (x.exp - min e x.exp).toNat = high)
    (hulp : 2 ^ (e - min e x.exp).toNat = ulp)
    (hcause : cause = 0 ∧ got = low ∧ x.sticky = false ∨ cause = 0b000001 ∧ (got ≠ low ∨ x.sticky = true))
    (hround : RoundedBy rm x.sign x.sticky m got low high ulp) : CorrectlyRounded f rm x v cause := by
  refine ⟨m, e, hclass, hm.1, hm.2, ?_⟩
  have hgot' : (m : Int) * 2 ^ (e - min e x.exp).toNat = got := by exact_mod_cast hgot
  have hlow' : (x.num : Int) * 2 ^ (x.exp - min e x.exp).toNat = low := by exact_mod_cast hlow
  have hhigh' : ((if x.sticky then x.num + 1 else x.num : Nat) : Int) * 2 ^ (x.exp - min e x.exp).toNat = high := by
    exact_mod_cast hhigh
  have hulp' : (2 : Int) ^ (e - min e x.exp).toNat = ulp := by exact_mod_cast hulp
  dsimp only
  rw [hgot', hlow', hhigh', hulp']
  exact ⟨by exact_mod_cast hcause, hround⟩

variable (h0 : 0 < x.num) (hs : x.sticky = true → 2 ^ (f.frac + 2) ≤ x.num)
include h0 hs

theorem high_eq : (if x.sticky then x.num + 1 else x.num) * 2 ^ widen f x
    = kept f x * 2 ^ drop f x + rest f x + if x.sticky then 1 else 0 := by
  rw [kept_rest]
  cases hst : x.sticky
  · rfl
  · simp [(drop_of_sticky h0 (hs hst)).2]

omit h0 hs in
theorem rounded_of_carries (hc : carries rm f x = true) : rounded rm f x = 2 ^ (f.frac + 1) := by
  simpa [carries, Fmt.precision] using hc

/-- A carry needs bits to drop. -/
theorem widen_of_carries (hc : carries rm f x = true) : widen f x = 0 := by
  by_contra hw
  have hd : drop f x = 0 := by
    unfold widen drop at *
    omega
  have hst : x.sticky = false := by
    by_contra h
    exact hw (drop_of_sticky h0 (hs (by simpa using h))).2
  have hrest := rest_lt (f := f) (x := x)
  have hkept := kept_rest (f := f) (x := x)
  rw [hd, Nat.pow_zero] at hrest hkept
  have hexact := (rounded_exact (f := f) (x := x) (rm := rm) (by simp [loses, hst]; omega)).2
  rw [hd, Nat.pow_zero] at hexact
  have := (kept_bounds (f := f) h0).2
  have := rounded_of_carries hc
  omega

omit h0 hs in
/-- Cause tells whether anything was lost. -/
theorem cause_of_loses (rm : BitVec 2) : (if loses f x then (0b000001 : BitVec 6) else 0) = 0
      ∧ rounded rm f x * 2 ^ drop f x = kept f x * 2 ^ drop f x + rest f x ∧ x.sticky = false
    ∨ (if loses f x then (0b000001 : BitVec 6) else 0) = 0b000001
      ∧ (rounded rm f x * 2 ^ drop f x ≠ kept f x * 2 ^ drop f x + rest f x ∨ x.sticky = true) := by
  rw [kept_rest]
  cases hl : loses f x
  · obtain ⟨hst, hexact⟩ := rounded_exact (rm := rm) hl
    exact .inl ⟨rfl, hexact, hst⟩
  · exact .inr ⟨rfl, rounded_inexact hl⟩

omit h0 hs in
theorem two_pow_frac_even (f : Fmt) : 2 ^ f.frac % 2 = 0 := by cases f <;> rfl

/-- The significand and exponent after the rounding are those of the correctly rounded number. -/
theorem correctlyRounded_of_fits {v : Word}
    (hclass : classify f v = .normal x.sign (if carries rm f x then 2 ^ f.frac else rounded rm f x)
      ((if carries rm f x then topExp x + 1 else topExp x) - f.frac)) :
    CorrectlyRounded f rm x v (if loses f x then 0b000001 else 0) := by
  have hb := rounded_bounds (f := f) (rm := rm) h0
  have hpow := Nat.pow_succ 2 f.frac
  have hdrop : x.sticky = true → 2 ≤ drop f x := fun h => (drop_of_sticky h0 (hs h)).1
  have htop : topExp x - f.frac = x.exp - widen f x + drop f x := by
    unfold widen drop Fmt.precision topExp
    omega
  cases hc : carries rm f x <;> simp only [hc, if_true, if_false, Bool.false_eq_true] at hclass
  · have hmin : min (topExp x - f.frac) x.exp = x.exp - widen f x := by
      unfold widen drop Fmt.precision at *
      omega
    have hne : rounded rm f x ≠ 2 ^ (f.frac + 1) := by simpa [carries, Fmt.precision] using hc
    have hdn : (topExp x - f.frac - (x.exp - widen f x)).toNat = drop f x := by omega
    have hwn : (x.exp - (x.exp - widen f x)).toNat = widen f x := by omega
    exact correctlyRounded_of hclass (by omega) (by rw [hmin, hdn]) (by rw [hmin, hwn, kept_rest])
      (by rw [hmin, hwn, high_eq h0 hs]) (by rw [hmin, hdn]) (cause_of_loses rm)
      (roundedBy_shift rest_lt hdrop le_rfl (.inr ⟨rfl, rfl⟩))
  · have hw := widen_of_carries h0 hs hc
    have hr := rounded_of_carries hc
    have hhigh := high_eq h0 hs
    have hlow := kept_rest (f := f) (x := x)
    rw [hw, Nat.pow_zero, Nat.mul_one] at hhigh hlow
    have hmin : min (topExp x + 1 - f.frac) x.exp = x.exp := by omega
    have hdn : (topExp x + 1 - f.frac - x.exp).toNat = drop f x + 1 := by omega
    have hzero : (x.exp - x.exp).toNat = 0 := by omega
    have hgot : 2 ^ f.frac * 2 ^ (drop f x + 1) = rounded rm f x * 2 ^ drop f x := by
      rw [hr, Nat.pow_succ, Nat.pow_succ]
      ring
    exact correctlyRounded_of hclass ⟨le_rfl, Nat.pow_lt_pow_right (by decide) (Nat.lt_succ_self _)⟩ (by rw [hmin, hdn, hgot])
      (by rw [hmin, hzero, Nat.pow_zero, Nat.mul_one, hlow]) (by rw [hmin, hzero, Nat.pow_zero, Nat.mul_one, hhigh])
      (by rw [hmin, hdn]) (cause_of_loses rm)
      (roundedBy_shift rest_lt hdrop (Nat.pow_le_pow_right (by decide) (Nat.le_succ _)) (.inl (two_pow_frac_even f)))

end Fits

/-! The results beyond the format (R667, R668). -/

section Beyond

variable (c : Fcsr) (f : Fmt) (sign : Bool)

theorem classify_overflowResult (rm : BitVec 2) : classify f (overflowResult f rm sign) =
    if rm = 0 ∨ rm = 2 ∧ sign = false ∨ rm = 3 ∧ sign = true then .inf sign
    else .normal sign (2 ^ (f.frac + 1) - 1) (f.bias - f.frac) := by
  have hmode : rm = 0 ∨ rm = 1 ∨ rm = 2 ∨ rm = 3 := by revert rm; decide
  rcases hmode with rfl | rfl | rfl | rfl <;> cases sign <;>
    simp [overflowResult, classify_maxFinWord]

theorem classify_underflowResult (rm : BitVec 2) : classify f (underflowResult f rm sign) =
    if rm = 2 ∧ sign = false ∨ rm = 3 ∧ sign = true then .normal sign (2 ^ f.frac) (f.emin - f.frac) else .zero sign := by
  have hmode : rm = 0 ∨ rm = 1 ∨ rm = 2 ∨ rm = 3 := by revert rm; decide
  rcases hmode with rfl | rfl | rfl | rfl <;> cases sign <;>
    simp [underflowResult, classify_minNormWord]

theorem endOverflow_eq : endOverflow c f sign =
    if c.enables.getLsbD 2 = true ∨ c.enables.getLsbD 0 = true then .trap 0b000101
    else .write (overflowResult f c.rm sign) 0b000101 := by simp [endOverflow, enabled, causeOI]

theorem endUnderflow_eq : endUnderflow c f sign =
    if c.enables.getLsbD 1 = true then .trap 0b000011
    else if c.fs = false ∨ c.enables.getLsbD 0 = true then .trap 0b100000
    else .write (underflowResult f c.rm sign) 0b000011 := by
  cases h : c.fs <;> simp [endUnderflow, enabled, causeUI, causeE, h]

end Beyond

/-- The pattern put together from the rounded significand and its exponent, both in the range of the format. -/
theorem classify_result {f : Fmt} {sign : Bool} {r : Nat} {e : Int} (hr : 2 ^ f.frac ≤ r ∧ r < 2 ^ (f.frac + 1))
    (he : f.emin ≤ e ∧ e ≤ f.bias) :
    classify f (assemble f sign (e + f.bias).toNat (r - 2 ^ f.frac)) = .normal sign r (e - f.frac) := by
  have hpow := Nat.pow_succ 2 f.frac
  unfold Fmt.emin at he
  rw [classify_assemble_normal (by omega) (by omega) (by omega)]
  congr 1 <;> omega

/-- The whole of `Finish`: each of its three ends is met by one branch of `endFinish` (R673). -/
theorem finishes_endFinish (c : Fcsr) {f : Fmt} {x : Exact} (h0 : 0 < x.num)
    (hs : x.sticky = true → 2 ^ (f.frac + 2) ≤ x.num) : Finishes c f x (endFinish c f x) := by
  have hcarry := carries_iff (f := f) (rm := c.rm) h0 hs
  have hbias := bias_pos f
  rw [endFinish_eq]
  refine ⟨fun hu => ?_, fun ho => ?_, fun he ht => ?_⟩
  · change topExp x < f.emin at hu
    rw [if_pos hu, endUnderflow_eq]
    refine ⟨fun h => if_pos h, fun h h' => (if_neg h).trans (if_pos h'), fun h hfs h' =>
      ⟨_, (if_neg h).trans (if_neg ?_), classify_underflowResult f x.sign c.rm⟩⟩
    rintro (hfs' | h'')
    · simp [hfs] at hfs'
    · exact h' h''
  · have hlow : ¬ topExp x < f.emin := by
      unfold topExp Fmt.emin
      omega
    have hhigh : (f.bias : Int) < if carries c.rm f x then topExp x + 1 else topExp x := by
      rcases ho with ho | ⟨ho, hp⟩
      · unfold topExp
        split <;> omega
      · rw [if_pos (hcarry.2 hp), topExp]
        omega
    rw [if_neg hlow, if_pos hhigh, endOverflow_eq]
    exact ⟨fun h => if_pos h, fun h h' => ⟨_, if_neg (not_or.2 ⟨h, h'⟩), classify_overflowResult f x.sign c.rm⟩⟩
  · have hlow : ¬ topExp x < f.emin := by
      unfold topExp
      omega
    have hhigh : ¬ (f.bias : Int) < if carries c.rm f x then topExp x + 1 else topExp x := by
      rcases ht with ht | ⟨ht, hp⟩
      · unfold topExp
        split <;> omega
      · rw [if_neg (mt hcarry.1 hp), topExp]
        omega
    have hr : 2 ^ f.frac ≤ (if carries c.rm f x then 2 ^ f.frac else rounded c.rm f x)
        ∧ (if carries c.rm f x then 2 ^ f.frac else rounded c.rm f x) < 2 ^ (f.frac + 1) := by
      have hb := rounded_bounds (f := f) (rm := c.rm) h0
      split
      · exact ⟨le_rfl, Nat.pow_lt_pow_right (by decide) (Nat.lt_succ_self _)⟩
      · rename_i hc
        have hne : rounded c.rm f x ≠ 2 ^ (f.frac + 1) := by simpa [carries, Fmt.precision] using hc
        omega
    have hclass := classify_result (sign := x.sign) hr (e := if carries c.rm f x then topExp x + 1 else topExp x)
      ⟨by split <;> omega, by omega⟩
    rw [if_neg hlow, if_neg hhigh]
    refine ⟨_, _, correctlyRounded_of_fits (rm := c.rm) h0 hs hclass, ?_⟩
    cases loses f x
    · rfl
    · simp [endInexact, enabled, causeI, Fmt.precision]

/-! What the operations hand on to the rounding. -/

section Operations

variable {f : Fmt} {a b : Word} {sa sb : Bool} {ma mb : Nat} {ea eb : Int}

theorem classify_flipSign_normal (h : classify f b = .normal sb mb eb) :
    classify f (flipSign f b) = .normal (!sb) mb eb := by rw [classify_flipSign, h]

theorem scaled_flipSign (h : classify f b = .normal sb mb eb) : scaled f (flipSign f b) = -scaled f b := by
  rw [FpCompare.scaled_normal h, FpCompare.scaled_normal (classify_flipSign_normal h)]
  cases sb <;> simp [signed]

theorem addValue_normal (ha : classify f a = .normal sa ma ea) (hb : classify f b = .normal sb mb eb) (rm : BitVec 2) :
    addValue f rm a b = addNormal f rm sa ma ea sb mb eb := by simp only [addValue, ha, hb]

/-- A sum of normal numbers is exact, and zero exactly where the numbers cancel (R680). -/
theorem addValue_exact (ha : classify f a = .normal sa ma ea) (hb : classify f b = .normal sb mb eb) (rm : BitVec 2) :
    ∃ n : Int, scaled f a + scaled f b = n * 2 ^ (min ea eb - (f.emin - f.frac)).toNat
      ∧ f.emin - f.frac ≤ min ea eb
      ∧ addValue f rm a b = if n = 0 then .deliver (zeroWord f (cancelSign rm)) else .finish (exactOfInt n (min ea eb)) := by
  have h1 := (FpCompare.normal_bounds ha).2
  have h2 := (FpCompare.normal_bounds hb).2
  refine ⟨_, ?_, le_min h1 h2, addValue_normal ha hb rm⟩
  rw [FpCompare.scaled_eq_mul ha (le_min h1 h2) (min_le_left ea eb),
    FpCompare.scaled_eq_mul hb (le_min h1 h2) (min_le_right ea eb), ← Int.add_mul]
  push_cast
  rfl

theorem exactOfInt_value (n e : Int) :
    (if (exactOfInt n e).sign then -1 else 1) * ((exactOfInt n e).num : Int) = n := by
  by_cases h : n < 0
  · simp [exactOfInt, h, abs_of_neg]
  · simp [exactOfInt, h, abs_of_nonneg (not_lt.1 h)]

/-- The sum is handed on as it is. -/
theorem addValue_finish (ha : classify f a = .normal sa ma ea) (hb : classify f b = .normal sb mb eb) (rm : BitVec 2)
    (hne : scaled f a + scaled f b ≠ 0) :
    ∃ x : Exact, addValue f rm a b = .finish x ∧ x.sticky = false ∧ 0 < x.num ∧ f.emin - f.frac ≤ x.exp
      ∧ (if x.sign then -1 else 1) * (x.num * 2 ^ (x.exp - (f.emin - f.frac)).toNat : Int) = scaled f a + scaled f b := by
  obtain ⟨n, hsum, hexp, hadd⟩ := addValue_exact ha hb rm
  have hn : n ≠ 0 := by
    rintro rfl
    exact hne (by simp [hsum])
  refine ⟨exactOfInt n (min ea eb), by rw [hadd, if_neg hn], rfl, Int.natAbs_pos.2 hn, hexp, ?_⟩
  rw [← mul_assoc, exactOfInt_value, hsum]
  rfl

theorem mulValue_normal (ha : classify f a = .normal sa ma ea) (hb : classify f b = .normal sb mb eb) :
    mulValue f a b = .finish { sign := sa != sb, num := ma * mb, exp := ea + eb, sticky := false } := by
  simp only [mulValue, ha, hb]
  rfl

/-- The exact result of a quotient, at p + 2 bits beyond the operands (R683). -/
def quotient (f : Fmt) (sign : Bool) (ma : Nat) (ea : Int) (mb : Nat) (eb : Int) : Exact where
  sign := sign
  num := ma * 2 ^ (f.frac + 3) / mb
  exp := ea - eb - (f.frac + 3 : Nat)
  sticky := ma * 2 ^ (f.frac + 3) % mb != 0

theorem divValue_normal (ha : classify f a = .normal sa ma ea) (hb : classify f b = .normal sb mb eb) :
    divValue f a b = .finish (quotient f (sa != sb) ma ea mb eb) := by
  simp only [divValue, ha, hb]
  rfl

/-- A quotient truncated lies between its numerator and the next, exactly on it where nothing is left. -/
theorem div_bounds (n : Nat) {d : Nat} (hd : 0 < d) :
    n / d * d ≤ n ∧ n < (n / d + 1) * d ∧ ((n % d != 0) = true ↔ n / d * d ≠ n) := by
  have h := Nat.div_add_mod' n d
  have hlt := Nat.mod_lt n hd
  rw [Nat.succ_mul, bne_iff_ne]
  omega

theorem quotient_num_large (hma : 2 ^ f.frac ≤ ma) (hmb : mb < 2 ^ (f.frac + 1)) (h0 : 0 < mb) :
    2 ^ (f.frac + 2) ≤ ma * 2 ^ (f.frac + 3) / mb := by
  rw [Nat.le_div_iff_mul_le h0]
  calc 2 ^ (f.frac + 2) * mb ≤ 2 ^ (f.frac + 2) * 2 ^ (f.frac + 1) := Nat.mul_le_mul_left _ hmb.le
    _ = 2 ^ f.frac * 2 ^ (f.frac + 3) := by rw [← Nat.pow_add, ← Nat.pow_add]; congr 1; omega
    _ ≤ ma * 2 ^ (f.frac + 3) := Nat.mul_le_mul_right _ hma

/-! The square root (R686). -/

/-- The root of `n` to the integer below: what the bits found so far leave is between zero and the next place. -/
theorem isqrtFrom_bounds (n k r : Nat) (hlo : r * r ≤ n) (hhi : n < (r + 2 ^ k) * (r + 2 ^ k)) :
    isqrtFrom n k r * isqrtFrom n k r ≤ n ∧ n < (isqrtFrom n k r + 1) * (isqrtFrom n k r + 1) := by
  induction k generalizing r with
  | zero => exact ⟨hlo, by simpa [isqrtFrom] using hhi⟩
  | succ k ih =>
    unfold isqrtFrom
    split
    · rename_i h
      refine ih _ h ?_
      rwa [Nat.add_assoc, ← Nat.mul_two, ← Nat.pow_succ]
    · rename_i h
      exact ih _ hlo (by omega)

/-- How far the significand is scaled, to an even exponent. -/
def rootShift (f : Fmt) (e : Int) : Nat := 2 * (f.frac + 3) + if e % 2 = 0 then 0 else 1

/-- The exact result of a root. -/
def root (f : Fmt) (m : Nat) (e : Int) : Exact where
  sign := false
  num := isqrtFrom (m * 2 ^ rootShift f e) (2 * (f.frac + 1) + 4) 0
  exp := (e - (rootShift f e : Int)) / 2
  sticky := isqrtFrom (m * 2 ^ rootShift f e) (2 * (f.frac + 1) + 4) 0 * isqrtFrom (m * 2 ^ rootShift f e) (2 * (f.frac + 1) + 4) 0
    != m * 2 ^ rootShift f e

theorem sqrtValue_normal (ha : classify f a = .normal false ma ea) : sqrtValue f a = .finish (root f ma ea) := by
  simp only [sqrtValue, ha]
  rfl

theorem root_exp (f : Fmt) (m : Nat) (e : Int) : 2 * (root f m e).exp = e - rootShift f e := by
  unfold root rootShift
  dsimp only
  split <;> omega

theorem root_bounds {m : Nat} {e : Int} (hm : 2 ^ f.frac ≤ m ∧ m < 2 ^ (f.frac + 1)) :
    (root f m e).num * (root f m e).num ≤ m * 2 ^ rootShift f e
      ∧ m * 2 ^ rootShift f e < ((root f m e).num + 1) * ((root f m e).num + 1) ∧ 2 ^ (f.frac + 2) ≤ (root f m e).num := by
  have hshift : 2 * f.frac + 6 ≤ rootShift f e ∧ rootShift f e ≤ 2 * f.frac + 7 := by
    unfold rootShift
    split <;> omega
  have hbelow : m * 2 ^ rootShift f e < (0 + 2 ^ (2 * (f.frac + 1) + 4)) * (0 + 2 ^ (2 * (f.frac + 1) + 4)) := by
    rw [Nat.zero_add, ← Nat.pow_add]
    calc m * 2 ^ rootShift f e < 2 ^ (f.frac + 1) * 2 ^ rootShift f e :=
          Nat.mul_lt_mul_of_pos_right hm.2 (Nat.two_pow_pos _)
      _ = 2 ^ (f.frac + 1 + rootShift f e) := (Nat.pow_add ..).symm
      _ ≤ _ := Nat.pow_le_pow_right (by decide) (by omega)
  obtain ⟨hlo, hhi⟩ := isqrtFrom_bounds _ _ 0 (Nat.zero_le _) hbelow
  refine ⟨hlo, hhi, ?_⟩
  by_contra hsmall
  have hnext : (root f m e).num + 1 ≤ 2 ^ (f.frac + 2) := by omega
  have habove : 2 ^ (f.frac + 2) * 2 ^ (f.frac + 2) ≤ m * 2 ^ rootShift f e := by
    calc 2 ^ (f.frac + 2) * 2 ^ (f.frac + 2) = 2 ^ (2 * f.frac + 4) := by rw [← Nat.pow_add]; congr 1; omega
      _ ≤ 2 ^ (f.frac + rootShift f e) := Nat.pow_le_pow_right (by decide) (by omega)
      _ = 2 ^ f.frac * 2 ^ rootShift f e := Nat.pow_add ..
      _ ≤ _ := Nat.mul_le_mul_right _ hm.1
  exact absurd (hhi.trans_le (Nat.mul_le_mul hnext hnext)) (not_lt.2 habove)

end Operations

/-- Settles O50: `endFinish` meets `Finishes`, and each operation hands its exact result on. -/
theorem resultsAreCorrectlyRounded : Obligations.ResultsAreCorrectlyRounded := by
  intro c f
  refine ⟨fun x h0 hs => finishes_endFinish c h0 hs, fun a b sa sb ma mb ea eb ha hb => ⟨fun minus => ?_, ?_, ?_⟩,
    fun a m k ha => ?_⟩
  · intro unit sum hne
    cases minus
    · exact addValue_finish ha hb c.rm hne
    · have hflip := scaled_flipSign hb
      have h := addValue_finish ha (classify_flipSign_normal hb) c.rm (by rwa [hflip])
      rwa [hflip] at h
  · exact mulValue_normal ha hb
  · obtain ⟨hb1, hb2⟩ := normal_mantissa hb
    have h0 : 0 < mb := (Nat.two_pow_pos _).trans_le hb1
    obtain ⟨hlo, hhi, hst⟩ := div_bounds (ma * 2 ^ (f.frac + 3)) h0
    exact ⟨_, f.frac + 3, divValue_normal ha hb, rfl, rfl, hlo, hhi, hst, quotient_num_large (normal_mantissa ha).1 hb2 h0⟩
  · obtain ⟨hlo, hhi, hlarge⟩ := root_bounds (e := k) (normal_mantissa ha)
    exact ⟨_, rootShift f k, sqrtValue_normal ha, rfl, root_exp f m k, hlo, hhi, bne_iff_ne, hlarge⟩

end Sys2Proof.Proofs.FpRound
end

section
/-! A result delivered with no Cause bit is the exact one (47_fpu_arithmetic.md R666, R671, R673). -/

namespace Sys2Proof.Proofs.FpExact

open Sys2Proof.Machine Sys2Proof.Laws Sys2Proof.Claims Sys2Proof.Proofs.FpWords Sys2Proof.Proofs.FpRound

variable {c : Fcsr} {f : Fmt} {a b v : Word} {x : Exact} {sign sa sb : Bool} {m ma mb : Nat} {e ea eb : Int}

/-- The exponent of the unit of `scaled`. -/
def unitExp (f : Fmt) : Int := f.emin - f.frac

/-- What an instruction with an exact non-zero result writes (R667, R668, R673). -/
theorem finishes_write {k : BitVec 6} (h : Finishes c f x (.write v k)) :
    (k = 0b000011 ∧ classify f v = if c.rm = 2 ∧ x.sign = false ∨ c.rm = 3 ∧ x.sign = true
        then .normal x.sign (2 ^ f.frac) (f.emin - f.frac) else .zero x.sign)
    ∨ (k = 0b000101 ∧ classify f v = if c.rm = 0 ∨ c.rm = 2 ∧ x.sign = false ∨ c.rm = 3 ∧ x.sign = true then .inf x.sign
        else .normal x.sign (2 ^ (f.frac + 1) - 1) (f.bias - f.frac))
    ∨ CorrectlyRounded f c.rm x v k := by
  obtain ⟨hunder, hover, hround⟩ := h
  by_cases hu : x.exp + (x.num.log2 : Int) < f.emin
  · obtain ⟨htrapU, htrapE, hwrite⟩ := hunder hu
    by_cases h1 : c.enables.getLsbD 1 = true
    · cases htrapU h1
    by_cases h2 : c.fs = false ∨ c.enables.getLsbD 0 = true
    · cases htrapE h1 h2
    obtain ⟨hfs, h3⟩ := not_or.1 h2
    obtain ⟨w, hw, hclass⟩ := hwrite h1 (Bool.not_eq_false _ ▸ hfs) h3
    cases hw
    exact .inl ⟨rfl, hclass⟩
  by_cases ho : (f.bias : Int) < x.exp + x.num.log2 ∨ x.exp + x.num.log2 = f.bias ∧ RoundsPastMax f c.rm x
  · obtain ⟨htrap, hwrite⟩ := hover ho
    by_cases h1 : c.enables.getLsbD 2 = true ∨ c.enables.getLsbD 0 = true
    · cases htrap h1
    obtain ⟨h2, h3⟩ := not_or.1 h1
    obtain ⟨w, hw, hclass⟩ := hwrite h2 h3
    cases hw
    exact .inr (.inl ⟨rfl, hclass⟩)
  · obtain ⟨hlt, heq⟩ := not_or.1 ho
    obtain ⟨w, cause, hc, hw⟩ := hround (not_lt.1 hu)
      ((lt_or_eq_of_le (not_lt.1 hlt)).imp_right fun h => ⟨h, fun hp => heq ⟨h, hp⟩⟩)
    split at hw
    · cases hw
    · cases hw
      exact .inr (.inr hc)

theorem two_zpow_split {e z : Int} (h : z ≤ e) : (2 : ℚ) ^ e = 2 ^ (e - z).toNat * 2 ^ z := by
  rw [← zpow_natCast, ← zpow_add₀ two_ne_zero, Int.toNat_of_nonneg (by omega)]
  congr 1
  omega

theorem scaled_normal_rat (h : classify f v = .normal sign m e) :
    (scaled f v : ℚ) = (signed sign m : Int) * 2 ^ (e - unitExp f) := by
  rw [FpCompare.scaled_normal h, FpCompare.signed_mul,
    two_zpow_split (e := e - unitExp f) (z := 0) (Int.sub_nonneg.2 (FpCompare.normal_bounds h).2)]
  push_cast
  rw [mul_one, Int.sub_zero]
  rfl

/-- What is written with no Cause bit is the exact result. -/
theorem scaled_of_write_zero (h0 : 0 < x.num) (hs : x.sticky = true → 2 ^ (f.frac + 2) ≤ x.num)
    (h : endFinish c f x = .write v 0) :
    x.sticky = false ∧ (scaled f v : ℚ) = (signed x.sign x.num : Int) * 2 ^ (x.exp - unitExp f) := by
  obtain ⟨hk, -⟩ | ⟨hk, -⟩ | hround := finishes_write (h ▸ finishes_endFinish c h0 hs)
  · cases hk
  · cases hk
  obtain ⟨m, e, hv, -, -, hcause, -⟩ := hround
  obtain ⟨-, hgot, hsticky⟩ | ⟨hne, -⟩ := hcause
  · refine ⟨hsticky, ?_⟩
    have hval : (m : ℚ) * 2 ^ e = x.num * 2 ^ x.exp := by
      rw [two_zpow_split (min_le_left e x.exp), two_zpow_split (min_le_right e x.exp), ← mul_assoc, ← mul_assoc]
      exact_mod_cast congrArg (fun n : Int => (n : ℚ) * 2 ^ min e x.exp) hgot
    rw [scaled_normal_rat hv, zpow_sub₀ two_ne_zero, zpow_sub₀ two_ne_zero, ← mul_div_assoc, ← mul_div_assoc]
    congr 1
    cases x.sign <;> simp [signed, hval]
  · cases hne

theorem signed_bne_mul (sa sb : Bool) (m n : Nat) : signed (sa != sb) (m * n) = signed sa m * signed sb n := by
  cases sa <;> cases sb <;> simp [signed]

/-- The unit 2^(fraction bits + Emax - 1) of the products. -/
theorem unit_rat (f : Fmt) : ((2 ^ (f.frac + f.bias - 1) : Int) : ℚ) = 2 ^ (-unitExp f) := by
  have hb := bias_pos f
  push_cast
  rw [← zpow_natCast]
  congr 1
  unfold unitExp Fmt.emin
  omega

/-! The operations. -/

theorem add_exact (ha : Finite f a) (hb : Finite f b) (h : endOf c f (addValue f c.rm a b) = .write v 0) :
    scaled f v = scaled f a + scaled f b := by
  obtain ⟨sa, ha⟩ | ⟨sa, ma, ea, ha⟩ := ha <;> obtain ⟨sb, hb⟩ | ⟨sb, mb, eb, hb⟩ := hb
  · simp only [addValue, ha, hb, endOf] at h
    cases h
    rw [FpCompare.scaled_zero (classify_zeroWord f _), FpCompare.scaled_zero ha, FpCompare.scaled_zero hb, Int.add_zero]
  · simp only [addValue, ha, hb, endOf] at h
    cases h
    rw [FpCompare.scaled_zero ha, Int.zero_add]
  · simp only [addValue, ha, hb, endOf] at h
    cases h
    rw [FpCompare.scaled_zero hb, Int.add_zero]
  · obtain ⟨n, hsum, hexp, hadd⟩ := addValue_exact ha hb c.rm
    rw [hadd] at h
    split at h
    · rename_i hn
      cases h
      rw [FpCompare.scaled_zero (classify_zeroWord f _), hsum, hn, Int.zero_mul]
    · rename_i hn
      obtain ⟨-, hv⟩ := scaled_of_write_zero (Int.natAbs_pos.2 hn) (fun hs => absurd hs Bool.false_ne_true) h
      have hval : signed (exactOfInt n (min ea eb)).sign (exactOfInt n (min ea eb)).num = n := by
        have := exactOfInt_value n (min ea eb)
        unfold signed
        split at this <;> simp_all
      rw [hval, two_zpow_split (e := (exactOfInt n (min ea eb)).exp - unitExp f) (z := 0) (Int.sub_nonneg.2 hexp), zpow_zero,
        mul_one, Int.sub_zero] at hv
      rw [hsum]
      exact_mod_cast hv

theorem mul_exact (ha : Finite f a) (hb : Finite f b) (h : endOf c f (mulValue f a b) = .write v 0) :
    scaled f v * 2 ^ (f.frac + f.bias - 1) = scaled f a * scaled f b := by
  obtain ⟨sa, ha⟩ | ⟨sa, ma, ea, ha⟩ := ha
  · have hz : mulValue f a b = .deliver (zeroWord f (sa != (classify f b).sign)) := by
      obtain ⟨sb, hb⟩ | ⟨sb, mb, eb, hb⟩ := hb <;> simp only [mulValue, ha, hb] <;> rfl
    rw [hz] at h
    cases h
    rw [FpCompare.scaled_zero (classify_zeroWord f _), FpCompare.scaled_zero ha, Int.zero_mul, Int.zero_mul]
  obtain ⟨sb, hb⟩ | ⟨sb, mb, eb, hb⟩ := hb
  · simp only [mulValue, ha, hb, endOf] at h
    cases h
    rw [FpCompare.scaled_zero (classify_zeroWord f _), FpCompare.scaled_zero hb, Int.zero_mul, Int.mul_zero]
  · rw [mulValue_normal ha hb] at h
    obtain ⟨-, hv⟩ := scaled_of_write_zero (Nat.mul_pos (FpCompare.normal_bounds ha).1 (FpCompare.normal_bounds hb).1) (fun hs => absurd hs Bool.false_ne_true) h
    apply Int.cast_injective (α := ℚ)
    rw [Int.cast_mul, Int.cast_mul, unit_rat, hv, scaled_normal_rat ha, scaled_normal_rat hb, signed_bne_mul, Int.cast_mul]
    simp only [zpow_sub₀ (two_ne_zero (α := ℚ)), zpow_add₀ (two_ne_zero (α := ℚ)), zpow_neg]
    ring

theorem div_exact (ha : Finite f a) (hb : Finite f b) (h : endOf c f (divValue f a b) = .write v 0) :
    scaled f v * scaled f b = scaled f a * 2 ^ (f.frac + f.bias - 1) := by
  obtain ⟨sb, hb⟩ | ⟨sb, mb, eb, hb⟩ := hb
  · obtain ⟨sa, ha⟩ | ⟨sa, ma, ea, ha⟩ := ha
    · simp only [divValue, ha, hb, endOf, endInvalid] at h
      split at h <;> cases h
    · simp only [divValue, ha, hb, endOf, endDivByZero] at h
      split at h <;> cases h
  obtain ⟨sa, ha⟩ | ⟨sa, ma, ea, ha⟩ := ha
  · simp only [divValue, ha, hb, endOf] at h
    cases h
    rw [FpCompare.scaled_zero (classify_zeroWord f _), FpCompare.scaled_zero ha, Int.zero_mul, Int.zero_mul]
  · rw [divValue_normal ha hb] at h
    have hmb := (FpCompare.normal_bounds hb).1
    have hlarge := quotient_num_large (normal_mantissa ha).1 (normal_mantissa hb).2 hmb
    obtain ⟨hst, hv⟩ := scaled_of_write_zero ((Nat.two_pow_pos _).trans_le hlarge) (fun _ => hlarge) h
    have hnum : (quotient f (sa != sb) ma ea mb eb).num * mb = ma * 2 ^ (f.frac + 3) :=
      Nat.div_mul_cancel (Nat.dvd_of_mod_eq_zero (bne_eq_false_iff_eq.1 hst))
    have hsigned : signed (sa != sb) (quotient f (sa != sb) ma ea mb eb).num * signed sb mb
        = signed sa ma * (2 ^ (f.frac + 3) : Nat) := by
      rw [← FpCompare.signed_mul, ← signed_bne_mul, hnum]
      cases sa <;> cases sb <;> rfl
    have hsigned := congrArg (Int.cast (R := ℚ)) hsigned
    apply Int.cast_injective (α := ℚ)
    rw [Int.cast_mul, Int.cast_mul, unit_rat, hv, scaled_normal_rat ha, scaled_normal_rat hb]
    rw [mul_mul_mul_comm]
    change ((signed (sa != sb) (quotient f (sa != sb) ma ea mb eb).num : Int) : ℚ) * _ * _ = _
    push_cast at hsigned ⊢
    rw [hsigned]
    simp only [quotient, zpow_sub₀ (two_ne_zero (α := ℚ)), zpow_neg, zpow_natCast]
    field_simp

theorem sqrt_exact (ha : Finite f a) (h : endOf c f (sqrtValue f a) = .write v 0) :
    scaled f v * scaled f v = scaled f a * 2 ^ (f.frac + f.bias - 1) := by
  obtain ⟨sa, ha⟩ | ⟨sa, ma, ea, ha⟩ := ha
  · simp only [sqrtValue, ha, endOf] at h
    cases h
    rw [FpCompare.scaled_zero ha, Int.zero_mul, Int.zero_mul]
  cases sa
  · rw [sqrtValue_normal ha] at h
    obtain ⟨-, -, hlarge⟩ := root_bounds (e := ea) (normal_mantissa ha)
    obtain ⟨hst, hv⟩ := scaled_of_write_zero ((Nat.two_pow_pos _).trans_le hlarge) (fun _ => hlarge) h
    have hnum : (root f ma ea).num * (root f ma ea).num = ma * 2 ^ rootShift f ea := bne_eq_false_iff_eq.1 hst
    have hnum := congrArg (Nat.cast (R := ℚ)) hnum
    have hexp : (root f ma ea).exp - unitExp f + ((root f ma ea).exp - unitExp f)
        = ea - unitExp f + -unitExp f - (rootShift f ea : Nat) := by
      have := root_exp f ma ea
      omega
    apply Int.cast_injective (α := ℚ)
    rw [Int.cast_mul, Int.cast_mul, unit_rat, hv, scaled_normal_rat ha, mul_mul_mul_comm, ← zpow_add₀ two_ne_zero, hexp,
      zpow_sub₀ two_ne_zero, zpow_natCast, zpow_add₀ two_ne_zero]
    push_cast at hnum
    simp only [root, signed, Bool.false_eq_true, if_false, Int.cast_natCast] at hnum ⊢
    rw [hnum]
    field_simp
  · simp only [sqrtValue, ha, endOf, endInvalid, if_true] at h
    split at h <;> cases h

/-- Settles O49: nothing is lost where no Cause bit is set. -/
theorem exactResultsAreExact : Obligations.ExactResultsAreExact := by
  intro c f a b v ha hb
  refine ⟨add_exact ha hb, fun h => ?_, mul_exact ha hb, div_exact ha hb, sqrt_exact ha⟩
  obtain ⟨sb, hb⟩ | ⟨sb, mb, eb, hb⟩ := hb
  · have hflip : classify f (flipSign f b) = .zero (!sb) := by rw [classify_flipSign, hb]
    rw [add_exact ha (.inl ⟨_, hflip⟩) h, FpCompare.scaled_zero hflip, FpCompare.scaled_zero hb, Int.sub_zero, Int.add_zero]
  · rw [add_exact ha (.inr ⟨_, _, _, classify_flipSign_normal hb⟩) h, scaled_flipSign hb, Int.sub_eq_add_neg]

end Sys2Proof.Proofs.FpExact
end

section
/-! The end of an FPU instruction: the operand tests, the write of the result or the trap (47_fpu_arithmetic.md R662, R671). -/

namespace Sys2Proof.Proofs.FpEnds

open Sys2Proof.Machine Sys2Proof.Laws Sys2Proof.Claims Sys2Proof.Proofs.FpWords

section Ends

variable {s : State} {f : Fmt} {tag : FprFormat} {fd : RegNum}

/-- The write of a result: a word into the low half of a register, a doubleword into a register or a pair (R720). -/
def setAs (f : Fmt) (tag : FprFormat) (fd : RegNum) (t : State) (v : Word) : State :=
  match f with
  | .s => setFpr32 t fd (low32 v) tag
  | .d => setFpr64 t fd v tag

theorem setFp_eq_setAs (f : Fmt) (fd : RegNum) : (fun t v => setFp t f fd v) = setAs f f.tag fd := by
  cases f <;> rfl

/-- `o` completes with `v` in `fd`, FCSR.Cause replaced and Flags accumulated (R662, R671). -/
def Delivers (s : State) (fd : RegNum) (o : Out) (f : Fmt) (tag : FprFormat) (v : Word) (cause : BitVec 6) : Prop :=
  ∃ t, o = .next t ∧ FprIs s t f tag fd v ∧ MovesOn s t ∧ FpKeeps s t
    ∧ t.fcsr = { s.fcsr with cause := cause, flags := s.fcsr.flags ||| cause.extractLsb' 0 5 }

theorem delivers_complete (hd : fprNumberOk s fd = true) (v : Word) (cause : BitVec 6) :
    Delivers s fd (fpComplete (.write v cause) (setAs f tag fd) s) f tag v cause := by
  have hframe : ∃ x y n, setAs f tag fd { spend 3 s with fcsr := fcsrAfter s.fcsr cause } v
      = { { s with fcsr := fcsrAfter s.fcsr cause } with fpr := x, fprFormat := y, draws := n } := by
    cases f
    · exact FpMove.setFpr32_frame (s := { spend 3 s with fcsr := fcsrAfter s.fcsr cause }) _ _ _
    · exact FpMove.setFpr64_frame (s := { spend 3 s with fcsr := fcsrAfter s.fcsr cause }) _ _ _
  obtain ⟨x, y, n, h⟩ := hframe
  obtain ⟨hfcsr, hmoves, hkeeps⟩ := FpMove.fpKeeps_advance h
  refine ⟨_, rfl, ?_, hmoves, hkeeps, hfcsr⟩
  cases f
  · exact FpMove.fpr32Is_advance (FpMove.fpr32Is_setFpr32 { spend 3 s with fcsr := fcsrAfter s.fcsr cause } fd tag (low32 v))
  · exact FpMove.fpr64Is_advance (FpMove.fpr64Is_setFpr64 { spend 3 s with fcsr := fcsrAfter s.fcsr cause } tag hd v)

theorem raisesFpe_complete (cause : BitVec 6) (write : State → Word → State) :
    RaisesFpe s (fpComplete (.trap cause) write s) cause := FpCompare.raisesFpe_signal_spend 3 cause s

theorem endsWith_complete (hd : fprNumberOk s fd = true) (e : FpEnd) :
    EndsWith s (fpComplete e (fun t v => setFp t f fd v) s) f fd e := by
  rw [setFp_eq_setAs]
  cases e with
  | trap cause => exact raisesFpe_complete cause _
  | write v cause => exact delivers_complete hd v cause

end Ends

/-! Denormalized operands and NaNs (R664, R670). -/

section Special

variable {c : Fcsr} {f : Fmt} {a : Word} {l : List Word} {e : FpEnd}

theorem endInvalid_eq (c : Fcsr) : endInvalid c = .trap (if c.enables.getLsbD 4 then 0b010000 else 0b100000) := by
  unfold endInvalid enabled
  split <;> rfl

theorem checked_denormal (h : l.any (isDenormal f) = true) : checked c f l e = .trap 0b100000 := by
  simp only [checked, h, if_true]
  rfl

theorem checked_nan (hd : l.any (isDenormal f) = false) (hn : l.any (isNan f) = true) :
    checked c f l e = .trap (if c.enables.getLsbD 4 then 0b010000 else 0b100000) := by
  simp only [checked, hd, hn, if_true, Bool.false_eq_true, if_false, endInvalid_eq]

theorem checked_of_numbers (hd : l.any (isDenormal f) = false) (hn : l.any (isNan f) = false) : checked c f l e = e := by
  simp only [checked, hd, hn, Bool.false_eq_true, if_false]

/-- What an instruction does with a denormalized operand and with a NaN. -/
def TrapsSpecial (s : State) (o : Out) (f : Fmt) (l : List Word) : Prop :=
  (l.any (isDenormal f) = true → RaisesFpe s o 0b100000)
    ∧ (l.any (isDenormal f) = false → l.any (isNan f) = true →
        RaisesFpe s o (if s.fcsr.enables.getLsbD 4 then 0b010000 else 0b100000))

theorem trapsSpecial_complete (s : State) (f : Fmt) (l : List Word) (e : FpEnd) (write : State → Word → State) :
    TrapsSpecial s (fpComplete (checked s.fcsr f l e) write s) f l := by
  refine ⟨fun h => ?_, fun hd hn => ?_⟩
  · rw [checked_denormal h]
    exact raisesFpe_complete _ _
  · rw [checked_nan hd hn]
    exact raisesFpe_complete _ _

/-- A value that is neither denormalized nor a NaN. -/
def Number (f : Fmt) (v : Word) : Prop := classify f v ≠ .denormal ∧ classify f v ≠ .nan

theorem number_iff : Number f a ↔ Finite f a ∨ ∃ sign, classify f a = .inf sign := by
  unfold Number Claims.Finite
  cases classify f a <;> simp

theorem isDenormal_of_number (h : Number f a) : isDenormal f a = false := by simpa [isDenormal] using h.1

theorem isNan_of_number (h : Number f a) : isNan f a = false := by simpa [isNan] using h.2

end Special

/-! With no exception enabled and FS = 1. -/

section Writes

variable {c : Fcsr} {f : Fmt}

theorem endUnderflow_writes (hc : c.enables = 0 ∧ c.fs = true) (sign : Bool) :
    endUnderflow c f sign = .write (underflowResult f c.rm sign) 0b000011 := by simp [FpRound.endUnderflow_eq, hc]

theorem endOverflow_writes (hc : c.enables = 0) (sign : Bool) :
    endOverflow c f sign = .write (overflowResult f c.rm sign) 0b000101 := by simp [FpRound.endOverflow_eq, hc]

theorem endInexact_writes (hc : c.enables = 0) (v : Word) : endInexact c v = .write v 0b000001 := by
  simp [endInexact, enabled, hc, causeI]

theorem endDivByZero_writes (hc : c.enables = 0) (sign : Bool) :
    endDivByZero c f sign = .write (infWord f sign) 0b001000 := by simp [endDivByZero, enabled, hc, causeZ]

theorem writes_ite {p : Prop} [Decidable p] {x y : FpEnd} (hx : ∃ v k, x = .write v k) (hy : ∃ v k, y = .write v k) :
    ∃ v k, (if p then x else y) = .write v k := by
  split
  · exact hx
  · exact hy

/-- Every exact result is written then. -/
theorem endFinish_writes (hc : c.enables = 0 ∧ c.fs = true) (x : Exact) : ∃ v k, endFinish c f x = .write v k := by
  rw [FpRound.endFinish_eq, endUnderflow_writes hc, endOverflow_writes hc.1]
  dsimp only
  rw [endInexact_writes hc.1]
  exact writes_ite ⟨_, _, rfl⟩ (writes_ite ⟨_, _, rfl⟩ (writes_ite ⟨_, _, rfl⟩ ⟨_, _, rfl⟩))

/-- Only the invalid operation traps then. -/
theorem endOf_writes (hc : c.enables = 0 ∧ c.fs = true) {r : FpResult} (h : r ≠ .invalid) :
    ∃ v k, endOf c f r = .write v k := by
  cases r with
  | invalid => exact absurd rfl h
  | divByZero sign => exact ⟨_, _, endDivByZero_writes hc.1 sign⟩
  | deliver v => exact ⟨_, _, rfl⟩
  | finish x => exact endFinish_writes hc x

end Writes

end Sys2Proof.Proofs.FpEnds
end

section
/-! The FPU arithmetic instructions: their special values and their ends (47_fpu_arithmetic.md R662 to R691). -/

namespace Sys2Proof.Proofs.FpArith

open Sys2Proof.Machine Sys2Proof.Laws Sys2Proof.Claims Sys2Proof.Proofs.FpWords Sys2Proof.Proofs.FpRound
  Sys2Proof.Proofs.FpExact Sys2Proof.Proofs.FpEnds

/-! Which operations are invalid on finite operands. -/

section Finite

variable {c : Fcsr} {f : Fmt} {rm : BitVec 2} {a b x : Word}

theorem finite_flipSign (h : Finite f a) : Finite f (flipSign f a) := by
  obtain ⟨sign, h⟩ | ⟨sign, m, e, h⟩ := h
  · exact .inl ⟨_, by rw [classify_flipSign, h]⟩
  · exact .inr ⟨_, _, _, classify_flipSign_normal h⟩

/-- A sum is invalid only of two infinities. -/
theorem addValue_ne_invalid (ha : Number f a) (hb : Finite f b) : addValue f rm a b ≠ .invalid := by
  obtain (⟨sa, ha⟩ | ⟨sa, ma, ea, ha⟩) | ⟨sa, ha⟩ := number_iff.1 ha <;>
    obtain ⟨sb, hb⟩ | ⟨sb, mb, eb, hb⟩ := hb <;> simp only [addValue, ha, hb, ne_eq, reduceCtorEq, not_false_eq_true]
  unfold addNormal
  dsimp only
  split <;> exact nofun

theorem mulValue_ne_invalid (ha : Finite f a) (hb : Finite f b) : mulValue f a b ≠ .invalid := by
  obtain ⟨sa, ha⟩ | ⟨sa, ma, ea, ha⟩ := ha <;> obtain ⟨sb, hb⟩ | ⟨sb, mb, eb, hb⟩ := hb <;> simp [mulValue, ha, hb]

/-- A quotient of finite numbers is invalid only of two zeros. -/
theorem divValue_ne_invalid (ha : Finite f a) (hb : Finite f b)
    (h : ∀ p q, ¬ (classify f a = .zero p ∧ classify f b = .zero q)) : divValue f a b ≠ .invalid := by
  obtain ⟨sa, ha⟩ | ⟨sa, ma, ea, ha⟩ := ha
  · obtain ⟨sb, hb⟩ | ⟨sb, mb, eb, hb⟩ := hb
    · exact absurd ⟨ha, hb⟩ (h sa sb)
    · simp [divValue, ha, hb]
  · obtain ⟨sb, hb⟩ | ⟨sb, mb, eb, hb⟩ := hb <;> simp [divValue, ha, hb, divNormal]

theorem sqrtValue_ne_invalid (ha : Finite f a) (h : ∀ m e, classify f a ≠ .normal true m e) : sqrtValue f a ≠ .invalid := by
  obtain ⟨sa, ha⟩ | ⟨sa, ma, ea, ha⟩ := ha
  · simp [sqrtValue, ha]
  · cases sa
    · rw [sqrtValue_normal ha]
      exact nofun
    · exact absurd ha (h ma ea)

theorem recip_ne_invalid (ha : Finite f a) : divValue f (oneWord f) a ≠ .invalid :=
  divValue_ne_invalid (.inr ⟨_, _, _, classify_oneWord f⟩) ha (by rintro p q ⟨h, -⟩; rw [classify_oneWord] at h; cases h)

/-- What an exact result ends in is a number. -/
theorem number_of_finishes {y : Exact} {v : Word} {k : BitVec 6} (h : Finishes c f y (.write v k)) : Number f v := by
  obtain ⟨-, hv⟩ | ⟨-, hv⟩ | ⟨m, e, hv, -⟩ := finishes_write h
  · unfold Number
    rw [hv]
    split <;> exact ⟨nofun, nofun⟩
  · unfold Number
    rw [hv]
    split <;> exact ⟨nofun, nofun⟩
  · unfold Number
    rw [hv]
    exact ⟨nofun, nofun⟩

/-- The product of finite numbers, rounded, is a number. -/
theorem number_of_product {v : Word} {k : BitVec 6} (ha : Finite f a) (hb : Finite f b)
    (h : endOf c f (mulValue f a b) = .write v k) : Number f v := by
  have hzero : ∀ g, endOf c f (.deliver (zeroWord f g)) = .write v k → Number f v := by
    rintro g ⟨⟩
    exact number_iff.2 (.inl (.inl ⟨g, classify_zeroWord f g⟩))
  obtain ⟨sa, ha⟩ | ⟨sa, ma, ea, ha⟩ := ha
  · obtain ⟨sb, hb⟩ | ⟨sb, mb, eb, hb⟩ := hb <;> simp only [mulValue, ha, hb] at h <;> exact hzero _ h
  obtain ⟨sb, hb⟩ | ⟨sb, mb, eb, hb⟩ := hb
  · simp only [mulValue, ha, hb] at h
    exact hzero _ h
  · rw [mulValue_normal ha hb] at h
    have hpos := Nat.mul_pos (FpCompare.normal_bounds ha).1 (FpCompare.normal_bounds hb).1
    have hfin := finishes_endFinish c (f := f) (x := { sign := sa != sb, num := ma * mb, exp := ea + eb, sticky := false }) hpos
      fun hs => absurd hs Bool.false_ne_true
    change endFinish c f _ = _ at h
    rw [h] at hfin
    exact number_of_finishes hfin

/-- The end of the MADD family: the product, then the sum or the difference, then the sign (R687 to R690). -/
def mulAddEnd (c : Fcsr) (f : Fmt) (a b x : Word) (minus neg : Bool) : FpEnd :=
  match endOf c f (mulValue f a b) with
  | .trap k => .trap k
  | .write t k => match endOf c f (addValue f c.rm t (if minus then flipSign f x else x)) with
    | .trap k' => .trap (k ||| k')
    | .write u k' => .write (if neg then flipSign f u else u) (k ||| k')

theorem mulAddEnd_eq (minus neg : Bool) : mulAddEnd c f a b x minus neg =
    let e := mulThen c f (fun t y => addValue f c.rm t (if minus then flipSign f y else y)) a b x
    if neg then negated f e else e := by
  unfold mulAddEnd mulThen chain
  cases endOf c f (mulValue f a b) with
  | trap k => cases neg <;> rfl
  | write t k =>
    dsimp only
    cases endOf c f (addValue f c.rm t (if minus then flipSign f x else x)) <;> cases neg <;> rfl

theorem mulAddEnd_writes (hc : c.enables = 0 ∧ c.fs = true) (ha : Finite f a) (hb : Finite f b) (hx : Finite f x)
    (minus neg : Bool) : ∃ v k, mulAddEnd c f a b x minus neg = .write v k := by
  obtain ⟨t, k, ht⟩ := endOf_writes hc (mulValue_ne_invalid ha hb)
  have hy : Finite f (if minus then flipSign f x else x) := by
    cases minus
    · exact hx
    · exact finite_flipSign hx
  obtain ⟨u, k', hu⟩ := endOf_writes hc (addValue_ne_invalid (rm := c.rm) (number_of_product ha hb ht) hy)
  rw [mulAddEnd, ht]
  dsimp only
  rw [hu]
  exact ⟨_, _, rfl⟩

end Finite

/-! The instructions. -/

section Instructions

variable {s : State} {f : Fmt} {fr ft fs fd : RegNum}

/-- What an instruction with the operands `l` and the end `e` does; under `ok` finite operands are not invalid. -/
def Ends (s : State) (fd : RegNum) (o : Out) (f : Fmt) (l : List Word) (e : FpEnd) (ok : Prop) : Prop :=
  TrapsSpecial s o f l
    ∧ (l.any (isDenormal f) = false → l.any (isNan f) = false → EndsWith s o f fd e)
    ∧ (Masked s → (∀ x ∈ l, Finite f x) → ok → ∃ v c, e = .write v c)

theorem ends_complete (hd : fprNumberOk s fd = true) {l : List Word} {e : FpEnd} {ok : Prop}
    (hw : Masked s → (∀ x ∈ l, Finite f x) → ok → ∃ v c, e = .write v c) :
    Ends s fd (fpComplete (checked s.fcsr f l e) (fun t v => setFp t f fd v) s) f l e ok :=
  ⟨trapsSpecial_complete _ _ _ _ _, fun hden hnan => by rw [checked_of_numbers hden hnan]; exact endsWith_complete hd e, hw⟩

variable (hcu : s.cp0.status.cu1 = true) (hfr : fprNumberOk s fr = true) (hft : fprNumberOk s ft = true)
  (hfs : fprNumberOk s fs = true) (hfd : fprNumberOk s fd = true)

include hcu hfs hfd

theorem ends_fpUnary {op : Word → FpResult} {ok : Word → Prop} (hf : formatFits s fs f.tag = true)
    (hop : ∀ a, Finite f a → ok a → op a ≠ .invalid) :
    Ends s fd (fpUnary f op fs fd s) f [fpBits s f fs] (endOf s.fcsr f (op (fpBits s f fs))) (ok (fpBits s f fs)) := by
  rw [fpUnary, FpCompare.fpOperand_eq hf, fpPre_of hcu (by simp [*])]
  exact ends_complete hfd fun hm hfin hok => endOf_writes hm (hop _ (hfin _ (by simp)) hok)

theorem ends_fpRecip (hx : exec64 s = true) (hf : formatFits s fs f.tag = true) :
    Ends s fd (fpRecip f fs fd s) f [fpBits s f fs] (endOf s.fcsr f (divValue f (oneWord f) (fpBits s f fs))) True := by
  rw [fpRecip, FpCompare.fpOperand_eq hf, fpPre64_of hcu hx (by simp [*])]
  exact ends_complete hfd fun hm hfin _ => endOf_writes hm (recip_ne_invalid (hfin _ (by simp)))

include hft

theorem ends_fpBinary {op : Word → Word → FpResult} {ok : Word → Word → Prop} (hf : formatFits s fs f.tag = true)
    (hf' : formatFits s ft f.tag = true) (hop : ∀ a b, Finite f a → Finite f b → ok a b → op a b ≠ .invalid) :
    Ends s fd (fpBinary f op ft fs fd s) f [fpBits s f fs, fpBits s f ft] (endOf s.fcsr f (op (fpBits s f fs) (fpBits s f ft)))
      (ok (fpBits s f fs) (fpBits s f ft)) := by
  rw [fpBinary, FpCompare.fpOperand_eq hf, FpCompare.fpOperand_eq hf', fpPre_of hcu (by simp [*])]
  exact ends_complete hfd fun hm hfin hok => endOf_writes hm (hop _ _ (hfin _ (by simp)) (hfin _ (by simp)) hok)

include hfr

theorem ends_fpMulAdd (minus neg : Bool) (hx : exec64 s = true) (hf : formatFits s fs f.tag = true)
    (hf' : formatFits s ft f.tag = true) (hf'' : formatFits s fr f.tag = true) :
    Ends s fd (fpMulAdd f (fun t y => addValue f s.fcsr.rm t (if minus then flipSign f y else y)) neg fr ft fs fd s) f
      [fpBits s f fs, fpBits s f ft, fpBits s f fr] (mulAddEnd s.fcsr f (fpBits s f fs) (fpBits s f ft) (fpBits s f fr) minus neg)
      True := by
  rw [fpMulAdd, FpCompare.fpOperand_eq hf, FpCompare.fpOperand_eq hf', FpCompare.fpOperand_eq hf'',
    fpPre64_of hcu hx (by simp [*]), mulAddEnd_eq]
  exact ends_complete hfd fun hm hfin _ => mulAddEnd_eq (c := s.fcsr) (f := f) minus neg ▸
    mulAddEnd_writes hm (hfin _ (by simp)) (hfin _ (by simp)) (hfin _ (by simp)) minus neg

end Instructions

/-! Infinities and zeros (R664, R665, R680 to R686). -/

section Values

variable {c : Fcsr} {f : Fmt} {a b : Word} {p q : Bool}

/-- The result is the invalid operation. -/
def Invalid (c : Fcsr) (f : Fmt) (r : FpResult) : Prop :=
  endOf c f r = .trap (if c.enables.getLsbD 4 then 0b010000 else 0b100000)

/-- The result is a value of class `x`, with Cause 0. -/
def Gives (c : Fcsr) (f : Fmt) (r : FpResult) (x : FpValue) : Prop := ∃ v, endOf c f r = .write v 0 ∧ classify f v = x

/-- The value is a normal number of sign `g`. -/
def Normal (f : Fmt) (v : Word) (g : Bool) : Prop := ∃ m k, classify f v = .normal g m k

theorem invalid_of {r : FpResult} (h : r = .invalid) : Invalid c f r := h ▸ endInvalid_eq c

theorem gives_of {r : FpResult} {v : Word} {x : FpValue} (h : r = .deliver v) (hv : classify f v = x) : Gives c f r x :=
  ⟨v, h ▸ rfl, hv⟩

theorem finite_of_normal (h : Normal f a p) : Finite f a := .inr ⟨p, h⟩

/-- The special sums (R680). -/
theorem addValue_special (rm : BitVec 2) {y : Word} {g : Bool} :
    (classify f a = .inf p → classify f y = .inf g → addValue f rm a y = if p = g then .deliver a else .invalid)
    ∧ (classify f a = .inf p → Finite f y → addValue f rm a y = .deliver a)
    ∧ (Finite f a → classify f y = .inf g → addValue f rm a y = .deliver y)
    ∧ (classify f a = .zero p → classify f y = .zero g →
        addValue f rm a y = .deliver (zeroWord f (if p = g then p else decide (rm = 3))))
    ∧ (classify f a = .zero p → Normal f y g → addValue f rm a y = .deliver y)
    ∧ (Normal f a p → classify f y = .zero g → addValue f rm a y = .deliver a)
    ∧ (Normal f a p → Normal f y g → scaled f a + scaled f y = 0 → addValue f rm a y = .deliver (zeroWord f (decide (rm = 3)))) := by
  have hcancel : cancelSign rm = decide (rm = 3) := rfl
  refine ⟨fun ha hy => ?_, fun ha hy => ?_, fun ha hy => ?_, fun ha hy => ?_, ?_, ?_, ?_⟩
  · simp only [addValue, ha, hy, beq_iff_eq]
  · obtain ⟨_, hy⟩ | ⟨_, _, _, hy⟩ := hy <;> simp only [addValue, ha, hy]
  · obtain ⟨_, ha⟩ | ⟨_, _, _, ha⟩ := ha <;> simp only [addValue, ha, hy]
  · simp only [addValue, ha, hy, hcancel, beq_iff_eq]
  · rintro ha ⟨m, k, hy⟩
    simp only [addValue, ha, hy]
  · rintro ⟨m, k, ha⟩ hy
    simp only [addValue, ha, hy]
  · rintro ⟨m, k, ha⟩ ⟨m', k', hy⟩ hsum
    obtain ⟨n, hn, -, hadd⟩ := addValue_exact ha hy rm
    have hzero : n = 0 := (mul_eq_zero.1 (hn.symm.trans hsum)).resolve_right (by positivity)
    exact hadd.trans (if_pos hzero)

/-- The other summand with its sign as SUB takes it (R681). -/
theorem classify_minus (minus : Bool) :
    (classify f b = .inf q → classify f (if minus then flipSign f b else b) = .inf (q != minus))
    ∧ (classify f b = .zero q → classify f (if minus then flipSign f b else b) = .zero (q != minus))
    ∧ (Normal f b q → Normal f (if minus then flipSign f b else b) (q != minus)
        ∧ scaled f (if minus then flipSign f b else b) = if minus then -scaled f b else scaled f b)
    ∧ (Finite f b → Finite f (if minus then flipSign f b else b)) := by
  cases minus
  · simp
  · simp only [if_true, Bool.bne_true]
    refine ⟨fun h => by rw [classify_flipSign, h], fun h => by rw [classify_flipSign, h], ?_, finite_flipSign⟩
    rintro ⟨m, k, h⟩
    exact ⟨⟨m, k, classify_flipSign_normal h⟩, scaled_flipSign h⟩

/-- What ADD, and SUB where `minus` says so, make of infinities and zeros. -/
def SumsSpecial (c : Fcsr) (f : Fmt) (a b : Word) (p q minus : Bool) : Prop :=
  let y := if minus then flipSign f b else b
  let g := q != minus
  let sum := addValue f c.rm a y
  (classify f a = .inf p → classify f b = .inf q → if p = g then Gives c f sum (.inf p) else Invalid c f sum)
    ∧ (classify f a = .inf p → Finite f b → Gives c f sum (.inf p))
    ∧ (Finite f a → classify f b = .inf q → Gives c f sum (.inf g))
    ∧ (classify f a = .zero p → classify f b = .zero q → Gives c f sum (.zero (if p = g then p else decide (c.rm = 3))))
    ∧ (classify f a = .zero p → Normal f b q → endOf c f sum = .write y 0)
    ∧ (Normal f a p → classify f b = .zero q → endOf c f sum = .write a 0)
    ∧ (Normal f a p → Normal f b q → scaled f a + (if minus then -scaled f b else scaled f b) = 0 →
        Gives c f sum (.zero (decide (c.rm = 3))))

theorem sumsSpecial (c : Fcsr) (f : Fmt) (a b : Word) (p q minus : Bool) : SumsSpecial c f a b p q minus := by
  obtain ⟨hinfs, hinf, hinf', hzeros, hzero, hzero', hcancel⟩ := addValue_special (f := f) (a := a) (p := p) c.rm
    (y := if minus then flipSign f b else b) (g := q != minus)
  obtain ⟨toInf, toZero, toNormal, toFinite⟩ := classify_minus (f := f) (b := b) (q := q) minus
  refine ⟨fun ha hb => ?_, fun ha hb => gives_of (hinf ha (toFinite hb)) ha,
    fun ha hb => gives_of (hinf' ha (toInf hb)) (toInf hb),
    fun ha hb => gives_of (hzeros ha (toZero hb)) (classify_zeroWord _ _), fun ha hb => ?_, fun ha hb => ?_, fun ha hb hsum => ?_⟩
  · have h := hinfs ha (toInf hb)
    split <;> rename_i hpg
    · exact gives_of (h.trans (if_pos hpg)) ha
    · exact invalid_of (h.trans (if_neg hpg))
  · rw [hzero ha (toNormal hb).1]
    rfl
  · rw [hzero' ha (toZero hb)]
    rfl
  · obtain ⟨hy, hscaled⟩ := toNormal hb
    exact gives_of (hcancel ha hy (by rwa [hscaled])) (classify_zeroWord _ _)

/-- The special products (R682). -/
theorem mulValue_special :
    (classify f a = .zero p → classify f b = .inf q → mulValue f a b = .invalid)
    ∧ (classify f a = .inf p → classify f b = .zero q → mulValue f a b = .invalid)
    ∧ (classify f a = .inf p → (classify f b = .inf q ∨ Normal f b q) → mulValue f a b = .deliver (infWord f (p != q)))
    ∧ (Normal f a p → classify f b = .inf q → mulValue f a b = .deliver (infWord f (p != q)))
    ∧ (classify f a = .zero p → (classify f b = .zero q ∨ Normal f b q) → mulValue f a b = .deliver (zeroWord f (p != q)))
    ∧ (Normal f a p → classify f b = .zero q → mulValue f a b = .deliver (zeroWord f (p != q))) := by
  refine ⟨fun ha hb => ?_, fun ha hb => ?_, fun ha hb => ?_, fun ha hb => ?_, fun ha hb => ?_, fun ha hb => ?_⟩
  · simp only [mulValue, ha, hb]
  · simp only [mulValue, ha, hb]
  · obtain hb | ⟨m, k, hb⟩ := hb <;> simp only [mulValue, ha, hb, FpValue.sign]
  · obtain ⟨m, k, ha⟩ := ha
    simp only [mulValue, ha, hb, FpValue.sign]
  · obtain hb | ⟨m, k, hb⟩ := hb <;> simp only [mulValue, ha, hb, FpValue.sign]
  · obtain ⟨m, k, ha⟩ := ha
    simp only [mulValue, ha, hb, FpValue.sign]

/-- The special quotients (R665, R683). -/
theorem divValue_special :
    (classify f a = .zero p → classify f b = .zero q → divValue f a b = .invalid)
    ∧ (classify f a = .inf p → classify f b = .inf q → divValue f a b = .invalid)
    ∧ (classify f a = .inf p → (classify f b = .zero q ∨ Normal f b q) → divValue f a b = .deliver (infWord f (p != q)))
    ∧ ((classify f a = .zero p ∨ Normal f a p) → classify f b = .inf q → divValue f a b = .deliver (zeroWord f (p != q)))
    ∧ (classify f a = .zero p → Normal f b q → divValue f a b = .deliver (zeroWord f (p != q)))
    ∧ (Normal f a p → classify f b = .zero q → divValue f a b = .divByZero (p != q)) := by
  refine ⟨fun ha hb => ?_, fun ha hb => ?_, fun ha hb => ?_, fun ha hb => ?_, fun ha hb => ?_, fun ha hb => ?_⟩
  · simp only [divValue, ha, hb]
  · simp only [divValue, ha, hb]
  · obtain hb | ⟨m, k, hb⟩ := hb <;> simp only [divValue, ha, hb, FpValue.sign]
  · obtain ha | ⟨m, k, ha⟩ := ha <;> simp only [divValue, ha, hb, FpValue.sign]
  · obtain ⟨m, k, hb⟩ := hb
    simp only [divValue, ha, hb, FpValue.sign]
  · obtain ⟨m, k, ha⟩ := ha
    simp only [divValue, ha, hb, FpValue.sign]

theorem endOf_divByZero (c : Fcsr) (f : Fmt) (g : Bool) :
    if c.enables.getLsbD 3 then endOf c f (.divByZero g) = .trap 0b001000
    else ∃ v, endOf c f (.divByZero g) = .write v 0b001000 ∧ classify f v = .inf g := by
  split <;> rename_i h
  · exact if_pos h
  · exact ⟨_, if_neg h, classify_infWord f g⟩

/-- The special roots (R686). -/
theorem sqrtValue_special :
    ((Normal f a true ∨ classify f a = .inf true) → sqrtValue f a = .invalid)
    ∧ ((classify f a = .zero p ∨ classify f a = .inf false) → sqrtValue f a = .deliver a) := by
  refine ⟨fun ha => ?_, fun ha => ?_⟩
  · obtain ⟨m, k, ha⟩ | ha := ha <;> simp [sqrtValue, ha]
  · obtain ha | ha := ha <;> simp [sqrtValue, ha]

end Values

/-- Settles O48: the instructions by `ends_fpBinary`, `ends_fpUnary`, `ends_fpRecip` and `ends_fpMulAdd`; the special values by the
classes of the operands. -/
theorem fpArithmetic : Obligations.FpArithmetic := by
  refine ⟨fun s fr ft fs fd hcu hfr hft hfs hfd => ?_, fun c f a b p q => ?_⟩
  · have hadd : ∀ (f : Fmt) (a b : Word), Finite f a → Finite f b → True → addValue f s.fcsr.rm a b ≠ .invalid :=
      fun f a b ha hb _ => addValue_ne_invalid (number_iff.2 (.inl ha)) hb
    have hsub : ∀ (f : Fmt) (a b : Word), Finite f a → Finite f b → True →
        addValue f s.fcsr.rm a (flipSign f b) ≠ .invalid :=
      fun f a b ha hb _ => addValue_ne_invalid (number_iff.2 (.inl ha)) (finite_flipSign hb)
    have hmul : ∀ (f : Fmt) (a b : Word), Finite f a → Finite f b → True → mulValue f a b ≠ .invalid :=
      fun f a b ha hb _ => mulValue_ne_invalid ha hb
    have hdiv : ∀ (f : Fmt) (a b : Word), Finite f a → Finite f b →
        (∀ p q, ¬ (classify f a = .zero p ∧ classify f b = .zero q)) → divValue f a b ≠ .invalid :=
      fun f a b ha hb h => divValue_ne_invalid ha hb h
    have habs : ∀ (f : Fmt) (a : Word), Finite f a → True → FpResult.deliver (clearSign f a) ≠ .invalid := fun _ _ _ _ => nofun
    have hneg : ∀ (f : Fmt) (a : Word), Finite f a → True → FpResult.deliver (flipSign f a) ≠ .invalid := fun _ _ _ _ => nofun
    have hsqrt : ∀ (f : Fmt) (a : Word), Finite f a → (∀ m e, classify f a ≠ .normal true m e) →
        sqrtValue f a ≠ .invalid :=
      fun f a ha h => sqrtValue_ne_invalid ha h
    exact ⟨fun h h' => ends_fpBinary hcu hft hfs hfd h h' (hadd .s), fun h h' => ends_fpBinary hcu hft hfs hfd h h' (hadd .d),
      fun h h' => ends_fpBinary hcu hft hfs hfd h h' (hsub .s), fun h h' => ends_fpBinary hcu hft hfs hfd h h' (hsub .d),
      fun h h' => ends_fpBinary hcu hft hfs hfd h h' (hmul .s), fun h h' => ends_fpBinary hcu hft hfs hfd h h' (hmul .d),
      fun h h' => ends_fpBinary hcu hft hfs hfd h h' (hdiv .s), fun h h' => ends_fpBinary hcu hft hfs hfd h h' (hdiv .d),
      fun h => ends_fpUnary hcu hfs hfd h (habs .s), fun h => ends_fpUnary hcu hfs hfd h (habs .d),
      fun h => ends_fpUnary hcu hfs hfd h (hneg .s), fun h => ends_fpUnary hcu hfs hfd h (hneg .d),
      fun h => ends_fpUnary hcu hfs hfd h (hsqrt .s), fun h => ends_fpUnary hcu hfs hfd h (hsqrt .d),
      fun hx => ⟨fun h => ends_fpRecip hcu hfs hfd hx h, fun h => ends_fpRecip hcu hfs hfd hx h,
        fun h h' h'' => ends_fpMulAdd hcu hfr hft hfs hfd false false hx h h' h'',
        fun h h' h'' => ends_fpMulAdd hcu hfr hft hfs hfd false false hx h h' h'',
        fun h h' h'' => ends_fpMulAdd hcu hfr hft hfs hfd true false hx h h' h'',
        fun h h' h'' => ends_fpMulAdd hcu hfr hft hfs hfd true false hx h h' h'',
        fun h h' h'' => ends_fpMulAdd hcu hfr hft hfs hfd false true hx h h' h'',
        fun h h' h'' => ends_fpMulAdd hcu hfr hft hfs hfd false true hx h h' h'',
        fun h h' h'' => ends_fpMulAdd hcu hfr hft hfs hfd true true hx h h' h'',
        fun h h' h'' => ends_fpMulAdd hcu hfr hft hfs hfd true true hx h h' h''⟩⟩
  · obtain ⟨zeroMulInf, infMulZero, infMul, mulInf, zeroMul, mulZero⟩ := mulValue_special (f := f) (a := a) (b := b) (p := p) (q := q)
    obtain ⟨zeroDivZero, infDivInf, infDiv, divInf, zeroDiv, divZero⟩ := divValue_special (f := f) (a := a) (b := b) (p := p) (q := q)
    obtain ⟨sqrtInvalid, sqrtSame⟩ := sqrtValue_special (f := f) (a := a) (p := p)
    exact ⟨sumsSpecial c f a b p q false, sumsSpecial c f a b p q true,
      fun ha hb => invalid_of (zeroMulInf ha hb), fun ha hb => invalid_of (infMulZero ha hb),
      fun ha hb => gives_of (infMul ha hb) (classify_infWord _ _), fun ha hb => gives_of (mulInf ha hb) (classify_infWord _ _),
      fun ha hb => gives_of (zeroMul ha hb) (classify_zeroWord _ _), fun ha hb => gives_of (mulZero ha hb) (classify_zeroWord _ _),
      fun ha hb => invalid_of (zeroDivZero ha hb), fun ha hb => invalid_of (infDivInf ha hb),
      fun ha hb => gives_of (infDiv ha hb) (classify_infWord _ _), fun ha hb => gives_of (divInf ha hb) (classify_zeroWord _ _),
      fun ha hb => gives_of (zeroDiv ha hb) (classify_zeroWord _ _), fun ha hb => divZero ha hb ▸ endOf_divByZero c f (p != q),
      fun ha => invalid_of (sqrtInvalid ha), fun ha => sqrtSame ha ▸ rfl, classify_oneWord f, rfl, rfl,
      fun k hk => by cases f <;> exact ⟨clearSign_getLsbD _ a hk, flipSign_getLsbD _ a k⟩⟩

end Sys2Proof.Proofs.FpArith
end

section
/-! The FPU conversions (49_fpu_convert_compare_branch.md R760 to R773). -/

namespace Sys2Proof.Proofs.FpConvert

open Sys2Proof.Machine Sys2Proof.Laws Sys2Proof.Claims Sys2Proof.Proofs.FpWords Sys2Proof.Proofs.FpRound
  Sys2Proof.Proofs.FpEnds

/-! A number rounded to an integer (R765). -/

section Integer

variable {c : Fcsr} {f : Fmt} {a : Word} {sign : Bool} {m n : Nat} {e : Int} {mode : BitVec 2}

/-- The integer a number is rounded to. -/
def toInteger (mode : BitVec 2) (sign : Bool) (m : Nat) (e : Int) : Int :=
  signed sign (roundShift mode sign (m * 2 ^ e.toNat) (-e).toNat false).1

theorem toFixed_normal (h : classify f a = .normal sign m e) : toFixed c f a n mode =
    if toInteger mode sign m e < -(2 ^ (n - 1) : Int) ∨ (2 ^ (n - 1) : Int) ≤ toInteger mode sign m e then endInvalid c
    else if (roundShift mode sign (m * 2 ^ e.toNat) (-e).toNat false).2 then endInexact c (BitVec.ofInt 64 (toInteger mode sign m e))
    else .write (BitVec.ofInt 64 (toInteger mode sign m e)) 0 := by
  simp only [toFixed, h]
  rfl

theorem fits_iff (n : Nat) (r : Int) : Fits n r ↔ ¬ (r < -(2 ^ (n - 1) : Int) ∨ (2 ^ (n - 1) : Int) ≤ r) := by
  unfold Fits
  omega

/-- A magnitude divided by 2^k and rounded, with its sign, is the integer the mode asks for. -/
theorem roundsTo_roundShift (mode : BitVec 2) (sign : Bool) (num k : Nat) :
    RoundsTo mode (signed sign num) (2 ^ k) (signed sign (roundShift mode sign num k false).1) := by
  have hround := roundedBy_shift (rm := mode) (sign := sign) (sticky := false) (q := num / 2 ^ k)
    (Nat.mod_lt num (Nat.two_pow_pos k)) nofun le_rfl (.inr ⟨rfl, rfl⟩)
  change RoundedBy mode sign false (roundShift mode sign num k false).1 _ _ _ _ at hround
  change RoundedBy mode sign false _ (((roundShift mode sign num k false).1 * 2 ^ k : Nat)) _ _ _ at hround
  generalize (roundShift mode sign num k false).1 = q at hround ⊢
  rw [Nat.div_add_mod'] at hround
  obtain ⟨hnear, hzero, hup, hdown⟩ := hround
  have hmul : signed sign q * 2 ^ k = signed sign (q * 2 ^ k) := by
    rw [FpCompare.signed_mul]
    push_cast
    rfl
  have hpos : (0 : Int) < 2 ^ k := by positivity
  have hgot : (0 : Int) ≤ q * 2 ^ k := by positivity
  unfold RoundsTo
  rw [Int.add_mul, Int.sub_mul, Int.one_mul, hmul]
  have heven : signed sign q % 2 = 0 ↔ q % 2 = 0 := by
    unfold signed
    split <;> omega
  rw [heven]
  simp only [Bool.false_eq_true, if_false, Nat.add_zero, Nat.cast_mul, Nat.cast_pow, Nat.cast_ofNat, forall_const] at *
  unfold signed
  push_cast
  generalize (2 : Int) ^ k = P at *
  generalize (q : Int) * P = G at *
  refine ⟨fun h => ?_, fun h => ?_, fun h => ?_, fun h => ?_⟩
  · have := hnear h
    cases sign <;> simp <;> omega
  · have := hzero h
    cases sign
    · simp
      omega
    · simp
      split <;> omega
  · have := hup h
    cases sign <;> simp at * <;> omega
  · have := hdown h
    cases sign <;> simp at * <;> omega

/-- The integer is the number exactly where nothing is dropped. -/
theorem toInteger_exact : toInteger mode sign m e * 2 ^ (-e).toNat = signed sign (m * 2 ^ e.toNat) ↔
    (roundShift mode sign (m * 2 ^ e.toNat) (-e).toNat false).2 = false := by
  unfold toInteger
  generalize m * 2 ^ e.toNat = num
  generalize (-e).toNat = k
  have hmul := FpCompare.signed_mul sign (roundShift mode sign num k false).1 (2 ^ k)
  push_cast at hmul
  rw [← hmul]
  have hinj : ∀ x y : Nat, signed sign x = signed sign y ↔ x = y := fun x y => by
    unfold signed
    split <;> omega
  rw [hinj]
  have hdiv := Nat.div_add_mod' num (2 ^ k)
  have hlt := Nat.mod_lt num (Nat.two_pow_pos k)
  simp only [roundShift, Bool.or_false, bne_eq_false_iff_eq]
  constructor
  · intro h
    split at h
    · rw [Nat.succ_mul] at h
      omega
    · omega
  · intro h
    have hup : roundsUp mode sign (num / 2 ^ k) (num % 2 ^ k) k false = false := by
      have hpos := Nat.two_pow_pos k
      simp [roundsUp, h]
      omega
    rw [hup]
    simpa [h] using hdiv

end Integer

/-! The instructions. -/

section Instructions

variable {s : State} {fs fd : RegNum} {a : Word} {e : FpEnd} {dst : Fmt} {tag : FprFormat} {o : Out}

/-- The traps of a conversion of a floating-point number. -/
def TrapsOperand (s : State) (o : Out) (f : Fmt) (a : Word) : Prop :=
  (isDenormal f a = true → RaisesFpe s o 0b100000)
    ∧ (isNan f a = true → RaisesFpe s o (if s.fcsr.enables.getLsbD 4 then 0b010000 else 0b100000))

theorem trapsOperand_complete (s : State) (f : Fmt) (a : Word) (e : FpEnd) (write : State → Word → State) :
    TrapsOperand s (fpComplete (checked s.fcsr f [a] e) write s) f a := by
  obtain ⟨hd, hn⟩ := trapsSpecial_complete s f [a] e write
  refine ⟨fun h => hd (by simp [h]), fun h => hn ?_ (by simp [h])⟩
  have hclass : classify f a = .nan := by simpa [isNan] using h
  simp [isDenormal, hclass]

theorem checked_number {c : Fcsr} {f : Fmt} (h : Number f a) : checked c f [a] e = e :=
  checked_of_numbers (by simp [isDenormal_of_number h]) (by simp [isNan_of_number h])

/-- An inexact result, delivered with Cause I or trapped. -/
def Lossy (s : State) (fd : RegNum) (o : Out) (dst : Fmt) (tag : FprFormat) (v : Word) : Prop :=
  if s.fcsr.enables.getLsbD 0 then RaisesFpe s o 0b000001 else Delivers s fd o dst tag v 0b000001

/-- The exact non-zero result `x` is rounded and delivered, or traps. -/
def Rounds (s : State) (fd : RegNum) (o : Out) (dst : Fmt) (x : Exact) : Prop :=
  (∃ e, Finishes s.fcsr dst x e ∧ match e with
    | .trap k => RaisesFpe s o k
    | .write v k => Delivers s fd o dst dst.tag v k)
  ∧ (Masked s → ∃ v cause, Delivers s fd o dst dst.tag v cause)

/-- What a conversion of the floating-point number `a` to another format does (R761, R762). -/
def FromFloat (s : State) (fd : RegNum) (o : Out) (src dst : Fmt) (a : Word) : Prop :=
  TrapsOperand s o src a
    ∧ (∀ g, classify src a = .zero g → ∃ v, classify dst v = .zero g ∧ Delivers s fd o dst dst.tag v 0)
    ∧ (∀ g, classify src a = .inf g → ∃ v, classify dst v = .inf g ∧ Delivers s fd o dst dst.tag v 0)
    ∧ ∀ g m k, classify src a = .normal g m k → Rounds s fd o dst { sign := g, num := m, exp := k, sticky := false }

/-- What a conversion of the integer `x` does (R761, R762). -/
def FromInteger (s : State) (fd : RegNum) (o : Out) (dst : Fmt) (x : Int) : Prop :=
  (x = 0 → ∃ v, classify dst v = .zero false ∧ Delivers s fd o dst dst.tag v 0) ∧ (x ≠ 0 → Rounds s fd o dst (exactOfInt x 0))

/-- What a conversion of `a` to an integer of `n` bits does (R763 to R773). -/
def ToInteger (s : State) (fd : RegNum) (o : Out) (src dst : Fmt) (tag : FprFormat) (a : Word) (n : Nat) (mode : BitVec 2) : Prop :=
  TrapsOperand s o src a
    ∧ (∀ g, classify src a = .zero g → Delivers s fd o dst tag 0 0)
    ∧ (∀ g, classify src a = .inf g → RaisesFpe s o (if s.fcsr.enables.getLsbD 4 then 0b010000 else 0b100000))
    ∧ ∀ g m k, classify src a = .normal g m k →
        ∃ r : Int, RoundsTo mode ((if g then -1 else 1) * (m * 2 ^ k.toNat)) (2 ^ (-k).toNat) r
          ∧ (¬ Fits n r → RaisesFpe s o (if s.fcsr.enables.getLsbD 4 then 0b010000 else 0b100000))
          ∧ (Fits n r → if r * 2 ^ (-k).toNat = (if g then -1 else 1) * (m * 2 ^ k.toNat)
              then Delivers s fd o dst tag (BitVec.ofInt 64 r) 0 else Lossy s fd o dst tag (BitVec.ofInt 64 r))

variable (hfd : fprNumberOk s fd = true)
include hfd

theorem lossy_complete (v : Word) : Lossy s fd (fpComplete (endInexact s.fcsr v) (setAs dst tag fd) s) dst tag v := by
  unfold Lossy endInexact enabled
  split
  · exact raisesFpe_complete _ _
  · exact delivers_complete hfd v _

theorem rounds_complete {x : Exact} (h0 : 0 < x.num) (hs : x.sticky = false) :
    Rounds s fd (fpComplete (endFinish s.fcsr dst x) (setAs dst dst.tag fd) s) dst x := by
  refine ⟨⟨_, finishes_endFinish s.fcsr h0 fun h => ?_, ?_⟩, fun hm => ?_⟩
  · rw [hs] at h
    cases h
  · split
    · rename_i heq
      rw [heq]
      exact raisesFpe_complete _ _
    · rename_i heq
      rw [heq]
      exact delivers_complete hfd _ _
  · obtain ⟨v, k, h⟩ := endFinish_writes (f := dst) hm x
    exact ⟨v, k, h ▸ delivers_complete hfd v k⟩

/-- A conversion between the floating-point formats (R761, R762). -/
theorem fromFloat_complete {src : Fmt} (ho : o = fpComplete (checked s.fcsr src [a] (endOf s.fcsr dst (convertFloat src dst a)))
    (setAs dst dst.tag fd) s) : FromFloat s fd o src dst a := by
  subst ho
  refine ⟨trapsOperand_complete _ _ _ _ _, fun g h => ⟨_, classify_zeroWord dst g, ?_⟩, fun g h => ⟨_, classify_infWord dst g, ?_⟩,
    fun g m k h => ?_⟩
  · rw [checked_number (number_iff.2 (.inl (.inl ⟨g, h⟩)))]
    simp only [convertFloat, h]
    exact delivers_complete hfd _ _
  · rw [checked_number (number_iff.2 (.inr ⟨g, h⟩))]
    simp only [convertFloat, h]
    exact delivers_complete hfd _ _
  · rw [checked_number (number_iff.2 (.inl (.inr ⟨g, m, k, h⟩)))]
    simp only [convertFloat, h]
    exact rounds_complete hfd (x := { sign := g, num := m, exp := k, sticky := false }) (FpCompare.normal_bounds h).1 rfl

/-- A conversion of an integer (R761, R762). -/
theorem fromInteger_complete {x : Int} (ho : o = fpComplete (endOf s.fcsr dst (fromFixed dst x)) (setAs dst dst.tag fd) s) :
    FromInteger s fd o dst x := by
  subst ho
  refine ⟨fun h => ⟨_, classify_zeroWord dst false, ?_⟩, fun h => ?_⟩
  · rw [fromFixed, if_pos h]
    exact delivers_complete hfd _ _
  · rw [fromFixed, if_neg h]
    exact rounds_complete hfd (x := exactOfInt x 0) (Int.natAbs_pos.2 h) rfl

/-- A conversion to an integer (R763 to R773). -/
theorem toInteger_complete {src : Fmt} {n : Nat} {mode : BitVec 2}
    (ho : o = fpComplete (checked s.fcsr src [a] (toFixed s.fcsr src a n mode)) (setAs dst tag fd) s) :
    ToInteger s fd o src dst tag a n mode := by
  subst ho
  refine ⟨trapsOperand_complete _ _ _ _ _, fun g h => ?_, fun g h => ?_, fun g m k h => ?_⟩
  · rw [checked_number (number_iff.2 (.inl (.inl ⟨g, h⟩)))]
    simp only [toFixed, h]
    exact delivers_complete hfd _ _
  · rw [checked_number (number_iff.2 (.inr ⟨g, h⟩))]
    simp only [toFixed, h, endInvalid_eq]
    exact raisesFpe_complete _ _
  · have hx : (if g then -1 else 1) * ((m : Int) * 2 ^ k.toNat) = signed g (m * 2 ^ k.toNat) := by
      cases g <;> simp [signed]
    rw [checked_number (number_iff.2 (.inl (.inr ⟨g, m, k, h⟩))), toFixed_normal h, hx]
    refine ⟨toInteger mode g m k, roundsTo_roundShift mode g _ _, fun hfit => ?_, fun hfit => ?_⟩
    · rw [fits_iff, not_not] at hfit
      rw [if_pos hfit, endInvalid_eq]
      exact raisesFpe_complete _ _
    · rw [fits_iff] at hfit
      rw [if_neg hfit]
      split <;> rename_i heq
      · rw [toInteger_exact.1 heq]
        exact delivers_complete hfd _ _
      · rw [(Bool.not_eq_false _).mp (mt toInteger_exact.2 heq)]
        exact lossy_complete hfd _

end Instructions

/-! The instructions over their operands. -/

section Operands

variable {s : State} {fs fd : RegNum} {src dst : Fmt} (hcu : s.cp0.status.cu1 = true) (hfd : fprNumberOk s fd = true)
  (hfs : fprNumberOk s fs = true)
include hcu hfd

section Words

include hfs

theorem fpToFp_fromFloat (hf : formatFits s fs src.tag = true) :
    FromFloat s fd (fpToFp src dst fs fd s) src dst (fpBits s src fs) :=
  fromFloat_complete hfd (by rw [fpToFp, FpCompare.fpOperand_eq hf, setFp_eq_setAs, fpPre_of hcu (by simp [*])])

theorem wordToFp_fromInteger (hf : formatFits s fs .w = true) :
    FromInteger s fd (wordToFp dst fs fd s) dst (fpr32 s fs).toInt :=
  fromInteger_complete hfd (by rw [wordToFp, operand32, if_pos hf, setFp_eq_setAs, fpPre_of hcu (by simp [*])])

theorem fpToWord_toInteger (mode : BitVec 2) (hf : formatFits s fs src.tag = true) :
    ToInteger s fd (fpToWord src mode fs fd s) src .s .w (fpBits s src fs) 32 mode :=
  toInteger_complete hfd (by rw [fpToWord, FpCompare.fpOperand_eq hf, fpPre_of hcu (by simp [*])]; rfl)

end Words

variable (hx : exec64 s = true) (hfr : s.cp0.status.fr = true)
include hx hfr

theorem longToFp_fromInteger (hf : formatFits s fs .l = true) :
    FromInteger s fd (longToFp dst fs fd s) dst (fpr64 s fs).toInt :=
  fromInteger_complete hfd (by
    rw [longToFp, operand64, if_pos hf, setFp_eq_setAs, needCu1_of hcu, need64Arith_of hx, needLong, if_pos hfr])

theorem fpToLong_toInteger (mode : BitVec 2) (hf : formatFits s fs src.tag = true) :
    ToInteger s fd (fpToLong src mode fs fd s) src .d .l (fpBits s src fs) 64 mode :=
  toInteger_complete hfd (by
    rw [fpToLong, FpCompare.fpOperand_eq hf, needCu1_of hcu, need64Arith_of hx, needLong, if_pos hfr]; rfl)

end Operands

/-- Settles O51: each conversion is one of the three kinds, over its operand. -/
theorem fpConversions : Obligations.FpConversions := by
  intro s fs fd hcu hfs hfd
  have word := fun src mode hf => fpToWord_toInteger (src := src) hcu hfd hfs mode hf
  have long := fun hx hfr src mode hf => fpToLong_toInteger (fs := fs) (src := src) hcu hfd hx hfr mode hf
  exact ⟨fpToFp_fromFloat hcu hfd hfs, fpToFp_fromFloat hcu hfd hfs, wordToFp_fromInteger hcu hfd hfs,
    wordToFp_fromInteger hcu hfd hfs, word .s _, word .d _, word .s 0, word .d 0, word .s 1, word .d 1, word .s 2, word .d 2,
    word .s 3, word .d 3, fun hx hfr => ⟨longToFp_fromInteger hcu hfd hx hfr, longToFp_fromInteger hcu hfd hx hfr,
      long hx hfr .s _, long hx hfr .d _, long hx hfr .s 0, long hx hfr .d 0, long hx hfr .s 1, long hx hfr .d 1,
      long hx hfr .s 2, long hx hfr .d 2, long hx hfr .s 3, long hx hfr .d 3⟩⟩

end Sys2Proof.Proofs.FpConvert
end
